-- ==== Sys2Proof/Word.lean ====
section
/-! DEFINITION. The words of the Idegan FM4: bytes, 32-bit bus words and addresses, and the order of bytes in shared memory. -/

namespace Sys2Proof

/-- One byte of shared memory, or one character code. -/
abbrev Byte := BitVec 8

/-- One 32-bit word of the register window or of a record. -/
abbrev Word := BitVec 32

/-- A 32-bit byte address on the shared bus (Conventions, "Memory"). Sums wrap at 2^32 (R16). -/
abbrev Addr := BitVec 32

end Sys2Proof
end

