-- ==== Sys2Proof/Syntax.lean ====
section
/-! DEFINITION. The commands the FM4 takes: one constructor for each row of spec/opcode_table.json. A row gives no
fields; the operands are what the row's event carries with it: the value and byte lanes of a register write, the
data that a read of shared memory returned, the station a report or a timer belongs to, a photometer's readings. -/

namespace Sys2Proof

/-- The four exposure stations S0 to S3. -/
inductive StationId where
  | s0 | s1 | s2 | s3
  deriving DecidableEq, Repr

/-- The registers that REGISTER_WRITE addresses: those whose write has no row of its own (R165). -/
inductive PlainReg where
  | ident | stat | brdBase | brdSlots | attn
  deriving DecidableEq, Repr

/-- One command or event (the opcode table's rows, in the table's order). -/
inductive Instr where
  | powerOnReset
  | softReset
  /-- A CTRL write that gives PORT_EN the value `v`. -/
  | portEn (v : Bool)
  /-- A CTRL write that gives SCAN_EN the value `v`. -/
  | scanEn (v : Bool)
  /-- A CTRL write that gives INT_EN the value `v`. -/
  | intEn (v : Bool)
  /-- A CTRL write that gives PARK_EN the value `v`. -/
  | parkEn (v : Bool)
  /-- A CTRL write that gives WAIT the value `v`. -/
  | wait (v : BitVec 4)
  /-- A write of `value` to SCANIVL, on the byte lanes set in `lanes`. -/
  | scanivlWrite (value : Word) (lanes : BitVec 4)
  | look
  | attnRead
  /-- A write of `value` to a register with no row of its own, on the byte lanes set in `lanes`. -/
  | registerWrite (reg : PlainReg) (value : Word) (lanes : BitVec 4)
  | scanTimerExpiry
  /-- The data of a slot read: 16 bytes, or the 4 of a stop word read alone (R33). -/
  | slotReadDone (data : List Byte)
  | kindPeekDone (data : List Byte)
  | claimReadDone (data : List Byte)
  | claimWriteDone
  | ticketHeadReadDone (data : List Byte)
  | ticketRestReadDone (data : List Byte)
  /-- The end of the read of a tone table image, with its 512 bytes. -/
  | toneLoad (data : List Byte)
  | stockSet
  | supplySet
  | calRequest
  | stationPark
  | stationWake
  | stationReset
  | timingSet
  | serialSet
  | emitterRead
  | stationQuery
  | outputWriteDone
  | completionWriteDone
  | doneWriteDone
  /-- The stop word read for a load decision. -/
  | loadDecision (stop : Word)
  | passEndReadingDone (stop : Word)
  | boundaryReadingDone (stop : Word)
  | bandReadingDone (stop : Word)
  | dozeTimerExpiry (st : StationId)
  | holdTimerExpiry (st : StationId)
  | wakeTimerExpiry (st : StationId)
  | loadTimerExpiry (st : StationId)
  /-- Registration found; `feed` numbers the feed command the report answers (R69). -/
  | registrationFound (st : StationId) (feed : Nat)
  /-- Registration failed; `feed` numbers the feed command the report answers (R69). -/
  | registrationFailed (st : StationId) (feed : Nat)
  | jam (st : StationId)
  | headFault (st : StationId)
  | sheetStacked (st : StationId)
  | moveComplete (st : StationId)
  | settleTimerExpiry (st : StationId)
  /-- The photometer's 2,048 readings of a FULL, in permille (R145). -/
  | fullMeasurementReport (st : StationId) (readings : List Nat)
  /-- The photometer's reading Q of a QUICK, in permille (R147). -/
  | quickMeasurementReport (st : StationId) (q : Nat)
  | pageEntryReadDone (data : List Byte)
  | rowFetchDone (data : List Byte)
  | lineEnd (st : StationId)
  | busGrant
  | busyReleased
  | grantWithdrawn
  | transferTimeout
  deriving DecidableEq, Repr

end Sys2Proof
end

