-- ==== Sys2Proof/Decode.lean ====
section
/-! DEFINITION. The decoder the host asks for. No row of spec/opcode_table.json gives bits: the FM4's commands are
register writes, completions of its own bus requests, timer expiries and reports, and none of them is spelled by a
word. -/

namespace Sys2Proof

/-- The command a word spells by the opcode table's bits: none, since no row of the table has any. -/
def decodeTableWord (_nbits _w : Nat) : Option Instr := none

end Sys2Proof
end

