-- ==== Sys2Proof/Config.lean ====
section
/-! DEFINITION. What the FM4's manual fixes as a constant, and the one free value of the model. -/

namespace Sys2Proof

/-- FREE VALUE (log 3). Where the manual says of things that arrive together that "either may be taken first"
(R170: requests that join the port's list together; R141, R87: stations that ask for the photometer at one
event), the n-th such choice is `Config.pick n`. It has no body: nothing can be proved of its value. -/
opaque Config.pick : Nat → Nat

namespace Config

/-- Emitters of a head (The Fiche Sheet, R1). -/
def emitters : Nat := 2048
/-- Places of the dispatcher's intake list (R53). -/
def intakePlaces : Nat := 8
/-- Tasks the write list holds (R44). -/
def writeListPlaces : Nat := 16
/-- Sheets a job may load (R13). -/
def sheetLimit : Nat := 16
/-- Exposure permits (R118). -/
def permits : Nat := 2
/-- Lines of a band (R95). -/
def bandLines : Nat := 64
/-- Wake timer from PARKED, in ms (R70). -/
def wakeFromParkedMs : Nat := 500
/-- Wake timer from DOZING, in ms (R70). -/
def wakeFromDozingMs : Nat := 50
/-- Load timer, in ms (R76). -/
def loadMs : Nat := 4000
/-- Settle timer of a calibration, in ms (R144). -/
def settleMs : Nat := 20
/-- DEAD emitters above which a FULL faults its station HEAD_WORN (R146). -/
def wornLimit : Nat := 256
/-- Swaths of a title strip (R8). -/
def swaths : Nat := 10

end Config

end Sys2Proof
end

