-- ==== Sys2Proof/Machine/State.lean ====
section
/-! DEFINITION. All the state the manual gives the FM4, block by block, as plain data; the reasons a step can stop;
and the machine right after power-on reset. -/

namespace Sys2Proof.Machine

/-! ## Reasons a step stops -/

/-- Why the machine stops. The manual names no event that stops the FM4 (jams, head faults and port errors are
effects on its state), so there is no reason. -/
inductive Fault where
  deriving DecidableEq, Repr

/-- Why a command has no meaning. -/
inductive Refusal where
  /-- Raised by an arm of `exec` whose command has no meaning yet (none at present). Safe: the machine stops. -/
  | notModelled (mnemonic : String)
  deriving DecidableEq, Repr

/-! ## One thing for each station -/

/-- Four like things, one for each station. -/
structure PerStation (α : Type) where
  s0 : α
  s1 : α
  s2 : α
  s3 : α
  deriving DecidableEq, Repr

/-- The four stations in ascending number. -/
def allStations : List StationId := [.s0, .s1, .s2, .s3]

/-! ## Register window -/

/-- CTRL but for SOFT_RESET, which reads 0 (R166). -/
structure Ctrl where
  portEn : Bool
  scanEn : Bool
  intEn : Bool
  parkEn : Bool
  wait : BitVec 4
  deriving DecidableEq, Repr

/-! ## Memory port (R170 to R173) -/

/-- The ten client channels. -/
inductive Channel where
  | scan
  | writer
  | row (st : StationId)
  | control (st : StationId)
  deriving DecidableEq, Repr

/-- What its channel asked a request for, and so which command answers it. -/
inductive Purpose where
  | slotRead
  | kindPeek
  | claim
  | ticketHead
  | ticketRest
  | toneImage
  | output
  | completionWrite
  | doneWrite
  | row (st : StationId)
  | pageEntry (st : StationId)
  | decision (st : StationId)
  | passEnd (st : StationId)
  | boundary (st : StationId)
  | band (st : StationId)
  deriving DecidableEq, Repr

inductive RequestKind where
  | read
  | write
  | lockedRmw
  deriving DecidableEq, Repr

/-- A request of the port's list (R170). `data` is empty for a read. The byte lanes a write drives are those of the
`len` bytes from `addr` on (`Request.lanes` of Machine/Ops.lean). -/
structure Request where
  purpose : Purpose
  kind : RequestKind
  addr : Addr
  len : Nat
  data : List Byte
  deriving DecidableEq, Repr

/-- The port's mastership of the bus (R171). -/
inductive Mastership where
  /-- Not master, bus request not asserted. -/
  | idle
  /-- Bus request asserted, no grant. -/
  | requesting
  /-- Granted, and waiting for busy to be released. -/
  | granted
  /-- Busy asserted: a word transfer is on the bus, of the request at the list's head or of one withdrawn. -/
  | tenure
  /-- Bus request kept and the grant held with the list empty. -/
  | parked
  deriving DecidableEq, Repr

structure Port where
  /-- The request list, oldest first. -/
  list : List Request
  /-- The requests made at the event being taken; they join the list when it ends. Empty between commands. -/
  arriving : List Request
  master : Mastership
  /-- The bus's busy signal has been released since the port last held it, and the port has not yet begun a tenure on
  that release (log 6). Another master's release: the port's own at a tenure's end does not set it (log 35). -/
  busFree : Bool
  /-- In tenure: the tenure ends with the request being served, or with the transfer of the one withdrawn: the grant has
  been withdrawn, or a soft reset taken (R171). -/
  grantLost : Bool
  /-- In tenure: the request withdrawn while being served, whose word transfer on the bus has not ended (R170). -/
  discarding : Option Request
  /-- In tenure: the locked sequence being served has made its read and is writing TAKEN. -/
  lockedWrite : Bool
  /-- In tenure: the number, from 0, of the word transfer on the bus among its request's (R172). -/
  transfer : Nat
  /-- The minimum wait (WAIT) with which the transfer on the bus began (R166). -/
  transferWait : BitVec 4
  deriving DecidableEq, Repr

/-! ## Job contexts (R51) -/

/-- The layout record as validated (R4). Lengths in micrometres. -/
structure Layout where
  rows : Nat
  cols : Nat
  titleMag : Nat
  titleLines : Nat
  w : Nat
  h : Nat
  pitchX : Nat
  pitchY : Nat
  x0 : Nat
  y0 : Nat
  t : Nat
  /-- Three lines of 48 character codes. -/
  title : List Byte
  deriving DecidableEq, Repr

/-- The exposure record, its five clamped fields clamped (R22, R115). -/
structure Exposure where
  stock : Nat
  tone : Nat
  allowance : Nat
  gain : Nat
  textLevel : Nat
  lineTicks : Nat
  margin : Nat
  deriving DecidableEq, Repr

inductive JobState where
  | queued
  | attached
  | supplyWait
  | sheetActive
  | finishing
  deriving DecidableEq, Repr

/-- The outcome codes of R19. -/
inductive TicketOutcome where
  | doneOk
  | doneWithVoids
  | stopped
  | sheetLost
  | sheetLimit
  | unfitStation
  | noStock
  | refusedTicket
  | ticketUnreadable
  | doneClamped
  | refusedState
  deriving DecidableEq, Repr

/-- The reason codes of R19. -/
inductive Reason where
  | none
  | layoutFit
  | layoutIndex
  | titleFit
  | pageCount
  | toneIndex
  | kind
  deriving DecidableEq, Repr

/-- The values of a release field that the FM4 writes (R26). -/
inductive Release where
  | exposed
  | failedRead
  | notExposed
  | lost
  | rejected
  deriving DecidableEq, Repr

inductive SheetEnd where
  | closed
  | lost
  deriving DecidableEq, Repr

/-- An entry of a job's sheet list (R28, R58). Its sheet index is its place in the list. -/
structure SheetEntry where
  serial : Word
  station : StationId
  ended : Option SheetEnd
  planned : Nat
  offset : Nat
  dead : Nat
  used : Nat
  deriving DecidableEq, Repr

inductive FrameStatus where
  | ok
  | voidRead
  | voidStop
  deriving DecidableEq, Repr

/-- A frame map entry (R132). `page` is `none` for the index frame. -/
structure FrameEntry where
  row : Nat
  col : Nat
  page : Option Nat
  key : List Byte
  status : FrameStatus
  streak : Bool
  aged : Bool
  held : Bool
  saturated : Nat
  holds : Nat
  deriving DecidableEq, Repr

structure PageCounts where
  exposed : Nat
  failedRead : Nat
  rejected : Nat
  notExposed : Nat
  lost : Nat
  deriving DecidableEq, Repr

/-- The calibration snapshot of a job's first load (R28, R58). -/
structure CalSnapshot where
  h : Nat
  dead : Nat
  weak : Nat
  sinceFull : Nat
  sinceQuick : Nat
  station : StationId
  valid : Bool
  deriving DecidableEq, Repr

/-- What a lost sheet hands to its job: its map as it stood, and the entry of the frame in flight (R63, R83). -/
structure LostSheet where
  index : Nat
  serial : Word
  map : List FrameEntry
  inFlight : Option FrameEntry
  deriving DecidableEq, Repr

/-- A job context. -/
structure Job where
  slot : Nat
  /-- The slot's address at its claim (R33). No two live contexts share it, and the model names a job by it. -/
  slotAddr : Addr
  post : Nat
  ticket : Addr
  layout : Layout
  ew : Nat
  lines : Nat
  /-- F, the page frames of a sheet. -/
  frames : Nat
  indexCap : Nat
  expo : Exposure
  clamped : Bool
  mask : Nat
  bufAddr : Addr
  bufSize : Nat
  pageCount : Nat
  nextPage : Nat
  planned : Nat
  state : JobState
  station : Option StationId
  /-- The bound flag with the bound station. -/
  boundTo : Option StationId
  lastStation : Option StationId
  returnPending : Bool
  stopSeen : Bool
  sheets : List SheetEntry
  counts : PageCounts
  totalHolds : Nat
  totalSaturated : Nat
  framesInJob : Nat
  snapshot : Option CalSnapshot
  /-- The kept frame maps, each with its sheet index, in load order (FRAME_MAP selected). -/
  kept : List (Nat × List FrameEntry)
  /-- Release fields written under the claim so far, failed writes counted (R46). -/
  fieldsWritten : Nat
  lostSheet : Option LostSheet
  /-- The outcome with which the job is to end once the dispatcher no longer waits (R65). -/
  ending : Option TicketOutcome
  outcome : Option TicketOutcome
  deriving DecidableEq, Repr

/-! ## Board scanner -/

/-- An entry of the held-slot set (R33). -/
structure HeldSlot where
  slot : Nat
  addr : Addr
  deriving DecidableEq, Repr

/-- An entry of the candidate list (R38). -/
structure Candidate where
  slot : Nat
  addr : Addr
  post : Nat
  ticket : Addr
  deriving DecidableEq, Repr

inductive ServiceKind where
  | toneLoad
  | stockSet
  | supplySet
  | calRequest
  | stationPark
  | stationWake
  | stationReset
  | timingSet
  | serialSet
  | emitterRead
  | stationQuery
  deriving DecidableEq, Repr

/-- A service ticket's fields as read (R30). -/
structure Service where
  kind : ServiceKind
  station : StationId
  selector : Nat
  p1 : Word
  p2 : Word
  p3 : Word
  p4 : Word
  bufAddr : Addr
  bufSize : Nat
  deriving DecidableEq, Repr

/-- What the scan half of a pass in progress waits for. -/
inductive ScanPhase where
  /-- The read-phase read of slot `n`. -/
  | slotRead (n : Nat)
  /-- The stop word read of a held slot the pass does not reach, and the addresses still to read after it. -/
  | heldRead (addr : Addr) (rest : List Addr)
  /-- The kind-code read of a candidate met with the intake list full. -/
  | kindPeek
  /-- The claim's locked sequence. -/
  | claim
  | ticketHead
  /-- The rest of the ticket whose first 16 bytes are `head`. -/
  | ticketRest (head : List Byte)
  /-- The read of a TONE_LOAD's image. -/
  | toneImage (svc : Service)
  /-- A service past its first gate, to be executed by its own command. -/
  | service (svc : Service)
  /-- The writes of a service's output buffer: those still to make, the first of them on the port, and the bytes
  the service counts (R31, R32). -/
  | output (rest : List (Addr × List Byte)) (counted : Nat)
  /-- The addition of the candidate's ticket completion task to a full write list (R44). -/
  | taskWait
  deriving DecidableEq, Repr

/-- A scan pass in progress (R35, R38). -/
structure Pass where
  base : Addr
  slots : Nat
  phase : ScanPhase
  candidates : List Candidate
  /-- The candidate being dealt with. -/
  current : Option Candidate
  /-- The candidate holds a place in the intake list (R40). -/
  place : Bool
  deriving DecidableEq, Repr

/-! ## Completion writer -/

/-- A task of the write list (R44). -/
inductive Task where
  | rejection (slotAddr ticket : Addr) (st : StationId) (page : Nat)
  | release (slotAddr ticket : Addr) (st : StationId) (sheet : Nat) (serial : Word) (entries : List FrameEntry)
  | completion (slotAddr : Addr)
  | ticket (slotAddr : Addr) (outcome : TicketOutcome) (reason : Reason) (length : Nat)
  deriving DecidableEq, Repr

inductive WriteKind where
  | release
  | progress
  | buffer
  | resultWord
  | done
  deriving DecidableEq, Repr

/-- One write of the task in progress. -/
structure PlannedWrite where
  kind : WriteKind
  addr : Addr
  data : List Byte
  deriving DecidableEq, Repr

/-! ## Dispatcher -/

/-- An event that waits for the dispatcher while it waits to add a completion task (R65). -/
inductive DispatchEvent where
  /-- The sheet-stacked event of a station. -/
  | stacked (st : StationId)
  /-- The end of the job whose `ending` is set. -/
  | ending (slotAddr : Addr)
  /-- The ticket completion task of the candidate whose STATION_RESET lost a job: it is added after that job's (R160). -/
  | ticket (outcome : TicketOutcome) (reason : Reason) (length : Nat)
  deriving DecidableEq, Repr

/-- The four timing parameters (R161). -/
structure Timing where
  quickInterval : Nat
  fullInterval : Nat
  dozeDelay : Nat
  trimHold : Nat
  deriving DecidableEq, Repr

/-! ## Raster mapper -/

/-- A mapping context (R89). -/
structure Mapping where
  page : Nat
  image : Addr
  rowPitch : Nat
  mono : Bool
  rot90 : Bool
  sw : Nat
  sh : Nat
  ew : Nat
  lines : Nat
  step : Nat
  uw : Nat
  uh : Nat
  left : Nat
  top : Nat
  margin : Nat
  nextBand : Nat
  deriving DecidableEq, Repr

inductive BandState where
  | free
  | filling
  | full
  | failed
  deriving DecidableEq, Repr

/-- A band buffer (R98): while FILLING, the rows still to fetch, the first of them on the port. -/
structure BandBuffer where
  state : BandState
  band : Nat
  rows : List Nat
  dots : List (List Nat)
  deriving DecidableEq, Repr

/-! ## Stations -/

inductive StationState where
  | parked
  | waking
  | ready
  | dozing
  | calibrating
  | loading
  | sheetOpen
  | exposing
  | closing
  | faulted
  deriving DecidableEq, Repr

inductive FaultCause where
  | none
  | load
  | jam
  | head
  | headWorn
  | abandoned
  deriving DecidableEq, Repr

/-- The sheet context: present exactly while a sheet is present at the station. -/
structure Sheet where
  serial : Word
  index : Nat
  offset : Nat
  dead : Nat
  attempt : Nat
  titleDone : Bool
  nextPos : Nat
  map : List FrameEntry
  /-- The planned sheet count fixed at the load for the tag line (R11, R122). -/
  planned : Nat
  /-- The open entry of the frame in flight (R123, R132). -/
  openEntry : Option FrameEntry
  deriving DecidableEq, Repr

/-- The areas of a sheet that are exposed (R116); a title strip by its swath. -/
inductive Area where
  | title (swath : Nat)
  | page
  | voidPass
  | index
  deriving DecidableEq, Repr

/-- What a station with a sheet open is doing. -/
inductive Activity where
  | idle
  /-- The registration reading or a frame boundary reading is outstanding (R77, R117). -/
  | boundaryReading
  /-- A due QUICK has been asked for at a boundary (R116). -/
  | quickWait
  /-- The next page's entry is being read. -/
  | entryRead
  /-- A rejection task has not ended (R45). -/
  | rejecting
  /-- A positioning is outstanding (R119). -/
  | positioning (a : Area)
  /-- Positioned for a page frame, band 0 not yet FULL. -/
  | bandWait
  | permitWait (a : Area)
  /-- Line `j` of area `a` is being exposed. -/
  | line (a : Area) (j : Nat)
  /-- The move to swath `k` is outstanding (R121). -/
  | swathMove (k : Nat)
  /-- The return move before a void pass on the permit held (R125). -/
  | returnMove
  /-- The film is held at the boundary after band `b` (R100). -/
  | lineHold (b : Nat)
  deriving DecidableEq, Repr

/-- Where the head carriage was last commanded to. -/
inductive HeadPlace where
  /-- Nowhere yet. -/
  | unplaced
  /-- The head's left edge at x micrometres (R1, R15). -/
  | at (x : Int)
  /-- Over the photometer (R143). -/
  | photometer
  deriving DecidableEq, Repr

/-- The transport command last given. -/
inductive TransportCommand where
  | none
  /-- Feed and register a sheet; feeds are numbered (R69). -/
  | feed (n : Nat)
  /-- Eject the sheet to the waste bin. -/
  | eject
  /-- Carry the sheet to the output cassette. -/
  | carry
  deriving DecidableEq, Repr

structure Station where
  state : StationState
  cause : FaultCause
  powered : Bool
  sheet : Option Sheet
  /-- A stacked sheet the dispatcher has not yet acted on (R80). -/
  stacked : Option Sheet
  stock : Nat
  speed : Nat
  supply : Nat
  /-- Timers: `none` is stopped, `some n` running, loaded with n (seconds: doze, hold; milliseconds: the others). -/
  dozeTimer : Option Nat
  holdTimer : Option Nat
  wakeTimer : Option Nat
  loadTimer : Option Nat
  settleTimer : Option Nat
  /-- The wake in progress began in PARKED (R70). -/
  wakeFromParked : Bool
  activity : Activity
  /-- A head or film move is outstanding (R69). -/
  moveOut : Bool
  /-- The number of the latest feed command. -/
  feeds : Nat
  /-- Sheets ejected to the waste bin. -/
  ejects : Nat
  transport : TransportCommand
  head : HeadPlace
  /-- The y, in micrometres, of the sheet's line last commanded under the head for an area's first line. -/
  filmY : Nat
  /-- The dwell of each emitter at the line being exposed, in ticks; empty when every emitter is off. -/
  drive : List Nat
  /-- The saturated dots of the line being exposed (R112). -/
  driveSaturated : Nat
  /-- A completed band reading that awaits its boundary: whether it found a stop (R123). -/
  bandReading : Option Bool
  mapping : Option Mapping
  bufA : BandBuffer
  bufB : BandBuffer
  deriving DecidableEq, Repr

/-! ## Calibration unit -/

inductive EmitterStatus where
  | ok
  | weak
  | dead
  deriving DecidableEq, Repr

inductive CalKind where
  | full
  | quick
  deriving DecidableEq, Repr

inductive CalPhase where
  | moving
  | settling
  | measuring
  deriving DecidableEq, Repr

/-- A calibration in flight (R143): its kind, its phase, and the marks it answers (FULL required is answered by the
table's becoming valid). -/
structure Calibration where
  kind : CalKind
  phase : CalPhase
  answersQuickRequired : Bool
  answersQuickDue : Bool
  answersFullDue : Bool
  deriving DecidableEq, Repr

/-- The calibration unit's state of one station. FULL required stands exactly while `valid` is false (R138). -/
structure CalUnit where
  trims : List Nat
  statuses : List EmitterStatus
  valid : Bool
  dead : Nat
  weak : Nat
  /-- S, the sum of the live readings of the last FULL. -/
  liveSum : Nat
  h : Nat
  sinceFull : Nat
  sinceQuick : Nat
  quickRequired : Bool
  quickDue : Bool
  fullDue : Bool
  flight : Option Calibration
  deriving DecidableEq, Repr

/-! ## The machine -/

/-- The state of the FM4, with the queue of the commands that wait. -/
structure State where
  ctrl : Ctrl
  portErr : Bool
  lostDone : Bool
  brdBase : Addr
  brdSlots : Nat
  scanIvl : Nat
  doneCount : Nat
  alertCount : Nat
  /-- The word the register window last returned to an ATTN read. -/
  readData : Word
  port : Port
  scanTimer : Option Nat
  passPending : Bool
  pass : Option Pass
  held : List HeldSlot
  /-- The write list, oldest first; its first task is in progress. -/
  tasks : List Task
  /-- The tasks that wait to join a full write list, oldest first (R44). -/
  waiters : List Task
  /-- The writes of the task in progress still to complete; the first of them is on the port. -/
  plan : List PlannedWrite
  /-- Every job context, in ascending order of post number and slot index. -/
  jobs : List Job
  /-- The events that wait for the dispatcher, oldest first. -/
  endQueue : List DispatchEvent
  serial : Word
  timing : Timing
  /-- The four tone tables of 256 entries. -/
  tones : List (List Nat)
  /-- The staging table: the entries that the read of a TONE_LOAD's image has placed, in entry order, each clamped to 1023;
  `none` for one whose word the command that ends the read has still to report (R104; DESIGN CHOICE, log 12). It holds
  nothing between two TONE_LOADs. -/
  staging : List (Option Nat)
  stations : PerStation Station
  cals : PerStation CalUnit
  permitHolders : List StationId
  permitQueue : List StationId
  photometer : Option StationId
  photometerQueue : List StationId
  /-- The model's own: the number of free choices made so far (`Config.pick`, log 3). -/
  choices : Nat
  /-- The commands that wait, first in, first out. -/
  pending : List Instr
  deriving DecidableEq, Repr

/-- A FREE band buffer. -/
def BandBuffer.empty : BandBuffer := { state := .free, band := 0, rows := [], dots := [] }

/-- An idle, empty memory port (R170, R171). -/
def Port.idle : Port :=
  { list := [], arriving := [], master := .idle, busFree := false, grantLost := false, discarding := none,
    lockedWrite := false, transfer := 0, transferWait := 0 }

/-- CTRL all zero. -/
def Ctrl.clear : Ctrl := { portEn := false, scanEn := false, intEn := false, parkEn := false, wait := 0 }

/-- A station after power-on reset (Exposure Stations, "The Station's State"). -/
def Station.reset : Station :=
  { state := .parked, cause := .none, powered := false, sheet := none, stacked := none, stock := 0, speed := 1024,
    supply := 0, dozeTimer := none, holdTimer := none, wakeTimer := none, loadTimer := none, settleTimer := none,
    wakeFromParked := false, activity := .idle, moveOut := false, feeds := 0, ejects := 0, transport := .none,
    head := .unplaced, filmY := 0, drive := [], driveSaturated := 0, bandReading := none, mapping := none,
    bufA := .empty, bufB := .empty }

/-- The calibration unit's state of one station after power-on reset (Head Calibration, "The Unit's State"). -/
def CalUnit.reset : CalUnit :=
  { trims := List.replicate Config.emitters 0, statuses := List.replicate Config.emitters .ok, valid := false,
    dead := 0, weak := 0, liveSum := 0, h := 1024, sinceFull := 0, sinceQuick := 0, quickRequired := false,
    quickDue := false, fullDue := false, flight := none }

/-- The timing parameters after power-on reset (R161). -/
def Timing.reset : Timing := { quickInterval := 200, fullInterval := 4000, dozeDelay := 30, trimHold := 600 }

/-- A tone table after power-on reset: entry p holds 4p (R103). -/
def toneReset : List Nat := (List.range 256).map (4 * ·)

/-- The machine right after power-on reset, with no command waiting. -/
def State.reset : State :=
  { ctrl := .clear, portErr := false, lostDone := false, brdBase := 0, brdSlots := 0, scanIvl := 0, doneCount := 0,
    alertCount := 0, readData := 0, port := .idle, scanTimer := none, passPending := false, pass := none,
    held := [], tasks := [], waiters := [], plan := [], jobs := [], endQueue := [], serial := 0,
    timing := .reset, tones := List.replicate 4 toneReset, staging := [],
    stations := ⟨.reset, .reset, .reset, .reset⟩, cals := ⟨.reset, .reset, .reset, .reset⟩,
    permitHolders := [], permitQueue := [], photometer := none, photometerQueue := [], choices := 0, pending := [] }

end Sys2Proof.Machine
end

