-- ==== Sys2Proof/Machine/Operands.lean ====
section
/-! DEFINITION. The byte layouts of the records in shared memory (chapter "Records in Shared Memory"): what the FM4
reads from a slot, a ticket, a page entry and a tone table image, and the codes it writes. -/

namespace Sys2Proof.Machine

/-! ## Bytes -/

/-- A multi-byte field's value: the least significant byte stands first (Conventions, "Memory"). -/
def leNat : List Byte → Nat
  | [] => 0
  | b :: l => b.toNat + 256 * leNat l

/-- The `n` bytes of `v`, least significant first. -/
def leBytes : Nat → Nat → List Byte
  | 0, _ => []
  | n + 1, v => BitVec.ofNat 8 v :: leBytes n (v / 256)

/-- The `n`-byte field at offset `off` of a record. -/
def field (d : List Byte) (off n : Nat) : Nat := leNat ((d.drop off).take n)

/-- A 4-byte field as a word. -/
def wordField (d : List Byte) (off : Nat) : Word := BitVec.ofNat 32 (field d off 4)

/-- An address with its low two bits taken as 0 (R16). -/
def align4 (a : Addr) : Addr := a &&& ~~~3#32

/-- An address moved on by `n` bytes, wrapping at 2^32 (R16). -/
def addrPlus (a : Addr) (n : Nat) : Addr := a + BitVec.ofNat 32 n

/-! ## The slot -/

/-- The address of slot `n` of a board (R16). -/
def slotAddress (base : Addr) (n : Nat) : Addr := addrPlus base (64 * n)

/-- The values of a slot's state word (R17). -/
def statePosted : Nat := 1
def stateTaken : Nat := 2
def stateDone : Nat := 3

/-- The state word of a slot's first 16 bytes. -/
def slotState (d : List Byte) : Nat := field d 0 4
/-- The post number. -/
def slotPost (d : List Byte) : Nat := field d 4 4
/-- The ticket address, its low two bits ignored. -/
def slotTicket (d : List Byte) : Addr := align4 (wordField d 8)
/-- The stop word: of a slot read, or of the 4 bytes of a stop word read alone. -/
def slotStop (d : List Byte) : Nat := if d.length = 4 then field d 0 4 else field d 0x0C 4

/-- The outcome codes (R19). -/
def TicketOutcome.code : TicketOutcome → Nat
  | .doneOk => 1
  | .doneWithVoids => 2
  | .stopped => 3
  | .sheetLost => 4
  | .sheetLimit => 5
  | .unfitStation => 6
  | .noStock => 7
  | .refusedTicket => 8
  | .ticketUnreadable => 9
  | .doneClamped => 10
  | .refusedState => 11

/-- The reason codes (R19). -/
def Reason.code : Reason → Nat
  | .none => 0
  | .layoutFit => 1
  | .layoutIndex => 2
  | .titleFit => 3
  | .pageCount => 4
  | .toneIndex => 5
  | .kind => 6

/-- The release field's values (The Page Entry). -/
def Release.code : Release → Nat
  | .exposed => 1
  | .failedRead => 2
  | .notExposed => 3
  | .lost => 4
  | .rejected => 5

/-! ## Stations and their codes -/

/-- The station a number's low two bits name (R30). -/
def stationOfNat (n : Nat) : StationId :=
  match n % 4 with
  | 0 => .s0
  | 1 => .s1
  | 2 => .s2
  | _ => .s3

/-- A station's number. -/
def stationNat : StationId → Nat
  | .s0 => 0
  | .s1 => 1
  | .s2 => 2
  | .s3 => 3

/-- The state codes of the station status record. -/
def StationState.code : StationState → Nat
  | .parked => 0
  | .waking => 1
  | .ready => 2
  | .dozing => 3
  | .calibrating => 4
  | .loading => 5
  | .sheetOpen => 6
  | .exposing => 7
  | .closing => 8
  | .faulted => 9

/-- The fault cause codes of the station status record. -/
def FaultCause.code : FaultCause → Nat
  | .none => 0
  | .load => 1
  | .jam => 2
  | .head => 3
  | .headWorn => 4
  | .abandoned => 5

/-- The attached job's state codes (R31). A queued or finishing job is attached to no station. -/
def JobState.code : JobState → Nat
  | .queued => 0
  | .attached => 2
  | .supplyWait => 3
  | .sheetActive => 4
  | .finishing => 0

/-- The status codes of a FRAME_MAP entry (R28). -/
def FrameStatus.code : FrameStatus → Nat
  | .ok => 1
  | .voidRead => 2
  | .voidStop => 3

/-- The status codes of the emitter report. -/
def EmitterStatus.code : EmitterStatus → Nat
  | .ok => 0
  | .weak => 1
  | .dead => 2

/-! ## Tickets -/

/-- The kind code of a ticket's first 16 bytes (R20). -/
def ticketKind (d : List Byte) : Nat := field d 0 2

/-- The kind code of a fiche ticket. -/
def ficheKind : Nat := 0x0001

/-- The service a kind code names (Tickets). -/
def serviceKindOf (k : Nat) : Option ServiceKind :=
  match k with
  | 0x10 => some .toneLoad
  | 0x11 => some .stockSet
  | 0x12 => some .supplySet
  | 0x13 => some .calRequest
  | 0x14 => some .stationPark
  | 0x15 => some .stationWake
  | 0x16 => some .stationReset
  | 0x17 => some .timingSet
  | 0x18 => some .serialSet
  | 0x19 => some .emitterRead
  | 0x1A => some .stationQuery
  | _ => none

/-- The fields of a 32-byte service ticket of kind `k` (The Service Ticket, R30). -/
def readService (k : ServiceKind) (d : List Byte) : Service :=
  { kind := k, station := stationOfNat (field d 0x02 1), selector := field d 0x03 1,
    p1 := wordField d 0x04, p2 := wordField d 0x08, p3 := wordField d 0x0C, p4 := wordField d 0x10,
    bufAddr := align4 (wordField d 0x14), bufSize := field d 0x18 4 }

/-- The layout record of a fiche ticket (The Fiche Ticket). -/
def readLayout (d : List Byte) : Layout :=
  { rows := field d 0x10 1, cols := field d 0x11 1, titleMag := field d 0x12 1, titleLines := field d 0x13 1,
    w := field d 0x14 4, h := field d 0x18 4, pitchX := field d 0x1C 4, pitchY := field d 0x20 4,
    x0 := field d 0x24 4, y0 := field d 0x28 4, t := field d 0x2C 4, title := (d.drop 0x30).take 144 }

/-- A page entry's fields as read from its first 32 bytes (The Page Entry, R23). -/
structure PageEntry where
  image : Addr
  width : Nat
  height : Nat
  rowPitch : Nat
  format : Nat
  rotation : Nat
  key : List Byte
  deriving DecidableEq, Repr

/-- The page entry in `d`. -/
def readPageEntry (d : List Byte) : PageEntry :=
  { image := wordField d 0x00, width := field d 0x04 2, height := field d 0x06 2, rowPitch := field d 0x08 4,
    format := field d 0x0C 2, rotation := field d 0x0E 2, key := (d.drop 0x10).take 16 }

/-- The bytes a source row needs (R24, R25): GRAY8 is format 1, MONO1 format 2. -/
def rowBytes (mono : Bool) (width : Nat) : Nat := if mono then (width + 7) / 8 else width

/-- A page entry passes the five checks of R24. -/
def PageEntry.good (e : PageEntry) : Bool :=
  decide (1 ≤ e.width) && decide (e.width ≤ 16384) && decide (1 ≤ e.height) && decide (e.height ≤ 16384) &&
  (e.format == 1 || e.format == 2) && (e.rotation == 0 || e.rotation == 90) &&
  decide (rowBytes (e.format == 2) e.width ≤ e.rowPitch)

/-- The address of page entry `i` of a fiche ticket (R16). -/
def pageEntryAddress (ticket : Addr) (i : Nat) : Addr := addrPlus ticket (0xD0 + 48 * i)

/-- 16 space codes, the key of an index frame and of a page whose entry could not be read (R23, R127). -/
def spaceKey : List Byte := List.replicate 16 0x20

/-! ## Writes -/

/-- The 12 bytes of a release field with its placement and serial, offsets 0x20 to 0x2B (R26, R45). `none` is the
placement of none. -/
def releaseBytes (r : Release) (placement : Option (Nat × Nat × Nat × Word)) : List Byte :=
  leBytes 4 r.code ++
    match placement with
    | some (sheet, row, col, serial) => leBytes 1 sheet ++ leBytes 1 row ++ leBytes 1 col ++ [0] ++ leBytes 4 serial.toNat
    | none => [0xFF, 0xFF, 0xFF, 0] ++ leBytes 4 0

/-- The write of page `i`'s release field. -/
def releaseWrite (ticket : Addr) (i : Nat) (r : Release) (placement : Option (Nat × Nat × Nat × Word)) : PlannedWrite :=
  { kind := .release, addr := addrPlus (pageEntryAddress ticket i) 0x20, data := releaseBytes r placement }

/-- The write of a slot's progress word (R19). -/
def progressWrite (slotAddr : Addr) (n : Nat) : PlannedWrite :=
  { kind := .progress, addr := addrPlus slotAddr 0x20, data := leBytes 4 n }

/-- The writes of a slot's five result words (R19). -/
def resultWordWrites (slotAddr : Addr) (outcome : TicketOutcome) (reason : Reason) (exposed closed length : Nat) :
    List PlannedWrite :=
  [{ kind := .resultWord, addr := addrPlus slotAddr 0x10, data := leBytes 2 outcome.code },
   { kind := .resultWord, addr := addrPlus slotAddr 0x12, data := leBytes 2 reason.code },
   { kind := .resultWord, addr := addrPlus slotAddr 0x14, data := leBytes 4 exposed },
   { kind := .resultWord, addr := addrPlus slotAddr 0x18, data := leBytes 4 closed },
   { kind := .resultWord, addr := addrPlus slotAddr 0x1C, data := leBytes 4 length }]

/-- The DONE write (R49). -/
def doneWrite (slotAddr : Addr) : PlannedWrite :=
  { kind := .done, addr := slotAddr, data := leBytes 4 stateDone }

/-- The entries of a tone table image, 256 of 16 bits (R30). -/
def toneEntries (d : List Byte) : List Nat := (List.range 256).map (fun p => field d (2 * p) 2)

/-- The first entries of `sizes` that end within `size` bytes from `start`: writing stops at the first piece that
does not fit (R29, R32). -/
def fitting : Nat → Nat → List (List Byte) → List (Nat × List Byte)
  | _, _, [] => []
  | size, start, d :: rest =>
    if start + d.length ≤ size then (start, d) :: fitting size (start + d.length) rest else []

end Sys2Proof.Machine
end

