-- ==== Sys2Proof/Machine/Flags.lean ====
section
/-! DEFINITION. Saturating counts, clamps, and the words in which the FM4 shows its state: the registers' bits, the
marks byte, the flags of a frame map entry. -/

namespace Sys2Proof.Machine

/-- A count that saturates at `n` (Conventions, "Integer arithmetic"). -/
def satAdd (n a b : Nat) : Nat := min n (a + b)

/-- `v` clamped to `lo..hi`. -/
def clamp (lo hi v : Nat) : Nat := max lo (min hi v)

/-- `a` divided by `b`, rounded up. -/
def ceilDiv (a b : Nat) : Nat := (a + b - 1) / b

/-- A Bool as a bit of weight `w`. -/
def bit (b : Bool) (w : Nat) : Nat := if b then w else 0

/-! ## Stations -/

/-- The value for one station. -/
def PerStation.get {α : Type} (p : PerStation α) : StationId → α
  | .s0 => p.s0
  | .s1 => p.s1
  | .s2 => p.s2
  | .s3 => p.s3

/-- The four values with that of one station replaced. -/
def PerStation.set {α : Type} (p : PerStation α) (i : StationId) (a : α) : PerStation α :=
  match i with
  | .s0 => { p with s0 := a }
  | .s1 => { p with s1 := a }
  | .s2 => { p with s2 := a }
  | .s3 => { p with s3 := a }

/-- The four values with that of one station changed by `f`. -/
def PerStation.upd {α : Type} (p : PerStation α) (i : StationId) (f : α → α) : PerStation α := p.set i (f (p.get i))

/-- A mask with bit n set for each station Sn that satisfies `p` (R168). -/
def stationMask (p : StationId → Bool) : Nat := bit (p .s0) 1 + bit (p .s1) 2 + bit (p .s2) 4 + bit (p .s3) 8

/-! ## Register window -/

/-- The word that results when the lanes of `value` set in `lanes` are written over `old` (R165). -/
def mergeLanes (old value : Word) (lanes : BitVec 4) : Word :=
  let mask : Word := BitVec.ofNat 32
    (bit (lanes.getLsbD 0) 0xFF + bit (lanes.getLsbD 1) 0xFF00 + bit (lanes.getLsbD 2) 0xFF0000 +
      bit (lanes.getLsbD 3) 0xFF000000)
  (old &&& ~~~mask) ||| (value &&& mask)

/-- The interrupt line: asserted while INT_EN is 1 and a count is nonzero (R169). -/
def State.irq (s : State) : Bool := s.ctrl.intEn && (s.doneCount != 0 || s.alertCount != 0)

/-- The job contexts in the intake list, in its order (R53). -/
def State.intake (s : State) : List Job := s.jobs.filter (fun j => j.state == .queued)

/-- The intake count (R53). -/
def State.intakeCount (s : State) : Nat := s.intake.length

/-- The faulted-station mask (R168). -/
def State.faultedMask (s : State) : Nat := stationMask (fun i => (s.stations.get i).state == .faulted)

/-- The parked-station mask (R168). -/
def State.parkedMask (s : State) : Nat := stationMask (fun i => (s.stations.get i).state == .parked)

/-- IDENT: family code 0x0F40 and revision 0x03, in every state. -/
def identWord : Word := 0x0F400003

/-- CTRL as read; SOFT_RESET reads 0. -/
def State.ctrlWord (s : State) : Word :=
  BitVec.ofNat 32 (bit s.ctrl.portEn 1 + bit s.ctrl.scanEn 2 + bit s.ctrl.intEn 4 + bit s.ctrl.parkEn 8 +
    16 * s.ctrl.wait.toNat)

/-- STAT as read (R168). -/
def State.statWord (s : State) : Word :=
  BitVec.ofNat 32 (bit s.portErr 1 + bit s.lostDone 2 + bit s.pass.isSome 4 + 16 * s.intakeCount +
    256 * s.faultedMask + 4096 * s.parkedMask)

/-- ATTN as it stands (R169). -/
def State.attnWord (s : State) : Word := BitVec.ofNat 32 (s.doneCount + 65536 * s.alertCount)

/-- The register at an offset of the window as a read finds it, ATTN's clearing apart (R165). -/
def State.readRegister (s : State) (offset : Nat) : Word :=
  match offset with
  | 0x00 => identWord
  | 0x04 => s.ctrlWord
  | 0x08 => s.statWord
  | 0x0C => s.brdBase
  | 0x10 => BitVec.ofNat 32 s.brdSlots
  | 0x14 => BitVec.ofNat 32 s.scanIvl
  | 0x1C => s.attnWord
  | _ => 0

/-- The commands a CTRL write amounts to (R166): a soft reset alone when SOFT_RESET is written 1, and otherwise each
field it writes, in the order of their bits. -/
def State.ctrlWrite (s : State) (value : Word) (lanes : BitVec 4) : List Instr :=
  if lanes.getLsbD 3 && value.getLsbD 31 then [.softReset]
  else
    let w := mergeLanes s.ctrlWord value lanes
    [.portEn (w.getLsbD 0), .scanEn (w.getLsbD 1), .intEn (w.getLsbD 2), .parkEn (w.getLsbD 3),
     .wait (w.extractLsb' 4 4)]

/-! ## Calibration marks and frame flags -/

/-- QUICK due or FULL due is set (R140). -/
def CalUnit.due (c : CalUnit) : Bool := c.quickDue || c.fullDue

/-- One of the four marks is set (R138). FULL required stands exactly while the table is invalid. -/
def CalUnit.marked (c : CalUnit) : Bool := !c.valid || c.quickRequired || c.quickDue || c.fullDue

/-- The marks byte of the station status record. -/
def State.marksByte (s : State) (i : StationId) : Nat :=
  let c := s.cals.get i
  bit (!c.valid) 0x01 + bit c.quickRequired 0x02 + bit c.fullDue 0x04 + bit c.quickDue 0x08 + bit c.valid 0x10 +
    bit (s.permitHolders.contains i) 0x20 + bit (s.photometerQueue.contains i) 0x40 +
    bit (s.permitQueue.contains i) 0x80

/-- The flags byte of a FRAME_MAP entry. -/
def FrameEntry.flags (e : FrameEntry) : Nat := bit e.streak 0x01 + bit e.aged 0x02 + bit e.held 0x04

/-- The frame counters after a frame-end event, and the marks they make due (R137). -/
def CalUnit.compare (t : Timing) (c : CalUnit) : CalUnit :=
  { c with quickDue := c.quickDue || decide (t.quickInterval ≤ c.sinceQuick)
           fullDue := c.fullDue || decide (t.fullInterval ≤ c.sinceFull) }

/-- A frame-end event at the calibration unit (R137). -/
def CalUnit.frameEnd (t : Timing) (c : CalUnit) : CalUnit :=
  CalUnit.compare t { c with sinceFull := satAdd 65535 c.sinceFull 1, sinceQuick := satAdd 65535 c.sinceQuick 1 }

/-! ## Exposure parameters (R22, R115) -/

/-- The exposure record of a fiche ticket with its five fields clamped, and whether any was out of range. -/
def readExposure (d : List Byte) : Exposure × Bool :=
  let allowance := field d 0xC3 1
  let gain := field d 0xC4 2
  let text := field d 0xC6 2
  let ticks := ceilDiv (field d 0xC8 4) 10
  let margin := field d 0xCC 2
  let e : Exposure :=
    { stock := field d 0xC0 2, tone := field d 0xC2 1, allowance := clamp 0 7 allowance, gain := clamp 1 1023 gain,
      textLevel := clamp 0 1023 text, lineTicks := clamp 400 65535 ticks, margin := clamp 0 255 margin }
  (e, e.allowance != allowance || e.gain != gain || e.textLevel != text || e.lineTicks != ticks || e.margin != margin)

end Sys2Proof.Machine
end

