-- ==== Sys2Proof/Machine/Geometry.lean ====
section
/-! DEFINITION. The fiche sheet (R1 to R15): derived sizes, the four layout checks in their order, the grid positions,
the sheet counts and the choice of the head window. -/

namespace Sys2Proof.Machine

/-- E_w, the dots across a frame (R2). -/
def Layout.ew (l : Layout) : Nat := l.w / 5
/-- L, the lines of a frame (R2). -/
def Layout.lines (l : Layout) : Nat := l.h / 5
/-- F, the page frames of a sheet (R5). -/
def Layout.frames (l : Layout) : Nat := l.rows * l.cols - 1
/-- The text columns of an index frame (R7). -/
def indexColumns (ew : Nat) : Nat := (ew + 16) / 240
/-- The text lines of an index column (R7). -/
def indexLines (lines : Nat) : Nat := lines / 14
/-- The index capacity (R7). -/
def Layout.indexCap (l : Layout) : Nat := indexColumns l.ew * indexLines l.lines

/-- `v` is in `lo..hi` and a multiple of 5. -/
def lengthIn (lo hi v : Nat) : Bool := decide (lo ≤ v) && decide (v ≤ hi) && v % 5 == 0

/-- Step 1: the geometry fields' ranges (R3). -/
def Layout.rangesOk (l : Layout) : Bool :=
  decide (1 ≤ l.rows) && decide (l.rows ≤ 16) && decide (1 ≤ l.cols) && decide (l.cols ≤ 24) &&
  decide (2 ≤ l.rows * l.cols) && lengthIn 500 10240 l.w && lengthIn 500 20000 l.h &&
  (l.cols == 1 || (decide (l.w ≤ l.pitchX) && l.pitchX % 5 == 0)) &&
  (l.rows == 1 || (decide (l.h ≤ l.pitchY) && l.pitchY % 5 == 0)) &&
  l.x0 % 5 == 0 && l.y0 % 5 == 0

/-- Step 2: the four fit conditions, formed without wrapping (R5). -/
def Layout.fits (l : Layout) : Bool :=
  decide (2000 ≤ l.x0) && decide (l.x0 + (l.cols - 1) * l.pitchX + l.w ≤ 103000) &&
  decide (2000 + l.t ≤ l.y0) && decide (l.y0 + (l.rows - 1) * l.pitchY + l.h ≤ 146000)

/-- Step 4: the title fields and the title fit, when T is not 0 (R9). -/
def Layout.titleOk (l : Layout) : Bool :=
  l.t == 0 ||
    (lengthIn 3000 15000 l.t && decide (8 ≤ l.titleMag) && decide (l.titleMag ≤ 40) && decide (l.titleLines ≤ 3) &&
      decide ((l.titleLines + 1) * 14 * l.titleMag * 5 ≤ l.t))

/-- The layout checks in their order (R10): the reason of the first that fails, or `none`. -/
def Layout.check (l : Layout) : Reason :=
  if !l.rangesOk then .layoutFit
  else if !l.fits then .layoutFit
  else if l.indexCap < l.frames then .layoutIndex
  else if !l.titleOk then .titleFit
  else .none

/-- The row and column of position `p` (R5). -/
def Layout.position (l : Layout) (p : Nat) : Nat × Nat := (p / l.cols, p - (p / l.cols) * l.cols)

/-- The left edge of position `p` (R5). -/
def Layout.left (l : Layout) (p : Nat) : Nat := l.x0 + (l.position p).2 * l.pitchX
/-- The top edge of position `p` (R5). -/
def Layout.top (l : Layout) (p : Nat) : Nat := l.y0 + (l.position p).1 * l.pitchY

/-- The head's left edge for a frame at left edge `x` exposed with window offset `o` (R15). -/
def headForFrame (x o : Nat) : Int := (x : Int) - 5 * (o : Int)
/-- The head's left edge for swath `k` of the title strip (R121). -/
def headForSwath (k : Nat) : Int := 2000 + 10240 * (k : Int)

/-- The pages of a job not yet reached (R11). -/
def Job.pagesLeft (j : Job) : Nat := j.pageCount - j.nextPage
/-- The sheets of a job that reached the output cassette (R19). -/
def Job.sheetsClosed (j : Job) : Nat := (j.sheets.filter (fun e => e.ended == some .closed)).length
/-- The sheets of a job that were lost (R27). -/
def Job.sheetsLost (j : Job) : Nat := (j.sheets.filter (fun e => e.ended == some .lost)).length
/-- The planned sheet count as revised at the start of a sheet load (R11). -/
def Job.revisedPlan (j : Job) : Nat := j.sheetsClosed + ceilDiv j.pagesLeft j.frames

/-! ## Head window (R54, R120) -/

/-- The DEAD emitters before each emitter, from the status table: entry e counts those below e. -/
def deadBefore : Nat → List EmitterStatus → List Nat
  | n, [] => [n]
  | n, e :: l => n :: deadBefore (if e = .dead then n + 1 else n) l

/-- The DEAD emitters in each window of `ew` emitters, by offset. -/
def windowCounts (statuses : List EmitterStatus) (ew : Nat) : List Nat :=
  let b := deadBefore 0 statuses
  List.zipWith (fun hi lo => hi - lo) (b.drop ew) b

/-- The distance of an offset from the centre offset (R120). -/
def centreDistance (ew o : Nat) : Nat :=
  let c := (Config.emitters - ew) / 2
  if o ≤ c then c - o else o - c

/-- The better of two windows (offset, DEAD count), `a` standing at the smaller offset: fewest DEAD, then nearest to
the centre, then the smaller offset (R120). -/
def betterWindow (ew : Nat) (a b : Nat × Nat) : Nat × Nat :=
  if b.2 < a.2 then b
  else if a.2 < b.2 then a
  else if centreDistance ew b.1 < centreDistance ew a.1 then b else a

/-- The best of the windows of a list of DEAD counts that begins at offset `o`, against the best so far. -/
def bestWindowFrom (ew : Nat) : Nat × Nat → Nat → List Nat → Nat × Nat
  | best, _, [] => best
  | best, o, c :: l => bestWindowFrom ew (betterWindow ew best (o, c)) (o + 1) l

/-- The head window for frames `ew` dots wide: its offset and its DEAD count (R120). -/
def chooseWindow (statuses : List EmitterStatus) (ew : Nat) : Nat × Nat :=
  match windowCounts statuses ew with
  | [] => (0, 0)
  | c :: l => bestWindowFrom ew (0, c) 1 l

/-- The fewest DEAD emitters in any window of `ew` emitters (R54). -/
def fewestDead (statuses : List EmitterStatus) (ew : Nat) : Nat := (chooseWindow statuses ew).2

end Sys2Proof.Machine
end

