-- ==== Sys2Proof/Machine/Raster.lean ====
section
/-! DEFINITION. Raster mapping (R89 to R97): the step and the used area, the source pixel of every dot, the bands and
their fetch lists, and the composition of a band from a fetched row. -/

namespace Sys2Proof.Machine

/-- The step of an image whose fitted size is `fw` by `fh`, on a frame of `ew` dots and `lines` lines (R90). -/
def mappingStep (fw fh ew lines : Nat) : Nat :=
  max 16384 (max (ceilDiv (fw * 65536) ew) (ceilDiv (fh * 65536) lines))

/-- The mapping context made at frame begin from a good page entry (R89 to R91). -/
def makeMapping (page : Nat) (e : PageEntry) (ew lines margin : Nat) : Mapping :=
  let rot := e.rotation == 90
  let fw := if rot then e.height else e.width
  let fh := if rot then e.width else e.height
  let step := mappingStep fw fh ew lines
  let uw := fw * 65536 / step
  let uh := fh * 65536 / step
  { page := page, image := e.image, rowPitch := e.rowPitch, mono := e.format == 2, rot90 := rot, sw := e.width,
    sh := e.height, ew := ew, lines := lines, step := step, uw := uw, uh := uh, left := (ew - uw) / 2,
    top := (lines - uh) / 2, margin := margin, nextBand := 0 }

/-- The k-th sample along an axis: floor(k × step / 65,536) (R93). -/
def Mapping.sample (m : Mapping) (k : Nat) : Nat := k * m.step / 65536

/-- Column `i` and line `j` lie in the used area (R91). -/
def Mapping.used (m : Mapping) (i j : Nat) : Bool :=
  decide (m.left ≤ i) && decide (i < m.left + m.uw) && decide (m.top ≤ j) && decide (j < m.top + m.uh)

/-- The source pixel (x, y) of a dot in the used area (R93, R94). -/
def Mapping.source (m : Mapping) (i j : Nat) : Nat × Nat :=
  if m.rot90 then (m.sample (j - m.top), m.sh - 1 - m.sample (i - m.left))
  else (m.sample (i - m.left), m.sample (j - m.top))

/-- Pixel `x` of a source row's bytes: GRAY8 its byte, MONO1 255 for a bit of 1, the leftmost pixel in a byte's most
significant bit (R25). -/
def pixel (mono : Bool) (row : List Byte) (x : Nat) : Nat :=
  if mono then (if (row.getD (x / 8) 0).getLsbD (7 - x % 8) then 255 else 0) else (row.getD x 0).toNat

/-- The bands of a frame (R95). -/
def bandCount (lines : Nat) : Nat := ceilDiv lines Config.bandLines

/-- The lines of band `b` of a frame (R95). -/
def bandLines (lines b : Nat) : List Nat :=
  (List.range Config.bandLines).filterMap
    (fun k => if Config.bandLines * b + k < lines then some (Config.bandLines * b + k) else none)

/-- The used lines of band `b` (R96). -/
def Mapping.usedLines (m : Mapping) (b : Nat) : List Nat :=
  (bandLines m.lines b).filter (fun j => decide (m.top ≤ j) && decide (j < m.top + m.uh))

/-- A monotone list with each value once. -/
def squeeze : List Nat → List Nat
  | a :: b :: l => if a = b then squeeze (b :: l) else a :: squeeze (b :: l)
  | l => l

/-- The fetch list of band `b`: the distinct source rows its used lines sample, ascending (R96), and of a rotated
frame every row its dots sample, for a band with a used line (R97). -/
def Mapping.fetchList (m : Mapping) (b : Nat) : List Nat :=
  if m.rot90 then
    (if (m.usedLines b).isEmpty then [] else
      (squeeze ((List.range m.uw).map (fun k => m.sh - 1 - m.sample k))).reverse)
  else if m.uw = 0 then []
  else squeeze ((m.usedLines b).map (fun j => m.sample (j - m.top)))

/-- The source columns band `b` of a rotated frame takes from each row (R97). -/
def Mapping.columnList (m : Mapping) (b : Nat) : List Nat :=
  squeeze ((m.usedLines b).map (fun j => m.sample (j - m.top)))

/-- A band buffer begun with band `b`: every dot at the margin value, its fetch list computed; FULL at once when the
list is empty (R98). -/
def Mapping.beginBand (m : Mapping) (b : Nat) : BandBuffer :=
  let rows := m.fetchList b
  { state := if rows.isEmpty then .full else .filling, band := b, rows := rows,
    dots := (bandLines m.lines b).map (fun _ => List.replicate m.ew m.margin) }

/-- A band's dots with source row `y` written into every dot that samples it (R98). -/
def Mapping.writeRow (m : Mapping) (b y : Nat) (row : List Byte) (dots : List (List Nat)) : List (List Nat) :=
  dots.mapIdx (fun k line => line.mapIdx (fun i p =>
    let j := Config.bandLines * b + k
    if m.used i j && (m.source i j).2 == y then pixel m.mono row (m.source i j).1 else p))

/-- The address of source row `y`, wrapping at 2^32 (R25, R98). -/
def Mapping.rowAddress (m : Mapping) (y : Nat) : Addr := addrPlus m.image (y * m.rowPitch)

/-- The bytes of a row request: by the width as entered, whatever the rotation (R98). -/
def Mapping.rowLength (m : Mapping) : Nat := rowBytes m.mono m.sw

/-- The values p of line `j`, in dot column order, from the buffer that holds its band (R99). -/
def BandBuffer.line (b : BandBuffer) (j : Nat) : List Nat := b.dots.getD (j - Config.bandLines * b.band) []

end Sys2Proof.Machine
end

