-- ==== Sys2Proof/Machine/Exposure.lean ====
section
/-! DEFINITION. Exposure arithmetic (R103 to R115): the five stages that turn a dot's value into a dwell, the dwells
of text and void passes, the saturation count, and the tone tables. -/

namespace Sys2Proof.Machine

/-- Line period in ticks from its field in ns, before its clamp (R106). -/
def lineTicksOf (ns : Nat) : Nat := ceilDiv ns 10

/-- The longest dwell a line allows (R106). -/
def dMax (lineTicks : Nat) : Nat := lineTicks - 40

/-- Stage 2: the correction for the station's film (R107). -/
def filmStage (e s : Nat) : Nat := (e * 1024 + s / 2) / s

/-- c_eff: the trim corrected by the head factor, clamped to 2047 (R108). -/
def effectiveTrim (c h : Nat) : Nat := min 2047 ((c * h + 512) / 1024)

/-- Stage 3 (R108). -/
def trimStage (ef ceff : Nat) : Nat := (ef * ceff + 512) / 1024

/-- Stage 4: the job's gain (R109). -/
def gainStage (et g : Nat) : Nat := (et * g + 128) / 256

/-- d_raw of an exposure `e` at film speed `s`, trim `c`, head factor `h` and gain `g` (R107 to R109). -/
def rawDwell (e s c h g : Nat) : Nat := gainStage (trimStage (filmStage e s) (effectiveTrim c h)) g

/-- Stage 5: the dwell driven (R110). -/
def drivenDwell (raw dmax : Nat) : Nat :=
  if raw = 0 then 0 else if raw < 4 then 4 else if raw ≤ dmax then raw else dmax

/-- A dot is saturated (R110, R112). -/
def saturates (raw dmax : Nat) : Bool := decide (dmax < raw)

/-- What one emitter is asked for at a line. -/
inductive DotAsk where
  /-- Outside the window or the swath: not lit (R111). -/
  | off
  /-- An exposure `e` that enters at stage 2: a page dot's tone entry, or the text level of a text dot. -/
  | expose (e : Nat)
  /-- A background dot of text (R113). -/
  | background
  /-- A dot of a void pass (R114). -/
  | void
  deriving DecidableEq, Repr

/-- The dwell of one emitter, and whether its dot is counted as saturated before the kind of area is looked at. -/
def askDwell (s h g lineTicks c : Nat) (status : EmitterStatus) (ask : DotAsk) : Nat × Bool :=
  if status = .dead then (0, false)
  else
    match ask with
    | .off => (0, false)
    | .background => (0, false)
    | .void => (dMax lineTicks, false)
    | .expose e => (drivenDwell (rawDwell e s c h g) (dMax lineTicks), saturates (rawDwell e s c h g) (dMax lineTicks))

/-- The dwell of each emitter from the head's left, given what each is asked for. -/
def headDwells (s h g lineTicks : Nat) : List Nat → List EmitterStatus → List DotAsk → List (Nat × Bool)
  | c :: cs, st :: sts, a :: as => askDwell s h g lineTicks c st a :: headDwells s h g lineTicks cs sts as
  | _, _, _ => []

/-- The asks of the whole head when the window of emitters from `o` on is asked for `window`. -/
def windowAsks (o : Nat) (window : List DotAsk) : List DotAsk :=
  List.replicate o .off ++ window ++ List.replicate (Config.emitters - o - window.length) .off

/-- Entry `p` of tone table `k` (R103). -/
def toneEntry (tones : List (List Nat)) (k p : Nat) : Nat := (tones.getD k []).getD p 0

/-- Tone table `k` replaced whole (R104). -/
def toneReplace (tones : List (List Nat)) (k : Nat) (t : List Nat) : List (List Nat) := tones.set k t

end Sys2Proof.Machine
end

