-- ==== Sys2Proof/Machine/Text.lean ====
section
/-! DEFINITION. The character generator (R129, R130) and the texts it renders: the title strip with the tag line (R8,
R11, R122) and the index frame (R127, R128). -/

namespace Sys2Proof.Machine

/-- The glyph of a character code, cell rows 2 to 8, bit 4 cell column 1 and bit 0 cell column 5 (R130). -/
def glyph (code : Nat) : Option (List Nat) :=
  match code with
  | 0x20 => some [0x00, 0x00, 0x00, 0x00, 0x00, 0x00, 0x00]
  | 0x30 => some [0x0E, 0x11, 0x13, 0x15, 0x19, 0x11, 0x0E]
  | 0x31 => some [0x04, 0x0C, 0x04, 0x04, 0x04, 0x04, 0x0E]
  | 0x32 => some [0x0E, 0x11, 0x01, 0x02, 0x04, 0x08, 0x1F]
  | 0x33 => some [0x1F, 0x02, 0x04, 0x02, 0x01, 0x11, 0x0E]
  | 0x34 => some [0x02, 0x06, 0x0A, 0x12, 0x1F, 0x02, 0x02]
  | 0x35 => some [0x1F, 0x10, 0x1E, 0x01, 0x01, 0x11, 0x0E]
  | 0x36 => some [0x06, 0x08, 0x10, 0x1E, 0x11, 0x11, 0x0E]
  | 0x37 => some [0x1F, 0x01, 0x02, 0x04, 0x08, 0x08, 0x08]
  | 0x38 => some [0x0E, 0x11, 0x11, 0x0E, 0x11, 0x11, 0x0E]
  | 0x39 => some [0x0E, 0x11, 0x11, 0x0F, 0x01, 0x02, 0x0C]
  | 0x41 => some [0x0E, 0x11, 0x11, 0x11, 0x1F, 0x11, 0x11]
  | 0x42 => some [0x1E, 0x11, 0x11, 0x1E, 0x11, 0x11, 0x1E]
  | 0x43 => some [0x0E, 0x11, 0x10, 0x10, 0x10, 0x11, 0x0E]
  | 0x44 => some [0x1C, 0x12, 0x11, 0x11, 0x11, 0x12, 0x1C]
  | 0x45 => some [0x1F, 0x10, 0x10, 0x1E, 0x10, 0x10, 0x1F]
  | 0x46 => some [0x1F, 0x10, 0x10, 0x1E, 0x10, 0x10, 0x10]
  | 0x47 => some [0x0E, 0x11, 0x10, 0x17, 0x11, 0x11, 0x0F]
  | 0x48 => some [0x11, 0x11, 0x11, 0x1F, 0x11, 0x11, 0x11]
  | 0x49 => some [0x0E, 0x04, 0x04, 0x04, 0x04, 0x04, 0x0E]
  | 0x4A => some [0x07, 0x02, 0x02, 0x02, 0x02, 0x12, 0x0C]
  | 0x4B => some [0x11, 0x12, 0x14, 0x18, 0x14, 0x12, 0x11]
  | 0x4C => some [0x10, 0x10, 0x10, 0x10, 0x10, 0x10, 0x1F]
  | 0x4D => some [0x11, 0x1B, 0x15, 0x15, 0x11, 0x11, 0x11]
  | 0x4E => some [0x11, 0x11, 0x19, 0x15, 0x13, 0x11, 0x11]
  | 0x4F => some [0x0E, 0x11, 0x11, 0x11, 0x11, 0x11, 0x0E]
  | 0x50 => some [0x1E, 0x11, 0x11, 0x1E, 0x10, 0x10, 0x10]
  | 0x51 => some [0x0E, 0x11, 0x11, 0x11, 0x15, 0x12, 0x0D]
  | 0x52 => some [0x1E, 0x11, 0x11, 0x1E, 0x14, 0x12, 0x11]
  | 0x53 => some [0x0F, 0x10, 0x10, 0x0E, 0x01, 0x01, 0x1E]
  | 0x54 => some [0x1F, 0x04, 0x04, 0x04, 0x04, 0x04, 0x04]
  | 0x55 => some [0x11, 0x11, 0x11, 0x11, 0x11, 0x11, 0x0E]
  | 0x56 => some [0x11, 0x11, 0x11, 0x11, 0x11, 0x0A, 0x04]
  | 0x57 => some [0x11, 0x11, 0x11, 0x15, 0x15, 0x15, 0x0A]
  | 0x58 => some [0x11, 0x11, 0x0A, 0x04, 0x0A, 0x11, 0x11]
  | 0x59 => some [0x11, 0x11, 0x11, 0x0A, 0x04, 0x04, 0x04]
  | 0x5A => some [0x1F, 0x01, 0x02, 0x04, 0x08, 0x10, 0x1F]
  | 0x23 => some [0x0A, 0x0A, 0x1F, 0x0A, 0x1F, 0x0A, 0x0A]
  | 0x26 => some [0x0C, 0x12, 0x14, 0x08, 0x15, 0x12, 0x0D]
  | 0x27 => some [0x0C, 0x04, 0x08, 0x00, 0x00, 0x00, 0x00]
  | 0x28 => some [0x02, 0x04, 0x08, 0x08, 0x08, 0x04, 0x02]
  | 0x29 => some [0x08, 0x04, 0x02, 0x02, 0x02, 0x04, 0x08]
  | 0x2B => some [0x00, 0x04, 0x04, 0x1F, 0x04, 0x04, 0x00]
  | 0x2C => some [0x00, 0x00, 0x00, 0x00, 0x0C, 0x04, 0x08]
  | 0x2D => some [0x00, 0x00, 0x00, 0x1F, 0x00, 0x00, 0x00]
  | 0x2E => some [0x00, 0x00, 0x00, 0x00, 0x00, 0x0C, 0x0C]
  | 0x2F => some [0x00, 0x01, 0x02, 0x04, 0x08, 0x10, 0x00]
  | 0x3A => some [0x00, 0x0C, 0x0C, 0x00, 0x0C, 0x0C, 0x00]
  | _ => none

/-- Cell dot (column, row) of a character is set: by its glyph, or all 96 dots of the solid block (R129, R130). -/
def cellDot (code : Byte) (col row : Nat) : Bool :=
  match glyph code.toNat with
  | some rows => decide (1 ≤ col) && decide (col ≤ 5) && decide (2 ≤ row) && (rows.getD (row - 2) 0).testBit (5 - col)
  | none => true

/-- A film dot (x, y), measured from the top left of the first cell of a text line at magnification `m`, is a text dot
of that line (R130). -/
def textLineDot (m : Nat) (codes : List Byte) (x y : Nat) : Bool :=
  match codes[x / (8 * m)]? with
  | some c => decide (y / m < 12) && cellDot c (x / m % 8) (y / m)
  | none => false

/-- The `n` decimal digits of `v`, with leading zeros, as character codes. -/
def digits : Nat → Nat → List Byte
  | 0, _ => []
  | n + 1, v => digits n (v / 10) ++ [BitVec.ofNat 8 (0x30 + v % 10)]

/-- The tag line's 29 characters: sheet number, planned sheet count (above 99 shown as 99) and serial (R11). -/
def tagLine (number planned : Nat) (serial : Word) : List Byte :=
  [0x53, 0x48, 0x45, 0x45, 0x54, 0x20] ++ digits 2 number ++ [0x2F] ++ digits 2 (min 99 planned) ++
    [0x20, 0x53, 0x45, 0x52, 0x49, 0x41, 0x4C, 0x20] ++ digits 10 serial.toNat

/-- The strip's text lines: the first title_lines host lines, then the tag line (R122). -/
def titleText (l : Layout) (sh : Sheet) : List (List Byte) :=
  (List.range l.titleLines).map (fun n => (l.title.drop (48 * n)).take 48) ++ [tagLine (sh.index + 1) sh.planned sh.serial]

/-- The strip line at which the text block stands (R122). -/
def titleTop (l : Layout) : Nat := (l.t / 5 - (l.titleLines + 1) * 14 * l.titleMag) / 2
/-- The strip dot column at which every text line begins (R122). -/
def titleLeft (l : Layout) : Nat := (20200 - 384 * l.titleMag) / 2

/-- The dot at strip column `x` and strip line `y` is a text dot (R122). -/
def titleDot (l : Layout) (sh : Sheet) (x y : Nat) : Bool :=
  if titleLeft l ≤ x ∧ titleTop l ≤ y then
    let dy := y - titleTop l
    match (titleText l sh)[dy / (14 * l.titleMag)]? with
    | some codes => textLineDot l.titleMag codes (x - titleLeft l) (dy % (14 * l.titleMag))
    | none => false
  else false

/-- The status word of an index text entry, characters 25 to 28 (R128). -/
def indexStatus (e : FrameEntry) : List Byte :=
  if e.status != .ok then [0x56, 0x4F, 0x49, 0x44]
  else if e.streak && e.aged then [0x53, 0x2B, 0x41, 0x47]
  else if e.streak then [0x53, 0x54, 0x52, 0x4B]
  else if e.aged then [0x41, 0x47, 0x45, 0x44]
  else [0x4F, 0x4B, 0x20, 0x20]

/-- The 28 characters of an index text entry (R128). -/
def indexText (e : FrameEntry) : List Byte :=
  [0x52] ++ digits 2 e.row ++ [0x43] ++ digits 2 e.col ++ [0x20] ++ e.key ++ [0x20] ++ indexStatus e

/-- The dot at column `i` and line `j` of the index frame is a text dot (R128). -/
def indexDot (map : List FrameEntry) (lines i j : Nat) : Bool :=
  let lt := indexLines lines
  if j / 14 < lt ∧ i % 240 < 224 then
    match map[i / 240 * lt + j / 14]? with
    | some e => textLineDot 1 (indexText e) (i % 240) (j % 14)
    | none => false
  else false

/-- What the window's emitters are asked for at a line of text: a text dot enters stage 2 with the text level (R113). -/
def textAsks (level n : Nat) (dot : Nat → Bool) : List DotAsk :=
  (List.range n).map (fun i => if dot i then .expose level else .background)

/-- The emitters swath `k` lights (R121). -/
def swathWidth (k : Nat) : Nat := if k = 9 then 1768 else Config.emitters

end Sys2Proof.Machine
end

