-- ==== Sys2Proof/Machine/Ops.lean ====
section
/-! DEFINITION. The shared operations over State, first part: access to stations, calibration sets and job contexts;
the memory port's list and mastership (R170 to R173); the stop word readings; the lines of an exposure; the permit
arbiter (R118) and the photometer (R141). -/

namespace Sys2Proof.Machine

/-! ## Access -/

/-- Station `i`. -/
def State.st (s : State) (i : StationId) : Station := s.stations.get i
/-- Station `i` changed by `f`. -/
def State.updSt (s : State) (i : StationId) (f : Station → Station) : State := { s with stations := s.stations.upd i f }
/-- The calibration unit's state of station `i`. -/
def State.cal (s : State) (i : StationId) : CalUnit := s.cals.get i
/-- The calibration unit's state of station `i` changed by `f`. -/
def State.updCal (s : State) (i : StationId) (f : CalUnit → CalUnit) : State := { s with cals := s.cals.upd i f }
/-- The sheet context of station `i` changed by `f`, when a sheet is present. -/
def State.updSheet (s : State) (i : StationId) (f : Sheet → Sheet) : State :=
  s.updSt i (fun x => { x with sheet := x.sheet.map f })
/-- The open entry of station `i`'s frame in flight changed by `f`. -/
def State.updEntry (s : State) (i : StationId) (f : FrameEntry → FrameEntry) : State :=
  s.updSheet i (fun sh => { sh with openEntry := sh.openEntry.map f })

/-- The job attached to station `i`. -/
def State.attached (s : State) (i : StationId) : Option Job := s.jobs.find? (fun j => j.station == some i)
/-- The job of the slot at `a`. -/
def State.job (s : State) (a : Addr) : Option Job := s.jobs.find? (fun j => j.slotAddr == a)
/-- The job of the slot at `a` changed by `f`. -/
def State.updJob (s : State) (a : Addr) (f : Job → Job) : State :=
  { s with jobs := s.jobs.map (fun j => if j.slotAddr = a then f j else j) }

/-- `a` stands before `b` in the order of jobs: post number, then slot index (R17, R53). Of two with both the same, which
only a change of BRDBASE between their claims allows, the earlier claimed stands first: DESIGN CHOICE (log 29), since the
manual gives them no order. -/
def jobBefore (a b : Job) : Bool := decide (a.post < b.post) || (a.post == b.post && decide (a.slot ≤ b.slot))
/-- A job put at its place. -/
def insertJob (j : Job) : List Job → List Job
  | [] => [j]
  | k :: l => if jobBefore k j then k :: insertJob j l else j :: k :: l

/-! ## Choices the manual leaves open -/

/-- `a` put at place `n`, or at the end when there are fewer. -/
def insertAt {α : Type} (a : α) : List α → Nat → List α
  | [], _ => [a]
  | b :: l, 0 => a :: b :: l
  | b :: l, n + 1 => b :: insertAt a l n

/-- A list in an order of which nothing is said but that it is one of its orders: the free value of log 3, from
choice `n` on. -/
def shuffle {α : Type} : Nat → List α → List α
  | _, [] => []
  | n, a :: l => insertAt a (shuffle (n + 1) l) (Config.pick n % (l.length + 1))

/-- The choices that the order of `n` things takes. -/
def choicesFor (n : Nat) : Nat := if n ≤ 1 then 0 else n

/-! ## Memory port -/

/-- The channel a request comes from (The Memory Port). -/
def Purpose.channel : Purpose → Channel
  | .slotRead | .kindPeek | .claim | .ticketHead | .ticketRest | .toneImage | .output => .scan
  | .completionWrite | .doneWrite => .writer
  | .row i => .row i
  | .pageEntry i | .decision i | .passEnd i | .boundary i | .band i => .control i

/-- One word transfer of a request: its aligned address and the byte lanes it is asked for (R172). -/
structure Transfer where
  addr : Addr
  lanes : List Bool
  deriving DecidableEq, Repr

/-- The word transfers that cover a request's bytes, in ascending address order (R172). -/
def Request.transfers (r : Request) : List Transfer :=
  let first := r.addr.toNat % 4
  (List.range ((first + r.len + 3) / 4)).map (fun k =>
    { addr := addrPlus (align4 r.addr) (4 * k),
      lanes := (List.range 4).map (fun b => decide (first ≤ 4 * k + b) && decide (4 * k + b < first + r.len)) })

/-- The byte lanes a write drives, over its transfers (R172). -/
def Request.lanes (r : Request) : List (List Bool) := r.transfers.map (·.lanes)

/-- The request whose word transfer is on the bus: the one withdrawn while being served, or the list's head (R170). -/
def Port.onBus (p : Port) : Option Request :=
  if p.master = .tenure then p.discarding.or p.list.head? else none

/-- Bus request, busy and lock as the port drives them (R171, R173). -/
def Port.busRequest (p : Port) : Bool := p.master != .idle
def Port.busy (p : Port) : Bool := p.master == .tenure
def Port.lock (p : Port) : Bool := p.onBus.any (fun r => r.kind == .lockedRmw)

/-- The request being served: the list's head, in tenure, once no withdrawn request's transfer is on the bus (R170). -/
def State.serving (s : State) : Option Request := if s.port.discarding.isNone then s.port.onBus else none

/-- A channel makes a request; it joins the list when the event ends. -/
def State.request (s : State) (r : Request) : State :=
  { s with port := { s.port with arriving := s.port.arriving ++ [r] } }

/-- A read request. -/
def State.requestRead (s : State) (p : Purpose) (a : Addr) (n : Nat) : State :=
  s.request { purpose := p, kind := .read, addr := a, len := n, data := [] }

/-- A write request. -/
def State.requestWrite (s : State) (p : Purpose) (a : Addr) (d : List Byte) : State :=
  s.request { purpose := p, kind := .write, addr := a, len := d.length, data := d }

/-- The port after the request being served has ended, `rest` being left on its list: the next request in the same
tenure, or parked, or the bus released (R170, R171). The port's own release of busy is no busy-released event to it: it leaves
`busFree` as it was (clear, since the tenure began), so the next grant waits for a BUSY_RELEASED even with no other master:
DESIGN CHOICE (log 35), since R171's table does not say whether busy stands released then. -/
def afterRequest (c : Ctrl) (p : Port) (rest : List Request) : Port :=
  let p' : Port := { p with list := rest, grantLost := false, discarding := none, lockedWrite := false, transfer := 0 }
  if p.grantLost || !c.portEn then { p' with master := .idle }
  else if !rest.isEmpty then { p' with master := .tenure, transferWait := c.wait }
  else { p' with master := if c.parkEn then .parked else .idle }

/-- The request being served ends and leaves the list. -/
def State.endRequest (s : State) : State := { s with port := afterRequest s.ctrl s.port s.port.list.tail }

/-- The word transfer on the bus of a request withdrawn while being served ends, its data discarded: the withdrawal takes
effect, and the port goes on with the list (R170, R171). -/
def State.endDiscarded (s : State) : State := { s with port := afterRequest s.ctrl s.port s.port.list }

/-- The requests that satisfy `p` leave the list. Of one being served the word transfer on the bus is still to end, and
the rest is not issued (R170). -/
def State.withdraw (s : State) (p : Request → Bool) : State :=
  { s with port := { s.port with arriving := s.port.arriving.filter (fun r => !p r)
                                 list := s.port.list.filter (fun r => !p r)
                                 discarding := s.port.discarding.or (s.serving.filter p) } }

/-- The port, granted and with busy released, begins its tenure with the first transfer of the list's oldest request;
with nothing on the list it is parked, or gives up the bus (R171; log 6). -/
def Port.begin (c : Ctrl) (p : Port) : Port :=
  let p' : Port := { p with busFree := false, grantLost := false, lockedWrite := false, transfer := 0 }
  if p.list.isEmpty then { p' with master := if c.parkEn then .parked else .idle }
  else { p' with master := .tenure, transferWait := c.wait }

/-- The port takes up its list when it may: it asserts bus request, begins at once when parked, and gives up a bid
for which nothing is left to serve (R171; log 6). -/
def settlePort (c : Ctrl) (p : Port) : Port :=
  match p.master with
  | .idle => if c.portEn && !p.list.isEmpty then { p with master := .requesting } else p
  | .parked => if c.portEn && !p.list.isEmpty then p.begin c else p
  | .requesting => if p.list.isEmpty && !c.parkEn then { p with master := .idle } else p
  | .granted => if p.list.isEmpty && !c.parkEn then { p with master := .idle } else p
  | .tenure => p

/-- The end of an event: the requests made at it join the list's tail, in any order when they are several (R170). -/
def State.join (s : State) : State :=
  let list := s.port.list ++ shuffle s.choices s.port.arriving
  { s with port := settlePort s.ctrl { s.port with list := list, arriving := [] }
           choices := s.choices + choicesFor s.port.arriving.length }

/-- The outcome of an event that leaves the block in `s`, before its requests have joined the list. -/
def State.done (s : State) : Host.Outcome State Fault Refusal := .next s.join

/-- A completion, when the request being served is one that it answers; the port takes up what follows, and the
channel then acts. One that answers a request withdrawn while being served ends its transfer, and nobody acts (R170). A
completion that answers no request on the bus changes nothing (log 2). -/
def State.completed (s : State) (answers : Request → Bool) (act : Request → State → State) :
    Host.Outcome State Fault Refusal :=
  match s.serving with
  | some r => if answers r then (act r s.endRequest).done else .next s
  | none => if s.port.discarding.any answers then s.endDiscarded.done else .next s

/-- How many word transfers the request being served takes: the write of a locked sequence takes one (R172, R173). -/
def Port.transferCount (p : Port) (r : Request) : Nat := if p.lockedWrite then 1 else r.transfers.length

/-- A word transfer of request `r` has ended. One of a TONE_LOAD's image places its two entries in the staging table (R104);
what they are, the command that ends the read reports: DESIGN CHOICE (log 12). -/
def State.stageTransfer (s : State) (r : Request) : State :=
  if r.purpose = .toneImage then { s with staging := s.staging ++ [none, none] } else s

/-- A word transfer ends at ready: a withdrawn request's ends its tenure or gives way to the next request, and one of the
request being served is followed by its next, which begins under the WAIT that stands (R166, R172), an image's two entries having been staged
(R104). The last transfer's end is its request's, reported by the command of the completion. -/
def State.transferEnds (s : State) : State :=
  match s.serving with
  | some r =>
    if s.port.transfer + 1 < s.port.transferCount r then
      { s.stageTransfer r with port := { s.port with transfer := s.port.transfer + 1, transferWait := s.ctrl.wait } }
    else s
  | none => if s.port.onBus.isSome then s.endDiscarded.join else s

/-! ## Stop word readings (R58, R60, R77, R117, R123) -/

/-- The request reads the stop word for station `i`. -/
def isStopReading (i : StationId) (r : Request) : Bool :=
  r.purpose == .decision i || r.purpose == .passEnd i || r.purpose == .boundary i || r.purpose == .band i

/-- The request is of station `i`'s control channel. -/
def ofControl (i : StationId) (r : Request) : Bool := r.purpose.channel == .control i
/-- The request is of one of station `i`'s channels. -/
def ofStation (i : StationId) (r : Request) : Bool := ofControl i r || r.purpose.channel == .row i

/-- A reading of station `i`'s stop word is outstanding. -/
def State.stopOutstanding (s : State) (i : StationId) : Bool :=
  s.port.list.any (isStopReading i) || s.port.arriving.any (isStopReading i)

/-- A load decision's reading is outstanding at station `i`. -/
def State.decisionOutstanding (s : State) (i : StationId) : Bool :=
  s.port.list.any (fun r => r.purpose == .decision i) || s.port.arriving.any (fun r => r.purpose == .decision i)

/-- The purpose of an outstanding reading that a second one is asked of: its value serves both (R60). A load decision
acts on a stop as a pass-end reading would, and a frame boundary as its last band would. -/
def servesBoth (new old : Purpose) : Purpose :=
  match old, new with
  | .passEnd _, .decision i => .decision i
  | .band _, .boundary i => .boundary i
  | o, _ => o

/-- Station `i` asks for its job's stop word. -/
def State.askStop (s : State) (i : StationId) (p : Purpose) : State :=
  if s.stopOutstanding i then
    let f := fun r : Request => if isStopReading i r then { r with purpose := servesBoth p r.purpose } else r
    { s with port := { s.port with list := s.port.list.map f, arriving := s.port.arriving.map f } }
  else
    match s.attached i with
    | some j => s.requestRead p (addrPlus j.slotAddr 0x0C) 4
    | none => s

/-- The stop-seen flag of station `i`'s job. -/
def State.stopSeen (s : State) (i : StationId) : Bool := (s.attached i).any (·.stopSeen)

/-- The stop-seen flag of station `i`'s job is set (R61). -/
def State.seeStop (s : State) (i : StationId) : State :=
  match s.attached i with
  | some j => s.updJob j.slotAddr (fun j => { j with stopSeen := true })
  | none => s

/-! ## The lines of an exposure -/

/-- The band buffer of station `x` that holds band `b` in state `st`. -/
def Station.bandIn (x : Station) (st : BandState) (b : Nat) : Bool :=
  (x.bufA.state == st && x.bufA.band == b) || (x.bufB.state == st && x.bufB.band == b)

/-- The buffer that holds band `b`. -/
def Station.bufferOf (x : Station) (b : Nat) : BandBuffer :=
  if x.bufA.state != .free && x.bufA.band == b then x.bufA else x.bufB

/-- What the head's emitters are asked for at line `j` of area `a` (R99, R113, R114, R121). -/
def State.lineAsks (s : State) (i : StationId) (job : Job) (sh : Sheet) (a : Area) (j : Nat) : List DotAsk :=
  match a with
  | .title k =>
    windowAsks 0 (textAsks job.expo.textLevel (swathWidth k)
      (fun e => titleDot job.layout sh (Config.emitters * k + e) j))
  | .page =>
    windowAsks sh.offset (((s.st i).bufferOf (j / Config.bandLines)).line j |>.map
      (fun p => .expose (toneEntry s.tones job.expo.tone p)))
  | .voidPass => windowAsks sh.offset (List.replicate job.ew .void)
  | .index => windowAsks sh.offset (textAsks job.expo.textLevel job.ew (fun c => indexDot sh.map job.lines c j))

/-- The area's saturated dots are counted: page frames and index frames (R112). -/
def Area.countsSaturation : Area → Bool
  | .title _ => false
  | .page => true
  | .voidPass => false
  | .index => true

/-- The dwells of every emitter at line `j` of area `a`, and the saturated dots counted. -/
def State.lineDwells (s : State) (i : StationId) (a : Area) (j : Nat) : List Nat × Nat :=
  match s.attached i, (s.st i).sheet with
  | some job, some sh =>
    let c := s.cal i
    let d := headDwells (s.st i).speed c.h job.expo.gain job.expo.lineTicks c.trims c.statuses (s.lineAsks i job sh a j)
    (d.map (·.1), if a.countsSaturation then (d.filter (·.2)).length else 0)
  | _, _ => ([], 0)

/-- Every emitter of station `i` is switched off. -/
def State.emittersOff (s : State) (i : StationId) : State :=
  s.updSt i (fun x => { x with drive := [], driveSaturated := 0 })

/-- Line `j` of area `a` begins at station `i`: at the first, a frame in flight is flagged AGED when a calibration is
due (R140); at a band's first, its stop word reading is requested (R123); the head is driven (R105). -/
def State.startLine (s : State) (i : StationId) (a : Area) (j : Nat) : State :=
  let s1 := if j = 0 ∧ (s.cal i).due then s.updEntry i (fun e => { e with aged := true }) else s
  let s2 :=
    if a = .page ∧ j % Config.bandLines = 0 then
      (let s1' := s1.updSt i (fun x => { x with bandReading := none })
       if s1'.stopSeen i || s1'.stopOutstanding i then s1' else s1'.askStop i (.band i))
    else s1
  s2.updSt i (fun x =>
    { x with activity := .line a j, drive := (s2.lineDwells i a j).1, driveSaturated := (s2.lineDwells i a j).2 })

/-! ## Permit arbiter (R118) -/

/-- A permit is granted to station `i`, which enters EXPOSING and begins the area it waits with (R80). -/
def State.grantPermit (s : State) (i : StationId) : State :=
  let s1 : State := { s with permitHolders := s.permitHolders ++ [i] }
  match (s.st i).activity with
  | .permitWait a => (s1.updSt i (fun x => { x with state := .exposing })).startLine i a 0
  | _ => s1

/-- Station `i`, positioned for area `a`, asks for a permit (R119). -/
def State.askPermit (s : State) (i : StationId) (a : Area) : State :=
  let s1 := s.updSt i (fun x => { x with activity := .permitWait a })
  if s.permitHolders.contains i || s.permitQueue.contains i then s1
  else if s.permitHolders.length < Config.permits then s1.grantPermit i
  else { s1 with permitQueue := s.permitQueue ++ [i] }

/-- Station `i` leaves the permit waiting list. -/
def State.leavePermitQueue (s : State) (i : StationId) : State :=
  { s with permitQueue := s.permitQueue.filter (· != i) }

/-- Station `i` returns its permit, when it holds one; the head of the waiting list is granted it. -/
def State.returnPermit (s : State) (i : StationId) : State :=
  if s.permitHolders.contains i then
    let s1 : State := { s with permitHolders := s.permitHolders.filter (· != i) }
    match s.permitQueue with
    | [] => s1
    | q :: rest => ({ s1 with permitQueue := rest } : State).grantPermit q
  else s

/-! ## Photometer (R141 to R143) -/

/-- The calibration a grant begins: its kind and the marks it answers (R143). -/
def CalUnit.granted (c : CalUnit) (sheetPresent : Bool) : Calibration :=
  let full := !c.valid || (c.fullDue && !sheetPresent)
  { kind := if full then .full else .quick, phase := .moving, answersQuickRequired := c.quickRequired,
    answersQuickDue := c.quickDue, answersFullDue := full && c.fullDue }

/-- The photometer is granted to station `i`, which enters CALIBRATING with its emitters off and its head moving to
the photometer (R143). -/
def State.grantPhotometer (s : State) (i : StationId) : State :=
  let s1 : State := { s with photometer := some i }
  let s2 := s1.updCal i (fun c => { c with flight := some (c.granted (s.st i).sheet.isSome) })
  s2.updSt i (fun x =>
    { x with state := .calibrating, dozeTimer := none, activity := .idle, drive := [], driveSaturated := 0,
             head := .photometer, moveOut := true })

/-- Station `i` asks for the photometer, unless it holds it or waits for it (R139, R141). -/
def State.askPhotometer (s : State) (i : StationId) : State :=
  if s.photometer = some i ∨ i ∈ s.photometerQueue then s
  else if s.photometer.isNone then s.grantPhotometer i
  else { s with photometerQueue := s.photometerQueue ++ [i] }

/-- Station `i` leaves the photometer queue. -/
def State.leavePhotometerQueue (s : State) (i : StationId) : State :=
  { s with photometerQueue := s.photometerQueue.filter (· != i) }

/-- Station `i` releases the photometer, when it holds it; the head of the queue is granted it. -/
def State.releasePhotometer (s : State) (i : StationId) : State :=
  if s.photometer = some i then
    match s.photometerQueue with
    | [] => { s with photometer := none }
    | q :: rest => ({ s with photometerQueue := rest } : State).grantPhotometer q
  else s

/-- A calibration in flight at station `i` is aborted: it writes nothing, its settle timer stops, and the photometer
is released (R150). -/
def State.abortCalibration (s : State) (i : StationId) : State :=
  if (s.cal i).flight.isSome then
    ((s.updCal i (fun c => { c with flight := none })).updSt i
      (fun x => { x with settleTimer := none, moveOut := false })).releasePhotometer i
  else s

/-! ## Timers and wakes -/

/-- A wake begins at station `i` (R70). -/
def State.beginWake (s : State) (i : StationId) : State :=
  let fromParked := (s.st i).state == .parked
  s.updSt i (fun x =>
    { x with state := .waking, dozeTimer := none, holdTimer := none, wakeFromParked := fromParked,
             wakeTimer := some (if fromParked then Config.wakeFromParkedMs else Config.wakeFromDozingMs) })

/-- The four conditions of an idle station under which its doze timer runs (R72). -/
def State.idle (s : State) (i : StationId) : Bool :=
  (s.st i).state == .ready && (s.attached i).isNone && !(s.cal i).marked && !s.photometerQueue.contains i &&
    s.timing.dozeDelay != 0

/-- The doze timer is loaded when the station has just become idle (R72). -/
def State.dozeIfIdle (s : State) (i : StationId) : State :=
  if s.idle i && (s.st i).dozeTimer.isNone then s.updSt i (fun x => { x with dozeTimer := some s.timing.dozeDelay })
  else s

/-- The ALERT count rises (R169). -/
def State.alert (s : State) : State := { s with alertCount := satAdd 255 s.alertCount 1 }

end Sys2Proof.Machine
end

