-- ==== Sys2Proof/Machine/Writer.lean ====
section
/-! DEFINITION. The completion writer (R44 to R49) as shared operations: the writes of each task in their order, the
result buffer (R27 to R29), and the adding of a task to the write list. -/

namespace Sys2Proof.Machine

/-! ## The result buffer of a fiche job -/

/-- Report mask bits (R21). -/
def Job.wantsSheets (j : Job) : Bool := j.mask.testBit 0
def Job.wantsFrameMap (j : Job) : Bool := j.mask.testBit 1
def Job.wantsCal (j : Job) : Bool := j.mask.testBit 2

/-- The code of a sheet's end. A sheet of a completed job has an end. -/
def sheetEndCode : Option SheetEnd → Nat
  | some .closed => 1
  | some .lost => 2
  | none => 0

/-- The 16 bytes of a SHEETS entry of sheet index `n` (R28). -/
def sheetBytes (n : Nat) (e : SheetEntry) : List Byte :=
  leBytes 4 e.serial.toNat ++ leBytes 1 n ++ leBytes 1 (stationNat e.station) ++ leBytes 1 (sheetEndCode e.ended) ++
    leBytes 1 (min 255 e.planned) ++ leBytes 2 e.offset ++ leBytes 2 e.dead ++ leBytes 2 e.used ++ leBytes 2 0

/-- The 32 bytes of a FRAME_MAP entry of sheet index `n` (R28). -/
def frameBytes (n : Nat) (e : FrameEntry) : List Byte :=
  leBytes 1 n ++ leBytes 1 e.row ++ leBytes 1 e.col ++ leBytes 1 e.status.code ++
    leBytes 2 (e.page.getD 0xFFFF) ++ leBytes 1 e.flags ++ leBytes 1 0 ++ leBytes 4 e.saturated ++
    leBytes 2 e.holds ++ leBytes 2 0 ++ e.key

/-- The 16 bytes of the CAL entry (R28). -/
def calBytes (c : CalSnapshot) : List Byte :=
  leBytes 2 c.h ++ leBytes 2 c.dead ++ leBytes 2 c.weak ++ leBytes 2 c.sinceFull ++ leBytes 2 c.sinceQuick ++
    leBytes 1 (stationNat c.station) ++ leBytes 1 (bit c.valid 1) ++ leBytes 4 0

/-- The entries of the selected sections, in the order SHEETS, FRAME_MAP, CAL (R28, R29). -/
def Job.sectionSheets (j : Job) : List (List Byte) :=
  if j.wantsSheets then j.sheets.mapIdx sheetBytes else []
def Job.sectionFrames (j : Job) : List (List Byte) :=
  if j.wantsFrameMap then j.kept.flatMap (fun k => k.2.map (frameBytes k.1)) else []
def Job.sectionCal (j : Job) : List (List Byte) :=
  if j.wantsCal then j.snapshot.toList.map calBytes else []
def Job.sections (j : Job) : List (List Byte) := j.sectionSheets ++ j.sectionFrames ++ j.sectionCal

/-- The 64 bytes of the fixed part (R27), `written` being how many of the entries of `Job.sections` were written. -/
def Job.fixedBytes (j : Job) (outcome : TicketOutcome) (written : Nat) : List Byte :=
  let nSheets := j.sectionSheets.length
  let nFrames := j.sectionFrames.length
  let truncated := decide (written < j.sections.length)
  leBytes 2 outcome.code ++ leBytes 2 0 ++ leBytes 4 j.pageCount ++ leBytes 4 j.counts.exposed ++
    leBytes 4 j.counts.failedRead ++ leBytes 4 j.counts.rejected ++ leBytes 4 j.counts.notExposed ++
    leBytes 4 j.counts.lost ++ leBytes 1 j.sheetsClosed ++ leBytes 1 j.sheetsLost ++
    leBytes 2 (bit j.clamped 1 + bit truncated 2) ++
    leBytes 4 ((j.sheets.head?.map (fun e => e.serial.toNat)).getD 0) ++
    leBytes 4 ((j.sheets.getLast?.map (fun e => e.serial.toNat)).getD 0) ++
    leBytes 4 j.totalHolds ++ leBytes 4 j.totalSaturated ++
    leBytes 2 (min written nSheets) ++ leBytes 2 (min (written - nSheets) nFrames) ++
    leBytes 1 (written - nSheets - nFrames) ++ leBytes 1 ((j.lastStation.map stationNat).getD 0xFF) ++
    leBytes 2 j.framesInJob ++ leBytes 8 0

/-- The writes of the result buffer, whole pieces, entries first and the fixed part last, and the slot's result
length (R29). -/
def Job.bufferWrites (j : Job) (outcome : TicketOutcome) : List PlannedWrite × Nat :=
  if j.bufSize < 64 then ([], 0)
  else
    let fit := fitting j.bufSize 64 j.sections
    (fit.map (fun p => { kind := .buffer, addr := addrPlus j.bufAddr p.1, data := p.2 }) ++
      [{ kind := .buffer, addr := j.bufAddr, data := j.fixedBytes outcome fit.length }],
     64 + (fit.map (fun p => p.2.length)).sum)

/-! ## The writes of the tasks -/

/-- The release value of a stacked sheet's frame (R46). -/
def FrameStatus.stackedRelease : FrameStatus → Release
  | .ok => .exposed
  | .voidRead => .failedRead
  | .voidStop => .notExposed

/-- The release value of a lost sheet's frame, the frame in flight included (R47, R63). -/
def FrameStatus.lostRelease : FrameStatus → Release
  | .ok => .lost
  | .voidRead => .failedRead
  | .voidStop => .notExposed

/-- The release writes of the entries that carry a page. -/
def entryWrites (ticket : Addr) (release : FrameStatus → Release) (sheet : Nat) (serial : Word)
    (entries : List FrameEntry) : List PlannedWrite :=
  entries.filterMap (fun e => e.page.map (fun p =>
    releaseWrite ticket p (release e.status) (some (sheet, e.row, e.col, serial))))

/-- Step 1 of a job completion: the pages of a lost sheet, the frame in flight last (R47). -/
def Job.lostWrites (j : Job) : List PlannedWrite :=
  match j.lostSheet with
  | some l => entryWrites j.ticket FrameStatus.lostRelease l.index l.serial (l.map ++ l.inFlight.toList)
  | none => []

/-- Step 2: the pages the job did not reach (R47). -/
def Job.unreachedWrites (j : Job) : List PlannedWrite :=
  (List.range (j.pageCount - j.nextPage)).map (fun k => releaseWrite j.ticket (j.nextPage + k) .notExposed none)

/-- The writes of a job completion task, in order (R47). -/
def Job.completionWrites (j : Job) : List PlannedWrite :=
  let outcome := j.outcome.getD .doneOk
  let releases := j.lostWrites ++ j.unreachedWrites
  let buffer := j.bufferWrites outcome
  releases ++ [progressWrite j.slotAddr (j.fieldsWritten + releases.length)] ++ buffer.1 ++
    resultWordWrites j.slotAddr outcome .none j.counts.exposed j.sheetsClosed buffer.2 ++ [doneWrite j.slotAddr]

/-- The slot a task names. -/
def Task.slotAddr : Task → Addr
  | .rejection a _ _ _ => a
  | .release a _ _ _ _ _ => a
  | .completion a => a
  | .ticket a _ _ _ => a

/-- The task is a job completion, added by the dispatcher. -/
def Task.isCompletion : Task → Bool
  | .completion _ => true
  | _ => false

/-- The task is a ticket completion, added by the scan half. -/
def Task.isTicket : Task → Bool
  | .ticket _ _ _ _ => true
  | _ => false

/-- The writes of a task, in its rule's order (R45 to R48). -/
def State.taskWrites (s : State) : Task → List PlannedWrite
  | .rejection _ ticket _ page => [releaseWrite ticket page .rejected none]
  | .release a ticket _ sheet serial entries =>
    let w := entryWrites ticket FrameStatus.stackedRelease sheet serial entries
    w ++ [progressWrite a (((s.job a).map (·.fieldsWritten)).getD 0 + w.length)]
  | .completion a => ((s.job a).map Job.completionWrites).getD []
  | .ticket a outcome reason length => resultWordWrites a outcome reason 0 0 length ++ [doneWrite a]

/-- The writer issues the first write of its plan (R44). -/
def State.issueWrite (s : State) : State :=
  match s.plan with
  | w :: _ => s.requestWrite (if w.kind = .done then .doneWrite else .completionWrite) w.addr w.data
  | [] => s

/-- The writer begins the oldest task, when it has one and none is in progress. -/
def State.beginTask (s : State) : State :=
  match s.tasks, s.plan with
  | t :: _, [] => ({ s with plan := s.taskWrites t } : State).issueWrite
  | _, _ => s

/-- A task is added to the write list, or waits while the list holds 16 (R44). -/
def State.addTask (s : State) (t : Task) : State :=
  if s.tasks.length < Config.writeListPlaces ∧ s.waiters.isEmpty then
    ({ s with tasks := s.tasks ++ [t] } : State).beginTask
  else { s with waiters := s.waiters ++ [t] }

/-- The dispatcher waits to add a job completion task (R65). -/
def State.dispatcherWaits (s : State) : Bool := s.waiters.any Task.isCompletion

end Sys2Proof.Machine
end

