-- ==== Sys2Proof/Machine/Pass.lean ====
section
/-! DEFINITION. The course of a scan pass as shared operations, first part (R36 to R41): its start and its end, and the
turn of the next candidate. -/

namespace Sys2Proof.Machine

/-- The pass in progress changed by `f`. -/
def State.updPass (s : State) (f : Pass → Pass) : State := { s with pass := s.pass.map f }

/-! ## The end of a pass -/

/-- Station `i` reads its job's stop word when a pass ends: a job in SUPPLY_WAIT, or one in ATTACHED whose station
wakes, calibrates or waits for the photometer (R60, R75). -/
def State.readsAtPassEnd (s : State) (i : StationId) : Bool :=
  match s.attached i with
  | some j =>
    !j.stopSeen && j.ending.isNone && (s.st i).sheet.isNone && (s.st i).stacked.isNone &&
      (j.state == .supplyWait ||
        (j.state == .attached && ((s.st i).state == .waking || (s.st i).state == .calibrating ||
          ((s.st i).state == .ready && s.photometerQueue.contains i))))
  | none => false

/-- The stop word readings made when a pass ends (R60). -/
def State.passEndReadings (s : State) : State :=
  allStations.foldl (fun s i => if s.readsAtPassEnd i then s.askStop i (.passEnd i) else s) s

/-- The scan timer is loaded, when SCAN_EN is 1 and SCANIVL is not 0 (R37). -/
def State.loadScanTimer (s : State) : State :=
  if s.ctrl.scanEn && s.scanIvl != 0 then { s with scanTimer := some s.scanIvl } else s

/-- A pass starts (R38). With BRDSLOTS at 0 it reads nothing and ends at once. -/
def State.startPass (s : State) : State :=
  let s1 : State := { s with scanTimer := none, passPending := false }
  if s.brdSlots = 0 then s1.passEndReadings.loadScanTimer
  else
    ({ s1 with pass := some { base := s.brdBase, slots := s.brdSlots, phase := .slotRead 0, candidates := [],
                              current := none, place := false } } : State).requestRead .slotRead (slotAddress s.brdBase 0) 16

/-- The pass ends: a new one starts at once when one is pending and SCAN_EN is 1, and otherwise the scan timer is
loaded (R36, R43). -/
def State.endPass (s : State) : State :=
  let s1 := ({ s with pass := none } : State).passEndReadings
  if s.passPending && s.ctrl.scanEn then s1.startPass else ({ s1 with passPending := false } : State).loadScanTimer

/-! ## The claim phase -/

/-- `a` is dealt with before `b`: post number, then slot index (R38). -/
def candidateBefore (a b : Candidate) : Bool := decide (a.post < b.post) || (a.post == b.post && decide (a.slot ≤ b.slot))
/-- A candidate put at its place. -/
def insertCandidate (c : Candidate) : List Candidate → List Candidate
  | [] => [c]
  | d :: l => if candidateBefore d c then d :: insertCandidate c l else c :: d :: l
/-- The candidate list sorted (R38). -/
def sortCandidates (l : List Candidate) : List Candidate := l.foldl (fun acc c => insertCandidate c acc) []

/-- The candidate's claim is requested: one locked sequence over the slot's first 16 bytes (R41). -/
def State.requestClaim (s : State) (c : Candidate) : State :=
  s.request { purpose := .claim, kind := .lockedRmw, addr := c.addr, len := 16, data := leBytes 4 stateTaken }

/-- The next candidate's turn: with room in the intake list it takes a place there and is claimed; with the list full
its kind code is read first; with none left the pass ends (R40, R43). -/
def State.nextCandidate (s : State) : State :=
  match s.pass with
  | some p =>
    match p.candidates with
    | [] => s.endPass
    | c :: rest =>
      let room := decide (s.intakeCount < Config.intakePlaces)
      let s1 : State := { s with pass := some { p with candidates := rest, current := some c, place := room
                                                       phase := if room then .claim else .kindPeek } }
      if room then s1.requestClaim c else s1.requestRead .kindPeek c.ticket 16
  | none => s

/-- The candidate's ticket completion task joins the write list, and the claim phase goes on; with the list full it waits
to (R44, R48). -/
def State.addTicket (s : State) (outcome : TicketOutcome) (reason : Reason) (length : Nat) : State :=
  match s.pass.bind (·.current) with
  | some c =>
    let s1 := s.addTask (.ticket c.addr outcome reason length)
    if s1.waiters.any Task.isTicket then s1 else s1.nextCandidate
  | none => s

end Sys2Proof.Machine
end

