-- ==== Sys2Proof/Machine/Dispatcher.lean ====
section
/-! DEFINITION. The dispatcher's shared operations (R51 to R67): ending a job, returning it, the NO_STOCK test, the
load decision and the sheet load it begins, the offer, the attach and the match; and what a READY station does first. -/

namespace Sys2Proof.Machine

/-- The place in the intake list that the candidate being claimed holds (R40). -/
def State.placeHeld (s : State) : Nat := bit (s.pass.any (·.place)) 1

/-- Counts of a job's pages raised by the release values of some frames (R62, R63). -/
def PageCounts.add (c : PageCounts) (release : FrameStatus → Release) (entries : List FrameEntry) : PageCounts :=
  entries.foldl (fun c e =>
    if e.page.isNone then c else
    match release e.status with
    | .exposed => { c with exposed := c.exposed + 1 }
    | .failedRead => { c with failedRead := c.failedRead + 1 }
    | .notExposed => { c with notExposed := c.notExposed + 1 }
    | .lost => { c with lost := c.lost + 1 }
    | .rejected => { c with rejected := c.rejected + 1 }) c

/-- The sum of the five page counts (R67). -/
def PageCounts.total (c : PageCounts) : Nat := c.exposed + c.failedRead + c.rejected + c.notExposed + c.lost

/-- A finished sheet's map added to its job: frames in job, the two totals, and the map itself when FRAME_MAP is
selected (R62, R63). -/
def Job.takeMap (j : Job) (sheet : Nat) (map : List FrameEntry) : Job :=
  { j with framesInJob := j.framesInJob + map.length
           totalHolds := satAdd 0xFFFFFFFF j.totalHolds (map.map (·.holds)).sum
           totalSaturated := satAdd 0xFFFFFFFF j.totalSaturated (map.map (·.saturated)).sum
           kept := if j.wantsFrameMap then j.kept ++ [(sheet, map)] else j.kept }

/-- The sheet list entry of sheet `n` given its end and its frames used. -/
def Job.endSheet (j : Job) (n : Nat) (e : SheetEnd) (used : Nat) : Job :=
  { j with sheets := j.sheets.mapIdx (fun k x => if k = n then { x with ended := some e, used := used } else x) }

/-! ## Ending a job (R65) -/

/-- A job as its ending event leaves it: a lost sheet's pages and the pages not reached counted, FINISHING, off its
station (R63, R65). -/
def Job.finished (j : Job) (outcome : TicketOutcome) : Job :=
  let c := match j.lostSheet with
    | some l => j.counts.add FrameStatus.lostRelease (l.map ++ l.inFlight.toList)
    | none => j.counts
  { j with counts := { c with notExposed := c.notExposed + (j.pageCount - j.nextPage) }
           state := .finishing, station := none, returnPending := false, ending := none, outcome := some outcome }

/-- The ending event of the job of the slot at `a`, its station released and its completion task added. -/
def State.finishJob (s : State) (a : Addr) (outcome : TicketOutcome) : State :=
  match s.job a with
  | some j =>
    let s1 := s.updJob a (fun j => j.finished outcome)
    let s2 := match j.station with
      | some i => s1.dozeIfIdle i
      | none => s1
    s2.addTask (.completion a)
  | none => s

/-- A job is to end: at once, or in its turn behind the completion the dispatcher waits to add (R65). -/
def State.endJob (s : State) (a : Addr) (outcome : TicketOutcome) : State :=
  if s.dispatcherWaits then
    { s.updJob a (fun j => { j with ending := some outcome }) with endQueue := s.endQueue ++ [.ending a] }
  else s.finishJob a outcome

/-! ## Stock and returns (R57, R64) -/

/-- Some station the job may run on carries its stock; a bound job counts its bound station alone (R57). -/
def State.stockCarried (s : State) (j : Job) : Bool :=
  allStations.any (fun i => (s.st i).stock == j.expo.stock && (j.boundTo.isNone || j.boundTo == some i))

/-- The NO_STOCK test for one context of the intake list (R57). -/
def State.testStock (s : State) (j : Job) : State :=
  if j.state == .queued && j.ending.isNone && !s.stockCarried j then s.endJob j.slotAddr .noStock else s

/-- The NO_STOCK test for every context of the intake list (R57, R155). Several jobs that one STOCK_SET leaves without their
stock end, and add their completion tasks, in the intake list's order, and a return (R64) that the place of one of them lets in
is made once every one has been tested, so a returned job that ends NO_STOCK too comes after them all: DESIGN CHOICE (log
33), since R155 runs the test for every job, R64 makes the return at that same event, and neither orders the ends. -/
def State.testAllStock (s : State) : State := s.intake.foldl (fun s j => s.testStock j) s

/-- The intake list has room for a return (R64). -/
def State.roomForReturn (s : State) : Bool := decide (s.intakeCount + s.placeHeld < Config.intakePlaces)

/-- The job returns to the intake list at its old place, and is tested for its stock (R64, R57). A stop word reading
its station has outstanding is withdrawn: it was the job's (log 10). -/
def State.makeReturn (s : State) (j : Job) : State :=
  let s1 := match j.station with
    | some i => s.withdraw (ofControl i)
    | none => s
  let s2 := s1.updJob j.slotAddr (fun j => { j with station := none, returnPending := false, state := .queued })
  let s3 := match j.station with
    | some i => s2.dozeIfIdle i
    | none => s2
  match s3.job j.slotAddr with
  | some j' => s3.testStock j'
  | none => s3

/-- An attached job with no sheet returns, or its return is left pending (R64). -/
def State.returnJob (s : State) (j : Job) : State :=
  if s.roomForReturn then s.makeReturn j else s.updJob j.slotAddr (fun j => { j with returnPending := true })

/-! ## The load decision (R58) and the sheet load (R76) -/

/-- The snapshot a job's first load takes (R28, R58). -/
def State.snapshotOf (s : State) (i : StationId) : CalSnapshot :=
  let c := s.cal i
  { h := c.h, dead := c.dead, weak := c.weak, sinceFull := c.sinceFull, sinceQuick := c.sinceQuick, station := i,
    valid := c.valid }

/-- The job as the start of a sheet load at station `i` leaves it (R58). A return that was pending is pending no longer
(DESIGN CHOICE, log 30). -/
def State.loadedJob (s : State) (i : StationId) (j : Job) (window : Nat × Nat) : Job :=
  { j with planned := j.revisedPlan, state := .sheetActive, returnPending := false, boundTo := j.boundTo.or (some i)
           snapshot := j.snapshot.or (some (s.snapshotOf i))
           sheets := j.sheets ++ [{ serial := s.serial, station := i, ended := none, planned := j.revisedPlan,
                                    offset := window.1, dead := window.2, used := 0 }] }

/-- The sheet context a load makes (R76). -/
def State.loadedSheet (s : State) (j : Job) (window : Nat × Nat) : Sheet :=
  { serial := s.serial, index := j.sheets.length, offset := window.1, dead := window.2, attempt := 1,
    titleDone := j.layout.t == 0, nextPos := 0, map := [], planned := j.revisedPlan, openEntry := none }

/-- A sheet load begins, as one event (R58, R59, R76). -/
def State.beginLoad (s : State) (i : StationId) (j : Job) (window : Nat × Nat) : State :=
  let s1 := s.updJob j.slotAddr (fun j => s.loadedJob i j window)
  let s2 : State := { s1 with serial := s.serial + 1 }
  s2.updSt i (fun x =>
    { x with state := .loading, sheet := some (s.loadedSheet j window), supply := x.supply - 1, dozeTimer := none,
             loadTimer := some Config.loadMs, feeds := x.feeds + 1, transport := .feed (x.feeds + 1),
             activity := .idle, bandReading := none })

/-- The station can run a load decision: READY, not in the photometer queue, no calibration required or due (R58). -/
def State.mayDecide (s : State) (i : StationId) : Bool :=
  (s.st i).state == .ready && !s.photometerQueue.contains i && !(s.cal i).marked

/-- The load decision's checks after the stop word, in their order (R58). -/
def State.decideLoad (s : State) (i : StationId) (j : Job) : State :=
  let window := chooseWindow (s.cal i).statuses j.ew
  if (s.st i).stock ≠ j.expo.stock then
    (if j.boundTo.isSome then s.endJob j.slotAddr .noStock else s.returnJob j)
  else if Config.sheetLimit ≤ j.sheets.length then s.endJob j.slotAddr .sheetLimit
  else if j.expo.allowance < window.2 then s.endJob j.slotAddr .unfitStation
  else if (s.st i).supply = 0 then s.updJob j.slotAddr (fun j => { j with state := .supplyWait })
  else s.beginLoad i j window

/-- The load decision at station `i`, `stop` telling whether its reading found a stop (R58). A decision whose reading
completes when the station has meanwhile been given a calibration waits, in ATTACHED, for the next offer (log 9). A job
whose return is pending meets the same checks as any other (R58, R88, R155): R64 does not say what a decision does with
the flag, and the model (DESIGN CHOICE, log 30) keeps it through SUPPLY_WAIT and clears it when a load begins. -/
def State.loadDecision (s : State) (i : StationId) (stop : Bool) : State :=
  match s.attached i with
  | some j =>
    if j.ending.isSome || !(j.state == .attached || j.state == .supplyWait) then s
    else if s.mayDecide i then
      (if stop || j.stopSeen then
        (s.updJob j.slotAddr (fun j => { j with stopSeen := true })).endJob j.slotAddr .stopped
      else s.decideLoad i j)
    else if stop && j.state == .supplyWait then
      (s.updJob j.slotAddr (fun j => { j with stopSeen := true })).endJob j.slotAddr .stopped
    else s.updJob j.slotAddr (fun j => { j with stopSeen := j.stopSeen || stop, state := .attached })
  | none => s

/-- The load decision is run: its stop word is read first, unless a stop has been seen already (R58, R61). -/
def State.runDecision (s : State) (i : StationId) : State :=
  if s.stopSeen i then s.loadDecision i true else s.askStop i (.decision i)

/-- Station `i` offers a load when its job is in ATTACHED, the station READY and no calibration required or due (R75); a job
whose return is pending is offered one too, for R75 makes no exception of it. No second offer is made while the reading of an
earlier one is outstanding. -/
def State.offer (s : State) (i : StationId) : State :=
  match s.attached i with
  | some j =>
    if j.state == .attached && j.ending.isNone && s.mayDecide i && !s.decisionOutstanding i then
      s.runDecision i
    else s
  | none => s

/-- What a READY station with no sheet does: a calibration required or due is asked for; otherwise a load is offered,
or the doze timer loaded (R72, R75, R139). A station whose stacked sheet the dispatcher has not acted on does none of
these (R80). -/
def State.readyActions (s : State) (i : StationId) : State :=
  if (s.st i).state = .ready ∧ (s.st i).stacked.isNone then
    (if (s.cal i).marked then (s.updSt i (fun x => { x with dozeTimer := none })).askPhotometer i
    else (s.offer i).dozeIfIdle i)
  else s

/-! ## Match and attach (R54 to R56) -/

/-- Station `i` is free (R54). -/
def State.free (s : State) (i : StationId) : Bool :=
  ((s.st i).state == .ready || (s.st i).state == .dozing || (s.st i).state == .calibrating) &&
    (s.st i).sheet.isNone && (s.attached i).isNone && decide (1 ≤ (s.st i).supply)

/-- Station `i` fits the job (R54). -/
def State.fitsJob (s : State) (i : StationId) (j : Job) : Bool :=
  (s.st i).stock == j.expo.stock && (j.boundTo.isNone || j.boundTo == some i) &&
    (!(s.cal i).valid || decide (fewestDead (s.cal i).statuses j.ew ≤ j.expo.allowance))

/-- The oldest job of the intake list that fits station `i`; a job whose end waits for the dispatcher is past it. -/
def State.oldestFit (s : State) (i : StationId) : Option Job :=
  s.intake.find? (fun j => j.ending.isNone && s.fitsJob i j)

/-- The lowest free station with a fitting job, and that job (R55). It is sought from S0 after each attach. A station is
freed inside a run only when a job ends, or returns, at its attach: R55 goes on to the next station and R65 runs a match at
the job's end, and that the model restarts at S0 there is its choice (DESIGN CHOICE, log 28). -/
def State.nextMatch (s : State) : Option (StationId × Job) :=
  allStations.findSome? (fun i => if s.free i then (s.oldestFit i).map (fun j => (i, j)) else none)

/-- A job is attached to a station, which acts on its state (R56). -/
def State.attach (s : State) (i : StationId) (j : Job) : State :=
  let s1 := s.updJob j.slotAddr (fun j => { j with station := some i, lastStation := some i, state := .attached })
  let s2 := s1.updSt i (fun x => { x with dozeTimer := none })
  if (s.st i).state = .dozing then s2.beginWake i else s2.readyActions i

/-- The oldest waiting return (R64). -/
def State.nextReturn (s : State) : Option Job := s.jobs.find? (fun j => j.returnPending && j.ending.isNone)

/-! ## The dispatcher at a sheet-stacked event (R62) -/

/-- A job with its stacked sheet counted (R62). -/
def Job.stackedSheet (j : Job) (sh : Sheet) : Job :=
  let j1 := (j.endSheet sh.index .closed sh.nextPos).takeMap sh.index sh.map
  { j1 with counts := j.counts.add FrameStatus.stackedRelease sh.map }

/-- The outcome of a job that ends at a sheet-stacked event (R65). -/
def Job.stackedOutcome (j : Job) : TicketOutcome :=
  if j.stopSeen && (decide (0 < j.counts.notExposed) || decide (j.nextPage < j.pageCount)) then .stopped
  else if j.counts.exposed = j.pageCount then .doneOk
  else .doneWithVoids

/-- The dispatcher acts on station `i`'s stacked sheet: it counts the sheet, and the job ends or moves to ATTACHED
(R62). -/
def State.handover (s : State) (i : StationId) : State :=
  match (s.st i).stacked, s.attached i with
  | some sh, some j =>
    let s1 := ({ s with endQueue := s.endQueue.filter (· != .stacked i) } : State).updSt i
      (fun x => { x with stacked := none })
    let s2 := s1.updJob j.slotAddr (fun j => j.stackedSheet sh)
    let j' := j.stackedSheet sh
    if j'.stopSeen || decide (j'.pageCount ≤ j'.nextPage) then s2.endJob j.slotAddr j'.stackedOutcome
    else s2.updJob j.slotAddr (fun j => { j with state := .attached })
  | some _, none => s.updSt i (fun x => { x with stacked := none })
  | none, _ => s

/-- The sheet-stacked event reaches the dispatcher, at once or in its turn (R65). -/
def State.stackedEvent (s : State) (i : StationId) : State :=
  if s.dispatcherWaits then { s with endQueue := s.endQueue ++ [.stacked i] }
  else (s.handover i).readyActions i

/-! ## Settling the dispatcher -/

/-- One thing the dispatcher has to do, in this order: an event that waited for it; a return for which there is room;
an attach; a ticket's completion task that waited for the end of the job its STATION_RESET lost (R160). -/
def State.dispatchStep (s : State) : Option State :=
  match s.dispatcherWaits, s.endQueue with
  | false, .stacked i :: rest => some ((({ s with endQueue := rest } : State).handover i).readyActions i)
  | false, .ending a :: rest =>
    let s1 : State := { s with endQueue := rest }
    some (match (s.job a).bind (·.ending) with
      | some o => s1.finishJob a o
      | none => s1)
  | _, events =>
    match s.nextReturn, s.roomForReturn with
    | some j, true => some (s.makeReturn j)
    | _, _ =>
      match s.nextMatch, events with
      | some p, _ => some (s.attach p.1 p.2)
      | none, .ticket o r l :: rest => some (({ s with endQueue := rest } : State).addTicket o r l)
      | none, _ => none

/-- The dispatcher's steps until nothing is left, at most `n` of them. -/
def settleDispatch : Nat → State → State
  | 0, s => s
  | n + 1, s =>
    match s.dispatchStep with
    | some s' => settleDispatch n s'
    | none => s

/-- The waiting events, the waiting returns and the match, run until they attach and return nothing (R55, R64, R65).
The bound is more than the steps there can be: each job is attached, returned or ended a few times at most. -/
def State.settle (s : State) : State := settleDispatch (s.endQueue.length + 8 * s.jobs.length + 8) s

end Sys2Proof.Machine
end

