-- ==== Sys2Proof/Machine/Scanner.lean ====
section
/-! DEFINITION. The scan half of the board scanner as shared operations, second part (R33 to R43): the end of a ticket,
the reads of a pass, and the ticket's validation. -/

namespace Sys2Proof.Machine

/-- A slot's address is in the held-slot set (R33). -/
def State.isHeld (s : State) (a : Addr) : Bool := s.held.any (·.addr == a)

/-! ## The end of a candidate's turn -/

/-- The place a candidate holds in the intake list is given up, and the returns that waited for it are made (R64). -/
def State.giveUpPlace (s : State) : State :=
  if s.pass.any (·.place) then (s.updPass (fun p => { p with place := false })).settle else s

/-- The candidate is passed over (R40, R41). -/
def State.skipCandidate (s : State) : State := s.giveUpPlace.nextCandidate

/-- The candidate's ticket ends: its completion task joins the write list, or waits to, and the claim phase goes on
once it has joined (R34, R44, R48). The place it held is given up first. When the job that returns to that place then ends
NO_STOCK, its completion task is added before the ticket's own: DESIGN CHOICE (log 27), since R48 and R64 give the two tasks
of one event no order. -/
def State.endTicket (s : State) (outcome : TicketOutcome) (reason : Reason) (length : Nat) : State :=
  ((s.updPass (fun p => { p with phase := .taskWait })).giveUpPlace).addTicket outcome reason length

/-! ## The read phase -/

/-- The held slots that a pass does not reach (R33). -/
def State.unreachedHeld (s : State) (p : Pass) : List Addr :=
  (s.held.map (·.addr)).filter (fun a => !(List.range p.slots).any (fun n => slotAddress p.base n == a))

/-- After the last slot read: the stop words of the held slots not reached, then the claim phase (R33, R38). -/
def State.readHeld (s : State) (p : Pass) (l : List Addr) : State :=
  match l.filter s.isHeld with
  | a :: rest =>
    ({ s with pass := some { p with phase := .heldRead a rest } } : State).requestRead .slotRead (addrPlus a 0x0C) 4
  | [] => ({ s with pass := some { p with candidates := sortCandidates p.candidates } } : State).nextCandidate

/-- The read phase goes on after a slot read (R38). -/
def State.nextSlotRead (s : State) : State :=
  match s.pass with
  | some p =>
    match p.phase with
    | .slotRead n =>
      if n + 1 < p.slots then
        ({ s with pass := some { p with phase := .slotRead (n + 1) } } : State).requestRead .slotRead
          (slotAddress p.base (n + 1)) 16
      else s.readHeld p (s.unreachedHeld p)
    | .heldRead _ rest => s.readHeld p rest
    | _ => s
  | none => s

/-- A held slot's stop word is examined: a stop ends the slot's job when it is in the intake list (R39). -/
def State.examineHeld (s : State) (a : Addr) (stop : Nat) : State :=
  match s.job a with
  | some j =>
    if j.state = .queued ∧ j.ending.isNone ∧ stop ≠ 0 then
      ((s.updJob a (fun j => { j with stopSeen := true })).endJob a .stopped).settle
    else s
  | none => s

/-- The scan half acts on what a slot read read (R38). -/
def State.takeSlot (s : State) (d : List Byte) : State :=
  match s.pass with
  | some p =>
    match p.phase with
    | .slotRead n =>
      let a := slotAddress p.base n
      if s.isHeld a then s.examineHeld a (slotStop d)
      else if slotState d = statePosted then
        s.updPass (fun p => { p with candidates := p.candidates ++
          [{ slot := n, addr := a, post := slotPost d, ticket := slotTicket d }] })
      else s
    | .heldRead a _ => if s.isHeld a then s.examineHeld a (slotStop d) else s
    | _ => s
  | none => s

/-! ## Tickets -/

/-- The fiche checks in their order (R42): the reason of the first that fails, or `none`. -/
def ficheCheck (d : List Byte) : Reason :=
  if field d 0x04 4 < 1 ∨ 4096 < field d 0x04 4 then .pageCount
  else if (readLayout d).check ≠ .none then (readLayout d).check
  else if 3 < field d 0xC2 1 then .toneIndex
  else .none

/-- The service checks: a TONE_LOAD's selector 0..3, a CAL_REQUEST's 1 or 2 (R42). -/
def serviceCheck (v : Service) : Reason :=
  match v.kind with
  | .toneLoad => if 3 < v.selector then .toneIndex else .none
  | .calRequest => if v.selector = 1 ∨ v.selector = 2 then .none else .kind
  | _ => .none

/-- The job context a valid fiche ticket becomes (R42, R51). -/
def makeJob (c : Candidate) (d : List Byte) : Job :=
  let l := readLayout d
  let pages := field d 0x04 4
  { slot := c.slot, slotAddr := c.addr, post := c.post, ticket := c.ticket, layout := l, ew := l.ew, lines := l.lines,
    frames := l.frames, indexCap := l.indexCap, expo := (readExposure d).1, clamped := (readExposure d).2,
    mask := field d 0x02 2, bufAddr := align4 (wordField d 0x08), bufSize := field d 0x0C 4, pageCount := pages,
    nextPage := 0, planned := ceilDiv pages l.frames, state := .queued, station := none, boundTo := none,
    lastStation := none, returnPending := false, stopSeen := false, sheets := [],
    counts := { exposed := 0, failedRead := 0, rejected := 0, notExposed := 0, lost := 0 }, totalHolds := 0,
    totalSaturated := 0, framesInJob := 0, snapshot := none, kept := [], fieldsWritten := 0, lostSheet := none,
    ending := none, outcome := none }

/-- A job context joins the intake list at its claim: the NO_STOCK test, then a match (R53, R57). The slot of a live
context is held and no candidate (R33), so that the slot has a live context already does not arise. -/
def State.admitJob (s : State) (j : Job) : State :=
  if (s.job j.slotAddr).isSome then s.giveUpPlace
  else ((({ s with jobs := insertJob j s.jobs } : State).updPass (fun p => { p with place := false })).testStock j).settle

end Sys2Proof.Machine
end

