-- ==== Sys2Proof/Machine/Sheets.lean ====
section
/-! DEFINITION. The course of an open sheet as shared operations (R98 to R102, R116 to R128): the bands, the frame
boundary and its decision, the positionings, the ends of the areas, aborts, and the loss of a sheet (R83). -/

namespace Sys2Proof.Machine

/-! ## Bands (R98) -/

/-- The band that must be FULL before band `b` is begun is so (R98). -/
def Station.previousFull (x : Station) (b : Nat) : Bool := b == 0 || x.bandIn .full (b - 1)

/-- Band `b`, begun in a buffer, requests its first row when its list is not empty. -/
def State.requestRow (s : State) (i : StationId) (m : Mapping) (b : BandBuffer) : State :=
  match b.rows with
  | y :: _ => s.requestRead (.row i) (m.rowAddress y) m.rowLength
  | [] => s

/-- The next band is begun when a buffer is FREE and the band before it is FULL (R98). -/
def State.beginNextBand (s : State) (i : StationId) : State :=
  match (s.st i).mapping with
  | some m =>
    if m.nextBand < bandCount m.lines ∧ (s.st i).previousFull m.nextBand then
      (let b := m.beginBand m.nextBand
       let m' : Mapping := { m with nextBand := m.nextBand + 1 }
       if (s.st i).bufA.state = .free then
         (s.updSt i (fun x => { x with mapping := some m', bufA := b })).requestRow i m b
       else if (s.st i).bufB.state = .free then
         (s.updSt i (fun x => { x with mapping := some m', bufB := b })).requestRow i m b
       else s)
    else s
  | none => s

/-- The bands that can be begun at one event: a band with an empty list is FULL at once, and the next may follow it in
the other buffer (R98). -/
def State.beginBands (s : State) (i : StationId) : State := (s.beginNextBand i).beginNextBand i

/-- Both buffers FREE, the mapping context ended and its row request withdrawn (R89, R102). -/
def State.endMapping (s : State) (i : StationId) : State :=
  (s.withdraw (fun r => r.purpose == .row i)).updSt i
    (fun x => { x with mapping := none, bufA := .empty, bufB := .empty })

/-- The buffer of band `b` becomes FREE (R99). -/
def Station.freeBand (x : Station) (b : Nat) : Station :=
  if x.bufA.state != .free && x.bufA.band == b then { x with bufA := .empty }
  else if x.bufB.state != .free && x.bufB.band == b then { x with bufB := .empty } else x

/-! ## Positioning (R15, R119, R121) -/

/-- A positioning of station `i` for area `a` is commanded: the head's left edge at `x`, the film at `y`. -/
def State.position (s : State) (i : StationId) (a : Area) (x : Int) (y : Nat) : State :=
  s.updSt i (fun st => { st with activity := .positioning a, moveOut := true, head := .at x, filmY := y })

/-- The positioning for grid position `p` with the sheet's window (R15). -/
def State.positionFrame (s : State) (i : StationId) (a : Area) (j : Job) (sh : Sheet) (p : Nat) : State :=
  s.position i a (headForFrame (j.layout.left p) sh.offset) (j.layout.top p)

/-! ## The decision at a boundary (R116) -/

/-- A fresh entry for grid position `p` (R123, R127, R132). -/
def newEntry (j : Job) (sh : Sheet) (p : Nat) (page : Option Nat) (key : List Byte) (status : FrameStatus) : FrameEntry :=
  { row := (j.layout.position p).1, col := (j.layout.position p).2, page := page, key := key, status := status,
    streak := decide (1 ≤ sh.dead), aged := false, held := false, saturated := 0, holds := 0 }

/-- The index decision: its entry is opened and its position commanded (R127). -/
def State.indexDecision (s : State) (i : StationId) (j : Job) (sh : Sheet) : State :=
  (s.updSheet i (fun sh => { sh with openEntry := some (newEntry j sh j.frames none spaceKey .ok) })).positionFrame i
    .index j sh j.frames

/-- What comes next on an open sheet (R116): the title strip, the next page's entry, or the index frame. -/
def State.nextArea (s : State) (i : StationId) : State :=
  match s.attached i, (s.st i).sheet with
  | some j, some sh =>
    if !sh.titleDone then s.position i (.title 0) (headForSwath 0) 2000
    else if !j.stopSeen && decide (sh.nextPos < j.frames) && decide (j.nextPage < j.pageCount) then
      (s.updSt i (fun x => { x with activity := .entryRead })).requestRead (.pageEntry i)
        (pageEntryAddress j.ticket j.nextPage) 32
    else s.indexDecision i j sh
  | _, _ => s

/-- At a boundary with its stop word reading made: a due QUICK first, then the decision (R116, R139). -/
def State.boundaryDecision (s : State) (i : StationId) : State :=
  if (s.cal i).quickDue then (s.updSt i (fun x => { x with activity := .quickWait })).askPhotometer i else s.nextArea i

/-- A boundary is reached: its reading is requested, unless a stop has been seen (R77, R117). -/
def State.boundary (s : State) (i : StationId) : State :=
  if s.stopSeen i then s.boundaryDecision i
  else (s.updSt i (fun x => { x with activity := .boundaryReading, bandReading := none })).askStop i (.boundary i)

/-! ## Frames (R123 to R126) -/

/-- The page `n` takes the next position with entry `e` open (R116, R123). -/
def State.openFrame (s : State) (i : StationId) (n : Nat) (key : List Byte) (status : FrameStatus) : State :=
  match s.attached i with
  | some j =>
    s.updSheet i (fun sh => { sh with openEntry := some (newEntry j sh sh.nextPos (some n) key status)
                                      nextPos := sh.nextPos + 1 })
  | none => s

/-- A frame begins for a page with a good entry: its entry is opened, band 0 begun, its position commanded (R123). -/
def State.beginFrame (s : State) (i : StationId) (n : Nat) (e : PageEntry) : State :=
  match s.attached i, (s.st i).sheet with
  | some j, some sh =>
    let m := makeMapping n e j.ew j.lines j.expo.margin
    let s1 := (s.openFrame i n e.key .ok).updSt i
      (fun x => { x with mapping := some m, bufA := .empty, bufB := .empty, bandReading := none })
    (s1.beginBands i).positionFrame i .page j sh sh.nextPos
  | _, _ => s

/-- A frame is voided because its page's entry could not be read: it is positioned for its void pass (R23, R123). -/
def State.voidUnread (s : State) (i : StationId) (n : Nat) : State :=
  match s.attached i, (s.st i).sheet with
  | some j, some sh => (s.openFrame i n spaceKey .voidRead).positionFrame i .voidPass j sh sh.nextPos
  | _, _ => s

/-- A read fault meets band 0: the frame is voided before exposure (R101, R123). Its positioning, done or outstanding,
is that of its void pass. -/
def State.voidBeforeExposure (s : State) (i : StationId) : State :=
  let s1 := (s.endMapping i).updEntry i (fun e => { e with status := .voidRead })
  match (s.st i).activity with
  | .bandWait => s1.askPermit i .voidPass
  | .positioning .page => s1.updSt i (fun x => { x with activity := .positioning .voidPass })
  | _ => s1

/-- A frame is aborted at a band boundary: the void pass follows on the permit held, after the film's return to the
frame's line 0 (R124, R125). -/
def State.abortFrame (s : State) (i : StationId) (status : FrameStatus) : State :=
  ((s.endMapping i).updEntry i (fun e => { e with status := status })).updSt i
    (fun x => { x with activity := .returnMove, moveOut := true, drive := [], driveSaturated := 0, bandReading := none })

/-- The open entry joins the frame map (R126, R127). -/
def Sheet.append (sh : Sheet) : Sheet := { sh with map := sh.map ++ sh.openEntry.toList, openEntry := none }

/-- The frame-end event reaches the calibration unit (R137). -/
def State.frameEndEvent (s : State) (i : StationId) : State := s.updCal i (CalUnit.frameEnd s.timing)

/-- The end of an exposure: the emitters off, the permit returned, the station in `next` (R80, R119). -/
def State.endExposure (s : State) (i : StationId) (next : StationState) : State :=
  (s.updSt i (fun x => { x with state := next, activity := .idle, drive := [], driveSaturated := 0 })).returnPermit i

/-- A frame ends with its page frame exposure or its void pass (R126). -/
def State.endFrame (s : State) (i : StationId) : State :=
  ((((s.updSheet i Sheet.append).endMapping i).endExposure i .sheetOpen)).frameEndEvent i

/-- The line hold after band `b`: counted once, the entry HELD, the emitters off (R100, R124). -/
def State.holdLine (s : State) (i : StationId) (b : Nat) : State :=
  (s.updEntry i (fun e => { e with held := true, holds := e.holds + 1 })).updSt i
    (fun x => { x with activity := .lineHold b, drive := [], driveSaturated := 0 })

/-- The boundary after band `b` of a page frame, not its last (R124). -/
def State.bandBoundary (s : State) (i : StationId) (b : Nat) : State :=
  let stop := (s.st i).bandReading == some true
  let s1 := if stop then s.seeStop i else s
  if (s.st i).bandIn .failed (b + 1) then s1.abortFrame i .voidRead
  else if stop then s1.abortFrame i .voidStop
  else
    let s2 := s.updSt i (fun x => { x.freeBand b with bandReading := none })
    if (s.st i).bandIn .full (b + 1) then (s2.beginBands i).startLine i .page (Config.bandLines * (b + 1))
    else s2.holdLine i b

/-- The end of a page frame's last line: the last band's reading serves as the boundary reading (R117, R123). -/
def State.pageFrameEnd (s : State) (i : StationId) : State :=
  match (s.st i).bandReading with
  | some stop => ((if stop then s.seeStop i else s).endFrame i).boundaryDecision i
  | none => (s.endFrame i).boundary i

/-- Band `b` has become FULL: band 0 lets the station ask for its permit, and a hold that waits for it ends (R98, R100,
R119). -/
def State.bandFull (s : State) (i : StationId) (b : Nat) : State :=
  match (s.st i).activity with
  | .bandWait => if b = 0 then s.askPermit i .page else s
  | .lineHold k => if b = k + 1 then s.startLine i .page (Config.bandLines * b) else s
  | _ => s

/-- The buffer that is FILLING, of which the row request in service is. -/
def Station.filling (x : Station) : Option BandBuffer :=
  if x.bufA.state = .filling then some x.bufA else if x.bufB.state = .filling then some x.bufB else none

/-- The FILLING buffer replaced. -/
def Station.setFilling (x : Station) (b : BandBuffer) : Station :=
  if x.bufA.state = .filling then { x with bufA := b } else { x with bufB := b }

/-- A fetched row is written into its band; the next row is requested, or the band becomes FULL (R98). -/
def State.takeRow (s : State) (i : StationId) (d : List Byte) : State :=
  match (s.st i).mapping, (s.st i).filling with
  | some m, some b =>
    match b.rows with
    | y :: rest =>
      let b' : BandBuffer := { b with rows := rest, dots := m.writeRow b.band y d b.dots
                                      state := if rest.isEmpty then .full else .filling }
      let s1 := s.updSt i (fun x => x.setFilling b')
      if rest.isEmpty then (s1.beginBands i).bandFull i b.band else s1.requestRow i m b'
    | [] => s
  | _, _ => s

/-- A row request has ended in a port error: a read fault of the frame (R101). -/
def State.readFault (s : State) (i : StationId) : State :=
  match (s.st i).filling with
  | some b =>
    let s1 := s.updSt i (fun x => x.setFilling { b with state := .failed, rows := [] })
    if b.band = 0 then s1.voidBeforeExposure i
    else
      match (s.st i).activity with
      | .lineHold k => if b.band = k + 1 then s1.abortFrame i .voidRead else s1
      | _ => s1
  | none => s

/-! ## The loss of a sheet (R63, R83) -/

/-- A job whose sheet is lost: the sheet list entry ended LOST, the map handed over, the job off its station (R63). -/
def Job.loseSheet (j : Job) (sh : Sheet) : Job :=
  let j1 := (j.endSheet sh.index .lost sh.nextPos).takeMap sh.index sh.map
  { j1 with station := none
            lostSheet := some { index := sh.index, serial := sh.serial, map := sh.map, inFlight := sh.openEntry } }

/-- Station `i` with the exposure taken off the head, its buffers emptied and its sheet no longer present. -/
def Station.cleared (x : Station) : Station :=
  { x with sheet := none, activity := .idle, moveOut := false, drive := [], driveSaturated := 0, bandReading := none,
           mapping := none, bufA := .empty, bufB := .empty }

/-- A sheet present at station `i` is lost, and its job ends SHEET_LOST (R83, R63). -/
def State.loseSheet (s : State) (i : StationId) : State :=
  match (s.st i).sheet, s.attached i with
  | some sh, some j =>
    let s1 := (s.updSt i Station.cleared).updJob j.slotAddr (fun j => j.loseSheet sh)
    s1.endJob j.slotAddr .sheetLost
  | _, _ => s.updSt i Station.cleared

/-- The job-level part of a fault or a STATION_RESET at station `i` (R63, R64, R80): a stacked sheet is handed over
first; a sheet present is lost; a job left with no sheet is returned. A job whose end waits is past it (R66). R80 gives this
hand-over while the station waits to add the release task; that a sheet-stacked event which waits its turn behind the
dispatcher (R65), its release task already on the list, is taken in the same way, out of its turn, the end of its job then
waiting behind the events already there, is DESIGN CHOICE (log 36). -/
def State.dropWork (s : State) (i : StationId) : State :=
  let s1 := (if (s.st i).stacked.isSome then s.handover i else s).loseSheet i
  match s1.attached i with
  | some j =>
    if j.ending.isSome then s1.updJob j.slotAddr (fun j => { j with station := none })
    else s1.returnJob j
  | none => s1

/-- The station leaves every list: its permit and its place in the waiting list, its calibration, its place in the
photometer queue, its port requests (R82, R86, R170). -/
def State.leaveAll (s : State) (i : StationId) : State :=
  (((((s.withdraw (ofStation i)).leavePermitQueue i).returnPermit i).leavePhotometerQueue i).abortCalibration i)

/-- The station with its five timers stopped. -/
def Station.timersStopped (x : Station) : Station :=
  { x with dozeTimer := none, holdTimer := none, wakeTimer := none, loadTimer := none, settleTimer := none }

/-- Station `i` enters FAULTED with a cause (R82). -/
def State.enterFaulted (s : State) (i : StationId) (c : FaultCause) : State :=
  let s1 := s.updSt i (fun x => { x.timersStopped with state := .faulted, cause := c, drive := [], driveSaturated := 0 })
  (((s1.leaveAll i).alert).dropWork i).settle

end Sys2Proof.Machine
end

