-- ==== Sys2Proof/Machine/Board.lean ====
section
/-! DEFINITION. The commands of the scan half (R38 to R43): completions of slot reads, kind peeks, claims and ticket
reads. -/

namespace Sys2Proof.Machine

/-- The request is the scan half's of purpose `p`, and `d` is data of the length it asked for. -/
def answersRead (p : Purpose) (d : List Byte) (r : Request) : Bool := r.purpose == p && d.length == r.len

/-- SLOT_READ_DONE (R38, R39). -/
def execSlotReadDone (data : List Byte) (s : State) : Host.Outcome State Fault Refusal :=
  s.completed (answersRead .slotRead data) (fun _ s => (s.takeSlot data).nextSlotRead)

/-- The candidate whose kind code has been read: a fiche ticket is left POSTED, and any other kind is claimed, without
a place (R40). -/
def State.takePeek (s : State) (data : List Byte) : State :=
  if ticketKind data = ficheKind then s.skipCandidate
  else
    match s.pass.bind (·.current) with
    | some c => (s.updPass (fun p => { p with phase := .claim })).requestClaim c
    | none => s

/-- KIND_PEEK_DONE (R40). -/
def execKindPeekDone (data : List Byte) (s : State) : Host.Outcome State Fault Refusal :=
  s.completed (answersRead .kindPeek data) (fun _ s => s.takePeek data)

/-- The candidate with what the claim's locked read read in place of the read phase's (R41). -/
def Candidate.reread (c : Candidate) (d : List Byte) : Candidate := { c with post := slotPost d, ticket := slotTicket d }

/-- The claim's read found POSTED: the write of TAKEN follows under the lock, in the same request (R41, R173). -/
def State.lockWrite (s : State) (data : List Byte) : State :=
  let s1 := s.updPass (fun p => { p with current := p.current.map (·.reread data) })
  { s1 with port := { s1.port with lockedWrite := true, transfer := 0, transferWait := s.ctrl.wait } }

/-- CLAIM_READ_DONE: POSTED is followed by the write of TAKEN under the lock, within the same request; any other value
ends the request with nothing written, and the slot is skipped (R41, R173). -/
def execClaimReadDone (data : List Byte) (s : State) : Host.Outcome State Fault Refusal :=
  let answers := fun r => answersRead .claim data r && !s.port.lockedWrite
  if slotState data = statePosted && s.serving.any answers then (s.lockWrite data).done
  else s.completed answers (fun _ s => s.skipCandidate)

/-- The claim holds: the slot joins the held-slot set, and the ticket's first 16 bytes are read (R33, R42). -/
def State.takeClaim (s : State) : State :=
  match s.pass.bind (·.current) with
  | some c =>
    let s1 : State := { s with held := s.held ++ [{ slot := c.slot, addr := c.addr }] }
    (s1.updPass (fun p => { p with phase := .ticketHead })).requestRead .ticketHead c.ticket 16
  | none => s

/-- CLAIM_WRITE_DONE (R41). -/
def execClaimWriteDone (s : State) : Host.Outcome State Fault Refusal :=
  s.completed (fun r => r.purpose == .claim && s.port.lockedWrite) (fun _ s => s.takeClaim)

/-- The ticket's first 16 bytes: an unknown kind, or a fiche kind claimed past a full intake list, is refused KIND; the
rest of any other is read (R20, R40, R42). -/
def State.takeTicketHead (s : State) (data : List Byte) : State :=
  match s.pass.bind (·.current) with
  | some c =>
    let fiche := ticketKind data == ficheKind
    if (fiche && !s.pass.any (·.place)) || (!fiche && (serviceKindOf (ticketKind data)).isNone) then
      s.endTicket .refusedTicket .kind 0
    else
      (s.updPass (fun p => { p with phase := .ticketRest data })).requestRead .ticketRest (addrPlus c.ticket 16)
        (if fiche then 192 else 16)
  | none => s

/-- TICKET_HEAD_READ_DONE (R42). -/
def execTicketHeadReadDone (data : List Byte) (s : State) : Host.Outcome State Fault Refusal :=
  s.completed (answersRead .ticketHead data) (fun _ s => s.takeTicketHead data)

/-- A whole fiche ticket: refused at its first failing check, or made a job context, after which the claim phase goes on
(R42). -/
def State.takeFiche (s : State) (c : Candidate) (ticket : List Byte) : State :=
  match ficheCheck ticket with
  | .none => (s.admitJob (makeJob c ticket)).nextCandidate
  | reason => s.endTicket .refusedTicket reason 0

/-- A whole service ticket past its checks stands ready to execute, by the command of its own name (R34, R152; log 4); a
TONE_LOAD first reads its image (R104, R154). -/
def State.takeService (s : State) (v : Service) : State :=
  match serviceCheck v with
  | .none =>
    if v.kind = .toneLoad then
      (s.updPass (fun p => { p with phase := .toneImage v })).requestRead .toneImage (align4 v.p1) 512
    else s.updPass (fun p => { p with phase := .service v })
  | reason => s.endTicket .refusedTicket reason 0

/-- The whole ticket, `head` and `data` together (R42). -/
def State.takeTicket (s : State) (head data : List Byte) : State :=
  match s.pass.bind (·.current) with
  | some c =>
    if ticketKind head = ficheKind then s.takeFiche c (head ++ data)
    else
      match serviceKindOf (ticketKind head) with
      | some k => s.takeService (readService k (head ++ data))
      | none => s
  | none => s

/-- TICKET_REST_READ_DONE (R42). -/
def execTicketRestReadDone (data : List Byte) (s : State) : Host.Outcome State Fault Refusal :=
  s.completed (answersRead .ticketRest data) (fun _ s =>
    match s.pass with
    | some p =>
      match p.phase with
      | .ticketRest head => s.takeTicket head data
      | _ => s
    | none => s)

end Sys2Proof.Machine
end

