-- ==== Sys2Proof/Machine/Completion.lean ====
section
/-! DEFINITION. The commands of the completion writer (R44 to R50): the completions of its writes, and what a task's
leaving the write list brings about. -/

namespace Sys2Proof.Machine

/-- The station that met the bad entry of page `n` of the job at `a` goes on once the rejection task has ended (R24,
R45, R116). -/
def State.afterRejection (s : State) (a : Addr) (i : StationId) (n : Nat) : State :=
  match s.attached i with
  | some j =>
    if (s.st i).activity = .rejecting ∧ j.slotAddr = a ∧ j.nextPage = n + 1 then s.nextArea i else s
  | none => s

/-- A task that waited has joined the write list: the block that waited with it goes on (R44, R65, R80). -/
def State.taskJoined (s : State) : Task → State
  | .rejection _ _ _ _ => s
  | .release a _ i sheet serial _ =>
    if (s.attached i).any (fun j => j.slotAddr == a) &&
        (s.st i).stacked.any (fun sh => sh.index == sheet && sh.serial == serial) then (s.stackedEvent i).settle
    else s
  | .completion _ => s.settle
  | .ticket _ _ _ _ => s.nextCandidate

/-- A task has ended: a job completion's context is discarded (R66), a rejection's station goes on. -/
def State.taskEnded (s : State) : Task → State
  | .rejection a _ i n => s.afterRejection a i n
  | .release _ _ _ _ _ _ => s
  | .completion a => { s with jobs := s.jobs.filter (fun j => j.slotAddr != a) }
  | .ticket _ _ _ _ => s

/-- The task in progress leaves the list, the oldest waiting task is added, and the next begins (R44). -/
def State.leaveTask (s : State) : State :=
  match s.tasks, s.waiters with
  | t :: rest, [] => ({ s with tasks := rest, plan := [] } : State).beginTask.taskEnded t
  | t :: rest, w :: ws =>
    ((({ s with tasks := rest ++ [w], waiters := ws, plan := [] } : State).beginTask.taskEnded t).taskJoined w)
  | [], _ => s

/-- A release field has been written, or its write has failed: it counts toward the progress word (R46). -/
def State.countField (s : State) (w : PlannedWrite) : State :=
  match s.tasks with
  | t :: _ =>
    if w.kind = .release then s.updJob t.slotAddr (fun j => { j with fieldsWritten := j.fieldsWritten + 1 }) else s
  | [] => s

/-- A write of the task in progress other than DONE has ended, with or without a port error: the task goes on (R44,
R47). -/
def State.nextWrite (s : State) : State :=
  match s.plan with
  | w :: rest =>
    let s1 := ({ s with plan := rest } : State).countField w
    if rest.isEmpty then s1.leaveTask else s1.issueWrite
  | [] => s

/-- COMPLETION_WRITE_DONE (R44). -/
def execCompletionWriteDone (s : State) : Host.Outcome State Fault Refusal :=
  s.completed (fun r => r.purpose == .completionWrite) (fun _ s => s.nextWrite)

/-- The slot of the task in progress leaves the held-slot set (R33, R49). -/
def State.dropHeld (s : State) : State :=
  match s.tasks with
  | t :: _ => { s with held := s.held.filter (fun h => h.addr != t.slotAddr) }
  | [] => s

/-- The DONE write has completed without error: the DONE count rises (R49, R169). -/
def State.doneWritten (s : State) : State :=
  ({ s with doneCount := satAdd 65535 s.doneCount 1 } : State).dropHeld.leaveTask

/-- The DONE write has ended in a port error: LOST_DONE, and the ALERT count rises (R49). -/
def State.doneLost (s : State) : State := (({ s with lostDone := true } : State).alert).dropHeld.leaveTask

/-- DONE_WRITE_DONE (R49). -/
def execDoneWriteDone (s : State) : Host.Outcome State Fault Refusal :=
  s.completed (fun r => r.purpose == .doneWrite) (fun _ s => s.doneWritten)

end Sys2Proof.Machine
end

