-- ==== Sys2Proof/Machine/Calibration.lean ====
section
/-! DEFINITION. Head calibration (R143 to R150): the end of the settle, and the reports of a FULL and of a QUICK. -/

namespace Sys2Proof.Machine

/-- A reading clamped to 0..9999 (R145). -/
def clampReading (r : Nat) : Nat := min 9999 r

/-- An emitter's status from its reading (R145). -/
def readingStatus (r : Nat) : EmitterStatus := if r < 400 then .dead else if r < 500 then .weak else .ok

/-- An emitter's trim from its reading (R145). -/
def readingTrim (r : Nat) : Nat :=
  if r < 400 then 0 else if r < 500 then 2047 else clamp 512 2047 ((1024000 + r / 2) / r)

/-- What the completion of FULL `f` writes, from the clamped readings (R145, R146). A due mark that `f` answers, and that a
CAL_REQUEST asked for again during `f`, is cleared with it: DESIGN CHOICE (log 31). -/
def CalUnit.fullDone (c : CalUnit) (f : Calibration) (readings : List Nat) : CalUnit :=
  let statuses := readings.map readingStatus
  { c with trims := readings.map readingTrim
           statuses := statuses
           valid := true
           dead := statuses.count .dead
           weak := statuses.count .weak
           liveSum := (readings.filter (fun r => decide (400 ≤ r))).sum
           h := 1024
           sinceFull := 0
           sinceQuick := 0
           quickRequired := c.quickRequired && !f.answersQuickRequired
           quickDue := c.quickDue && !f.answersQuickDue
           fullDue := c.fullDue && !f.answersFullDue
           flight := none }

/-- q, the head's output against that of its last FULL, in permille (R147). -/
def quickRatio (q s : Nat) : Nat := clamp 1 9999 ((q * 1000 + s / 2) / s)
/-- h before its clamp (R147). -/
def quickFactor (q s : Nat) : Nat := (1024000 + quickRatio q s / 2) / quickRatio q s

/-- What the completion of QUICK `f` writes, from the reading Q (R147, R148). With S at 0 Q is not used, h keeps its
value and no mark is set. A due mark that `f` answers, and that a CAL_REQUEST asked for again during `f`, is cleared with
it and no further request follows: DESIGN CHOICE (log 31), since R157 says both that the calibration in flight does not
answer such a request and that a mark already set stays set, with nothing to tell the two apart. -/
def CalUnit.quickDone (c : CalUnit) (f : Calibration) (q : Nat) : CalUnit :=
  let raw := quickFactor q c.liveSum
  let drift := c.liveSum != 0 && (decide (raw < 768) || decide (1280 < raw))
  { c with h := if c.liveSum = 0 then c.h else clamp 768 1280 raw
           sinceQuick := 0
           quickRequired := c.quickRequired && !f.answersQuickRequired
           quickDue := c.quickDue && !f.answersQuickDue
           fullDue := c.fullDue || drift
           flight := none }

/-- The calibration in flight at station `i`, when it is in CALIBRATING in phase `p`. -/
def State.calibrating (s : State) (i : StationId) (p : CalPhase) : Option Calibration :=
  if (s.st i).state = .calibrating then (s.cal i).flight.filter (fun f => f.phase == p) else none

/-- SETTLE_TIMER_EXPIRY: the measurement of the calibration's kind is commanded (R144). -/
def execSettleTimerExpiry (st : StationId) (s : State) : Host.Outcome State Fault Refusal :=
  match s.calibrating st .settling with
  | some f =>
    if (s.st st).settleTimer.isSome then
      ((s.updSt st (fun x => { x with settleTimer := none })).updCal st
        (fun c => { c with flight := some { f with phase := .measuring } })).done
    else .next s
  | none => .next s

/-- The completion of a FULL: the tables, the return to READY, the photometer's release; more than 256 DEAD emitters
fault the station HEAD_WORN (R146). -/
def State.completeFull (s : State) (i : StationId) (f : Calibration) (readings : List Nat) : State :=
  let s1 := s.updCal i (fun c => c.fullDone f (readings.map clampReading))
  let s2 := (s1.updSt i (fun x => { x with state := .ready })).releasePhotometer i
  if Config.wornLimit < (s2.cal i).dead then s2.enterFaulted i .headWorn else (s2.readyActions i).settle

/-- FULL_MEASUREMENT_REPORT: acts in the phase that waits for it, with one reading for each emitter (R144, R146). A report
left over from an aborted calibration that comes in that phase of the station's next FULL is taken as the next one's: DESIGN
CHOICE (log 32). -/
def execFullMeasurementReport (st : StationId) (readings : List Nat) (s : State) : Host.Outcome State Fault Refusal :=
  match s.calibrating st .measuring with
  | some f =>
    if f.kind = .full ∧ readings.length = Config.emitters then (s.completeFull st f readings).done else .next s
  | none => .next s

/-- The completion of a QUICK: the head factor, the return to the state it came from, the photometer's release (R148). -/
def State.completeQuick (s : State) (i : StationId) (f : Calibration) (q : Nat) : State :=
  let s1 := s.updCal i (fun c => c.quickDone f q)
  let open' := (s.st i).sheet.isSome
  let s2 := (s1.updSt i (fun x => { x with state := if open' then .sheetOpen else .ready })).releasePhotometer i
  if open' then s2.boundaryDecision i else (s2.readyActions i).settle

/-- QUICK_MEASUREMENT_REPORT: acts in the phase that waits for it (R144, R148). A report left over from an aborted calibration
that comes in that phase of the station's next QUICK is taken as the next one's: DESIGN CHOICE (log 32). -/
def execQuickMeasurementReport (st : StationId) (q : Nat) (s : State) : Host.Outcome State Fault Refusal :=
  match s.calibrating st .measuring with
  | some f => if f.kind = .quick then (s.completeQuick st f q).done else .next s
  | none => .next s

end Sys2Proof.Machine
end

