-- ==== Sys2Proof/Machine/Frames.lean ====
section
/-! DEFINITION. The commands of an open sheet (R98, R106, R119, R121, R123 to R127): page entry reads, row fetches, move
completions and the ends of lines. -/

namespace Sys2Proof.Machine

/-- Page `n` is reached: the next page index moves past it (R51). -/
def State.reachPage (s : State) (i : StationId) : State :=
  match s.attached i with
  | some j => s.updJob j.slotAddr (fun j => { j with nextPage := j.nextPage + 1 })
  | none => s

/-- A bad page is REJECTED: it is counted, and its rejection task added and waited for (R24, R45). -/
def State.rejectPage (s : State) (i : StationId) (j : Job) : State :=
  let s1 := s.updJob j.slotAddr (fun j => { j with counts := { j.counts with rejected := j.counts.rejected + 1 } })
  (s1.updSt i (fun x => { x with activity := .rejecting })).addTask (.rejection j.slotAddr j.ticket i j.nextPage)

/-- A page entry has been read at station `i` (R23, R24, R116). -/
def State.takeEntry (s : State) (i : StationId) (data : List Byte) : State :=
  match s.attached i with
  | some j =>
    let e := readPageEntry data
    let s1 := s.reachPage i
    if e.good then s1.beginFrame i j.nextPage e else s1.rejectPage i j
  | none => s

/-- PAGE_ENTRY_READ_DONE (R23). -/
def execPageEntryReadDone (data : List Byte) (s : State) : Host.Outcome State Fault Refusal :=
  s.completed (fun r => (match r.purpose with | .pageEntry _ => true | _ => false) && data.length == r.len) (fun r s =>
    match r.purpose with
    | .pageEntry i => s.takeEntry i data
    | _ => s)

/-- ROW_FETCH_DONE (R98). -/
def execRowFetchDone (data : List Byte) (s : State) : Host.Outcome State Fault Refusal :=
  s.completed (fun r => (match r.purpose with | .row _ => true | _ => false) && data.length == r.len) (fun r s =>
    match r.purpose with
    | .row i => s.takeRow i data
    | _ => s)

/-- The head's move to the photometer has ended: the settle begins (R144). -/
def State.beginSettle (s : State) (i : StationId) (f : Calibration) : State :=
  (s.updSt i (fun x => { x with settleTimer := some Config.settleMs })).updCal i
    (fun c => { c with flight := some { f with phase := .settling } })

/-- A positioning has ended: the permit is asked for, by a page frame once band 0 is FULL (R119). -/
def State.positioned (s : State) (i : StationId) (a : Area) : State :=
  if a = .page ∧ !(s.st i).bandIn .full 0 then s.updSt i (fun x => { x with activity := .bandWait })
  else s.askPermit i a

/-- What the end of an outstanding move leads to (R119, R121, R125, R144). A report that the last move cut short (a positioning,
a swath's or a return move, the move to the photometer) left behind is taken as that of the move now outstanding: DESIGN
CHOICE (log 37), for the report names no move. -/
def State.moveEnds (s : State) (i : StationId) : State :=
  match s.calibrating i .moving with
  | some f => s.beginSettle i f
  | none =>
    match (s.st i).activity with
    | .positioning a => s.positioned i a
    | .swathMove k => s.startLine i (.title k) 0
    | .returnMove => s.startLine i .voidPass 0
    | _ => s

/-- MOVE_COMPLETE: ignored when no move is outstanding (R69). With one outstanding the report is that move's, one left over from
a move cut short before it included, by a fault, a STATION_RESET, a soft reset or a calibration's abort: DESIGN CHOICE (log
37), since R150 says that a move complete for an aborted calibration is ignored, R69 and R119 tell a late one from no other,
and the report names no move. -/
def execMoveComplete (st : StationId) (s : State) : Host.Outcome State Fault Refusal :=
  if (s.st st).moveOut then ((s.updSt st (fun x => { x with moveOut := false })).moveEnds st).done else .next s

/-- The clamps of the line that has ended are counted in the frame in flight (R112). -/
def State.countSaturated (s : State) (i : StationId) : State :=
  s.updEntry i (fun e => { e with saturated := e.saturated + (s.st i).driveSaturated })

/-- The end of a title line: the next line, the move to the next swath, or the end of the strip (R121). -/
def State.titleLineEnd (s : State) (i : StationId) (job : Job) (k j : Nat) : State :=
  if j + 1 < job.layout.t / 5 then s.startLine i (.title k) (j + 1)
  else if k + 1 < Config.swaths then
    s.updSt i (fun x => { x with activity := .swathMove (k + 1), moveOut := true, head := .at (headForSwath (k + 1)),
                                 filmY := 2000, drive := [], driveSaturated := 0 })
  else ((s.updSheet i (fun sh => { sh with titleDone := true })).endExposure i .sheetOpen).boundary i

/-- The end of a page frame's line: the next line, a band boundary, or the frame's end (R99, R100, R123). -/
def State.pageLineEnd (s : State) (i : StationId) (job : Job) (j : Nat) : State :=
  if job.lines ≤ j + 1 then s.pageFrameEnd i
  else if (j + 1) % Config.bandLines = 0 then s.bandBoundary i (j / Config.bandLines)
  else s.startLine i .page (j + 1)

/-- The end of a void pass's line (R125, R126). -/
def State.voidLineEnd (s : State) (i : StationId) (job : Job) (j : Nat) : State :=
  if job.lines ≤ j + 1 then (s.endFrame i).boundary i else s.startLine i .voidPass (j + 1)

/-- The end of an index frame's line; at its last the entry joins the map and the station enters CLOSING (R127). -/
def State.indexLineEnd (s : State) (i : StationId) (job : Job) (j : Nat) : State :=
  if job.lines ≤ j + 1 then
    (((s.updSheet i Sheet.append).endExposure i .closing).frameEndEvent i).updSt i
      (fun x => { x with transport := .carry })
  else s.startLine i .index (j + 1)

/-- The end of line `j` of area `a` (R106). -/
def State.endLine (s : State) (i : StationId) (job : Job) (a : Area) (j : Nat) : State :=
  match a with
  | .title k => s.titleLineEnd i job k j
  | .page => (s.countSaturated i).pageLineEnd i job j
  | .voidPass => s.voidLineEnd i job j
  | .index => (s.countSaturated i).indexLineEnd i job j

/-- LINE_END (R106). -/
def execLineEnd (st : StationId) (s : State) : Host.Outcome State Fault Refusal :=
  match (s.st st).state, (s.st st).activity, s.attached st with
  | .exposing, .line a j, some job => (s.endLine st job a j).done
  | _, _, _ => .next s

end Sys2Proof.Machine
end

