-- ==== Sys2Proof/Machine/Readings.lean ====
section
/-! DEFINITION. The completions of the stop word readings of an attached job (R58, R60, R77, R117, R123, R124). A stop
word other than 0 is a stop (R18); a reading that ends in a port error counts as a reading of 0. -/

namespace Sys2Proof.Machine

/-- The load decision's reading has completed (R58). -/
def State.decisionRead (s : State) (i : StationId) (stop : Bool) : State := (s.loadDecision i stop).settle

/-- LOAD_DECISION (R58). -/
def execLoadDecision (stop : Word) (s : State) : Host.Outcome State Fault Refusal :=
  s.completed (fun r => match r.purpose with | .decision _ => true | _ => false) (fun r s =>
    match r.purpose with
    | .decision i => s.decisionRead i (stop != 0)
    | _ => s)

/-- A pass-end reading has completed: a stop sets stop-seen, and ends a job in SUPPLY_WAIT (R60). -/
def State.passEndRead (s : State) (i : StationId) (stop : Bool) : State :=
  match s.attached i with
  | some j =>
    if stop && j.ending.isNone then
      let s1 := s.updJob j.slotAddr (fun j => { j with stopSeen := true })
      if j.state = .supplyWait then (s1.endJob j.slotAddr .stopped).settle else s1
    else s
  | none => s

/-- PASS_END_READING_DONE (R60). -/
def execPassEndReadingDone (stop : Word) (s : State) : Host.Outcome State Fault Refusal :=
  s.completed (fun r => match r.purpose with | .passEnd _ => true | _ => false) (fun r s =>
    match r.purpose with
    | .passEnd i => s.passEndRead i (stop != 0)
    | _ => s)

/-- The registration reading or a frame boundary reading has completed (R77, R116, R117). -/
def State.boundaryRead (s : State) (i : StationId) (stop : Bool) : State :=
  let s1 := if stop then s.seeStop i else s
  if (s.st i).activity = .boundaryReading then s1.boundaryDecision i else s1

/-- BOUNDARY_READING_DONE (R117). -/
def execBoundaryReadingDone (stop : Word) (s : State) : Host.Outcome State Fault Refusal :=
  s.completed (fun r => match r.purpose with | .boundary _ => true | _ => false) (fun r s =>
    match r.purpose with
    | .boundary i => s.boundaryRead i (stop != 0)
    | _ => s)

/-- A band reading has completed: kept for the band boundary; with the film held there, a stop aborts the frame (R123,
R124). One that completes after its frame's abort sets stop-seen when it finds a stop (R61; log 11). -/
def State.bandRead (s : State) (i : StationId) (stop : Bool) : State :=
  match (s.st i).activity with
  | .line .page _ => s.updSt i (fun x => { x with bandReading := some stop })
  | .lineHold _ =>
    if stop then (s.seeStop i).abortFrame i .voidStop else s.updSt i (fun x => { x with bandReading := some stop })
  | _ => if stop then s.seeStop i else s

/-- BAND_READING_DONE (R124). -/
def execBandReadingDone (stop : Word) (s : State) : Host.Outcome State Fault Refusal :=
  s.completed (fun r => match r.purpose with | .band _ => true | _ => false) (fun r s =>
    match r.purpose with
    | .band i => s.bandRead i (stop != 0)
    | _ => s)

end Sys2Proof.Machine
end

