-- ==== Sys2Proof/Machine/Registers.lean ====
section
/-! DEFINITION. The commands at the register window (R165 to R169) with the two resets, and the scan timer's expiry. -/

namespace Sys2Proof.Machine

/-- The things of `l` are done one after another, in an order of which nothing is said (log 3). -/
def State.inSomeOrder (s : State) (l : List StationId) (f : State → StationId → State) : State :=
  (shuffle s.choices l).foldl f { s with choices := s.choices + choicesFor l.length }

/-- POWER_ON_RESET: every block in its power-on state (R35 and each block's table). The command queue and the count of
free choices are no state of the FM4 and are kept (log 21). -/
def execPowerOnReset (s : State) : Host.Outcome State Fault Refusal :=
  .next { State.reset with pending := s.pending, choices := s.choices }

/-! ## Soft reset -/

/-- A soft reset abandons a sheet at this station. -/
def Station.abandons (x : Station) : Bool := x.sheet.isSome

/-- One station at a soft reset (R87): with a sheet FAULTED, ABANDONED; FAULTED and PARKED kept; otherwise READY when
its drive is powered and its table valid, and PARKED if not. -/
def Station.softReset (valid : Bool) (x : Station) : Station :=
  let y := { x.cleared.timersStopped with stacked := none }
  if x.abandons then { y with state := .faulted, cause := .abandoned }
  else if x.state = .faulted ∨ x.state = .parked then y
  else if x.powered && valid then { y with state := .ready }
  else { y with state := .parked, powered := false }

/-- The port at a soft reset (R170, R171, R173): every request withdrawn. With a transfer on the bus the tenure ends with
that transfer, whatever is written to PORT_EN meanwhile, a locked sequence's lock with it; otherwise the bus is released at
once. -/
def Port.softReset (p : Port) : Port :=
  let p' : Port := { p with list := [], arriving := [] }
  if p.master = .tenure then { p' with grantLost := true, discarding := p.onBus }
  else { p' with master := .idle, grantLost := false, discarding := none, lockedWrite := false, transfer := 0 }

/-- Every block at its soft-reset value (R167). -/
def State.softResetBlocks (s : State) : State :=
  { s with
    ctrl := .clear, portErr := false, lostDone := false, doneCount := 0,
    alertCount := (allStations.filter (fun i => (s.st i).abandons)).length,
    port := s.port.softReset, scanTimer := none, passPending := false, pass := none, held := [], tasks := [], waiters := [],
    plan := [], jobs := [], endQueue := [], staging := [], permitHolders := [], permitQueue := [], photometer := none,
    photometerQueue := [],
    cals := ⟨{ s.cals.s0 with flight := none }, { s.cals.s1 with flight := none }, { s.cals.s2 with flight := none },
             { s.cals.s3 with flight := none }⟩,
    stations := ⟨s.stations.s0.softReset s.cals.s0.valid, s.stations.s1.softReset s.cals.s1.valid,
                 s.stations.s2.softReset s.cals.s2.valid, s.stations.s3.softReset s.cals.s3.valid⟩ }

/-- A station placed in READY has a calibration mark set. -/
def State.readyMarked (s : State) (i : StationId) : Bool := (s.st i).state == .ready && (s.cal i).marked

/-- SOFT_RESET: the blocks' soft-reset values, after which a station placed in READY loads its doze timer or asks for
the photometer, the askers in any order (R167, R87, R150). -/
def execSoftReset (s : State) : Host.Outcome State Fault Refusal :=
  let s1 := s.softResetBlocks
  let s2 := allStations.foldl State.dozeIfIdle s1
  (s2.inSomeOrder (allStations.filter s2.readyMarked) State.readyActions).done

/-! ## CTRL -/

/-- PORT_EN. A field written with its present value causes no event (R166). A 0 stops the taking of requests: a request
being served is carried to its end, and a port that serves none releases the bus (R170, R171; log 6). A 1 resumes the
list from its head. -/
def execPortEn (v : Bool) (s : State) : Host.Outcome State Fault Refusal :=
  if s.ctrl.portEn = v then .next s
  else
    let s1 : State := { s with ctrl := { s.ctrl with portEn := v } }
    if v || s.port.master = .tenure then s1.done
    else ({ s1 with port := { s1.port with master := .idle } } : State).done

/-- SCAN_EN (R36, R37): a 1 loads the scan timer when no pass is in progress; a 0 stops the timer and clears the
pass-pending flag, and a pass in progress goes on. -/
def execScanEn (v : Bool) (s : State) : Host.Outcome State Fault Refusal :=
  if s.ctrl.scanEn = v then .next s
  else
    let s1 : State := { s with ctrl := { s.ctrl with scanEn := v } }
    if v then (if s.pass.isNone then s1.loadScanTimer else s1).done
    else ({ s1 with scanTimer := none, passPending := false } : State).done

/-- INT_EN: the interrupt line follows (`State.irq`), and the counts are not touched (R169). -/
def execIntEn (v : Bool) (s : State) : Host.Outcome State Fault Refusal :=
  if s.ctrl.intEn = v then .next s else ({ s with ctrl := { s.ctrl with intEn := v } } : State).done

/-- PARK_EN: a 0 written to a parked port releases the bus at once (R171). -/
def execParkEn (v : Bool) (s : State) : Host.Outcome State Fault Refusal :=
  if s.ctrl.parkEn = v then .next s
  else
    let s1 : State := { s with ctrl := { s.ctrl with parkEn := v } }
    if !v && s.port.master == .parked then ({ s1 with port := { s1.port with master := .idle } } : State).done
    else s1.done

/-- WAIT: the minimum for every transfer that begins after the write; the one on the bus keeps its own (R166). -/
def execWait (v : BitVec 4) (s : State) : Host.Outcome State Fault Refusal :=
  if s.ctrl.wait = v then .next s else ({ s with ctrl := { s.ctrl with wait := v } } : State).done

/-! ## The other registers -/

/-- SCANIVL_WRITE: the merged word, clamped to 65,535; with no pass in progress a 0 stops the scan timer and any other
value loads it while SCAN_EN is 1 (R37, R165). -/
def execScanivlWrite (value : Word) (lanes : BitVec 4) (s : State) : Host.Outcome State Fault Refusal :=
  let ivl := min 65535 (mergeLanes (BitVec.ofNat 32 s.scanIvl) value lanes).toNat
  let s1 : State := { s with scanIvl := ivl }
  if s.pass.isSome then s1.done
  else if ivl = 0 then ({ s1 with scanTimer := none } : State).done
  else s1.loadScanTimer.done

/-- LOOK: a pass starts, or becomes pending during a pass; ignored with SCAN_EN at 0 (R36). -/
def execLook (s : State) : Host.Outcome State Fault Refusal :=
  if !s.ctrl.scanEn then .next s
  else if s.pass.isSome then ({ s with passPending := true } : State).done
  else s.startPass.done

/-- ATTN_READ: both counts are returned as they stand and cleared in the same event (R169). -/
def execAttnRead (s : State) : Host.Outcome State Fault Refusal :=
  ({ s with readData := s.attnWord, doneCount := 0, alertCount := 0 } : State).done

/-- REGISTER_WRITE: BRDBASE is stored with bits 5..0 cleared, BRDSLOTS clamped to 64; IDENT, STAT and ATTN ignore writes
(R165). -/
def execRegisterWrite (reg : PlainReg) (value : Word) (lanes : BitVec 4) (s : State) :
    Host.Outcome State Fault Refusal :=
  match reg with
  | .brdBase => ({ s with brdBase := mergeLanes s.brdBase value lanes &&& ~~~0x3F#32 } : State).done
  | .brdSlots =>
    ({ s with brdSlots := min 64 (mergeLanes (BitVec.ofNat 32 s.brdSlots) value lanes).toNat } : State).done
  | .ident => .next s
  | .stat => .next s
  | .attn => .next s

/-- SCAN_TIMER_EXPIRY: the running timer stops and a pass starts (R37). -/
def execScanTimerExpiry (s : State) : Host.Outcome State Fault Refusal :=
  if s.scanTimer.isSome && s.ctrl.scanEn && s.pass.isNone then s.startPass.done else .next s

end Sys2Proof.Machine
end

