-- ==== Sys2Proof/Machine/Services.lean ====
section
/-! DEFINITION. The eleven services (R152 to R164) and the writes of a service's output buffer. A service command
executes the service that stands ready in the claim phase; with none of its kind ready it changes nothing (log 4). -/

namespace Sys2Proof.Machine

/-- The service of kind `k` that stands ready to execute. -/
def State.readyService (s : State) (k : ServiceKind) : Option Service :=
  match s.pass with
  | some p =>
    match p.phase with
    | .service v => if v.kind = k then some v else none
    | _ => none
  | none => none

/-- The service of kind `k` executes. -/
def State.runService (s : State) (k : ServiceKind) (act : Service → State) : Host.Outcome State Fault Refusal :=
  match s.readyService k with
  | some v => (act v).done
  | none => .next s

/-- The service ends, DONE_CLAMPED when a field was brought into range (R152). -/
def State.endService (s : State) (clamped : Bool) : State :=
  s.endTicket (if clamped then .doneClamped else .doneOk) .none 0

/-- The service is refused by the legality table (R153). -/
def State.refuseService (s : State) : State := s.endTicket .refusedState .none 0

/-! ## TONE_LOAD -/

/-- A station is exposing for a job with tone index `k` (R104, R154). -/
def State.toneInUse (s : State) (k : Nat) : Bool :=
  allStations.any (fun i => (s.st i).state == .exposing && (s.attached i).any (fun j => j.expo.tone == k))

/-- The image's entries placed in the staging table, in entry order, each clamped to 1023 as it is placed (R104). -/
def State.stageImage (s : State) (data : List Byte) : State :=
  { s with staging := (toneEntries data).map (fun e => some (min 1023 e)) }

/-- The staging table's contents. -/
def State.staged (s : State) : List Nat := s.staging.filterMap id

/-- The staging table is discarded (R104). -/
def State.discardStaging (s : State) : State := { s with staging := [] }

/-- The staging table replaces tone table `k` whole, and holds nothing after (R104). -/
def State.replaceTone (s : State) (k : Nat) : State :=
  { s with tones := toneReplace s.tones k s.staged, staging := [] }

/-- The end of the image read: the staging table, filled, replaces the table the selector names, unless it is in use; then
the staging table is discarded and the service refused (R104, R154). -/
def State.takeToneImage (s : State) (v : Service) (data : List Byte) : State :=
  let s1 := s.stageImage data
  if s.toneInUse v.selector then s1.discardStaging.refuseService
  else (s1.replaceTone v.selector).endService (s1.staged != toneEntries data)

/-- TONE_LOAD (R154). -/
def execToneLoad (data : List Byte) (s : State) : Host.Outcome State Fault Refusal :=
  s.completed (fun r => r.purpose == .toneImage && data.length == r.len) (fun _ s =>
    match s.pass with
    | some p =>
      match p.phase with
      | .toneImage v => s.takeToneImage v data
      | _ => s
    | none => s)

/-! ## STOCK_SET and SUPPLY_SET -/

/-- The stock and the supply may be set: no sheet at the station (R88, R153). -/
def Station.stockLegal (x : Station) : Bool :=
  match x.state with
  | .parked | .waking | .ready | .dozing | .faulted => true
  | .calibrating => x.sheet.isNone
  | .loading | .sheetOpen | .exposing | .closing => false

/-- A supply or stock change reaches a job in SUPPLY_WAIT: its load decision runs, or, when the station cannot run it at
once, it moves to ATTACHED (R58). -/
def State.supplyChanged (s : State) (i : StationId) : State :=
  match s.attached i with
  | some j =>
    if j.state = .supplyWait ∧ j.ending.isNone then
      (if s.mayDecide i then s.runDecision i else s.updJob j.slotAddr (fun j => { j with state := .attached }))
    else s
  | none => s

/-- STOCK_SET: stock ID, film speed and supply; then the waiting job's decision, the NO_STOCK test and a match (R155). -/
def execStockSet (s : State) : Host.Outcome State Fault Refusal :=
  s.runService .stockSet (fun v =>
    if (s.st v.station).stockLegal then
      let speed := clamp 256 4096 v.p2.toNat
      let supply := clamp 0 65535 v.p3.toNat
      let s1 := s.updSt v.station
        (fun x => { x with stock := v.p1.toNat % 65536, speed := speed, supply := supply })
      ((s1.supplyChanged v.station).testAllStock.settle).endService (speed != v.p2.toNat || supply != v.p3.toNat)
    else s.refuseService)

/-- SUPPLY_SET: the supply count; then the waiting job's decision and a match (R156). -/
def execSupplySet (s : State) : Host.Outcome State Fault Refusal :=
  s.runService .supplySet (fun v =>
    if (s.st v.station).stockLegal then
      let supply := clamp 0 65535 v.p1.toNat
      let s1 := s.updSt v.station (fun x => { x with supply := supply })
      ((s1.supplyChanged v.station).settle).endService (supply != v.p1.toNat)
    else s.refuseService)

/-! ## CAL_REQUEST -/

/-- A due mark has been set at station `i`: its frame in flight is flagged AGED; in READY it asks for the photometer, in
DOZING a wake begins (R70, R73, R139, R140, R157). -/
def State.dueMarkSet (s : State) (i : StationId) : State :=
  let s1 := s.updEntry i (fun e => { e with aged := true })
  if (s.st i).state = .dozing then s1.beginWake i else s1.readyActions i

/-- CAL_REQUEST: QUICK due for selector 1, FULL due for 2; refused in FAULTED (R157). -/
def execCalRequest (s : State) : Host.Outcome State Fault Refusal :=
  s.runService .calRequest (fun v =>
    if (s.st v.station).state = .faulted then s.refuseService
    else
      let s1 := s.updCal v.station (fun c =>
        if v.selector = 1 then { c with quickDue := true } else { c with fullDue := true })
      (s1.dueMarkSet v.station).endService false)

/-! ## STATION_PARK, STATION_WAKE, STATION_RESET -/

/-- STATION_PARK is taken in DOZING, and in READY and FAULTED with no job attached (R153). -/
def State.parkLegal (s : State) (i : StationId) : Bool :=
  match (s.st i).state with
  | .dozing => true
  | .ready | .faulted => (s.attached i).isNone
  | .parked | .waking | .calibrating | .loading | .sheetOpen | .exposing | .closing => false

/-- The station is powered down: PARKED, or FAULTED still, with its drive unpowered and its table invalid (R74, R158). -/
def State.parkStation (s : State) (i : StationId) : State :=
  let s1 := (s.updSt i (fun x =>
    { x.timersStopped with powered := false, state := if x.state = .faulted then .faulted else .parked })).updCal i
      (fun c => { c with valid := false })
  s1.leavePhotometerQueue i

/-- STATION_PARK (R158). -/
def execStationPark (s : State) : Host.Outcome State Fault Refusal :=
  s.runService .stationPark (fun v =>
    if s.parkLegal v.station then (s.parkStation v.station).endService false else s.refuseService)

/-- STATION_WAKE: a wake from PARKED or DOZING, no effect in WAKING or READY, refused elsewhere (R159). -/
def execStationWake (s : State) : Host.Outcome State Fault Refusal :=
  s.runService .stationWake (fun v =>
    match (s.st v.station).state with
    | .parked | .dozing => (s.beginWake v.station).endService false
    | .waking | .ready => s.endService false
    | .calibrating | .loading | .sheetOpen | .exposing | .closing | .faulted => s.refuseService)

/-- A pending return at a station that is READY again is cleared: the job stays attached (R64). -/
def State.keepJob (s : State) (i : StationId) : State :=
  match s.attached i with
  | some j =>
    if j.returnPending && (s.st i).state == .ready then
      s.updJob j.slotAddr (fun j => { j with returnPending := false, state := .attached })
    else s
  | none => s

/-- The placement of a reset station: READY when its drive is powered and its table valid, and PARKED if not, its flag
clear and its table invalid (R86). -/
def State.placeReset (s : State) (i : StationId) : State :=
  let ready := (s.st i).powered && (s.cal i).valid
  (s.updSt i (fun x => { x.timersStopped with state := if ready then .ready else .parked, cause := .none,
                                              powered := ready, drive := [], driveSaturated := 0 })).updCal i
    (fun c => { c with valid := ready })

/-- One station is reset (R86): the operation in flight ended and every list left, the sheet lost or the job returned,
the station placed. -/
def State.resetStation (s : State) (i : StationId) : State :=
  (((((s.leaveAll i).placeReset i).dropWork i).keepJob i).readyActions i).settle

/-- The end of a STATION_RESET that reached the job of the slot at `a`, if any: the reset's own completion task joins the
write list after that job's. When the job's end waits for the dispatcher (R65), the reset's task waits behind it (R160). R160
says so of the SHEET_LOST end the reset makes; that the task waits in the same way behind any other end of that job, a STOPPED
that was waiting already or a NO_STOCK met at the job's return, is DESIGN CHOICE (log 34). -/
def State.endReset (s : State) (a : Option Addr) : State :=
  if a.any (fun a => s.endQueue.contains (.ending a)) then
    (({ s with endQueue := s.endQueue ++ [.ticket .doneOk .none 0] } : State).updPass
      (fun p => { p with phase := .taskWait })).giveUpPlace
  else s.endService false

/-- STATION_RESET: taken in every state (R160). -/
def execStationReset (s : State) : Host.Outcome State Fault Refusal :=
  s.runService .stationReset (fun v =>
    (s.resetStation v.station).endReset ((s.attached v.station).map (·.slotAddr)))

/-! ## TIMING_SET and SERIAL_SET -/

/-- The four parameters of a TIMING_SET, each clamped to its range; a doze_delay of 0 is off (R161). -/
def timingOf (v : Service) : Timing :=
  { quickInterval := clamp 10 2000 v.p1.toNat, fullInterval := clamp 500 60000 v.p2.toNat,
    dozeDelay := min 600 v.p3.toNat, trimHold := clamp 10 3600 v.p4.toNat }

/-- A field of a TIMING_SET was brought into range. -/
def timingClamped (v : Service) : Bool :=
  (timingOf v).quickInterval != v.p1.toNat || (timingOf v).fullInterval != v.p2.toNat ||
    (timingOf v).dozeDelay != v.p3.toNat || (timingOf v).trimHold != v.p4.toNat

/-- The comparison under timing `t` sets a mark at station `i` that was not set (R137). -/
def State.newlyDue (s : State) (t : Timing) (i : StationId) : Bool :=
  let c := s.cal i
  let d := c.compare t
  (d.quickDue && !c.quickDue) || (d.fullDue && !c.fullDue)

/-- The doze timers after a TIMING_SET: stopped by a doze_delay of 0, loaded at the idle stations by one raised from 0
(R72, R161). -/
def State.dozeDelaySet (s : State) : State :=
  if s.timing.dozeDelay = 0 then
    allStations.foldl (fun s i => s.updSt i (fun x => { x with dozeTimer := none })) s
  else allStations.foldl State.dozeIfIdle s

/-- TIMING_SET (R161): the parameters, the comparison at every station with each new mark acting as CAL_REQUEST's does,
the doze timers. -/
def execTimingSet (s : State) : Host.Outcome State Fault Refusal :=
  s.runService .timingSet (fun v =>
    let t := timingOf v
    let marked := allStations.filter (s.newlyDue t)
    let s1 : State := { s with timing := t }
    let s2 := allStations.foldl (fun s i => s.updCal i (CalUnit.compare t)) s1
    ((s2.inSomeOrder marked State.dueMarkSet).dozeDelaySet).endService (timingClamped v))

/-- SERIAL_SET: the sheet serial counter (R162). -/
def execSerialSet (s : State) : Host.Outcome State Fault Refusal :=
  s.runService .serialSet (fun v => ({ s with serial := v.p1 } : State).endService false)

/-! ## EMITTER_READ and STATION_QUERY -/

/-- The emitter report of station `i` in its pieces: the header, each trim, each status (R32). -/
def State.emitterReport (s : State) (i : StationId) : List (List Byte) :=
  let c := s.cal i
  (leBytes 1 (stationNat i) ++ leBytes 1 (bit c.valid 1) ++ leBytes 2 c.h ++ leBytes 2 c.dead ++ leBytes 2 c.weak ++
    leBytes 2 c.sinceFull ++ leBytes 2 c.sinceQuick ++ leBytes 4 0) ::
    (c.trims.map (leBytes 2) ++ c.statuses.map (fun e => leBytes 1 e.code))

/-- The 32-byte station status record of station `i` (R31). -/
def State.stationRecord (s : State) (i : StationId) : List Byte :=
  let x := s.st i
  let c := s.cal i
  let j := s.attached i
  leBytes 1 (stationNat i) ++ leBytes 1 x.state.code ++ leBytes 1 x.cause.code ++ leBytes 1 (s.marksByte i) ++
    leBytes 2 x.stock ++ leBytes 2 x.speed ++ leBytes 2 x.supply ++ leBytes 2 c.h ++ leBytes 2 c.sinceFull ++
    leBytes 2 c.sinceQuick ++ leBytes 1 ((j.map (·.slot)).getD 0xFF) ++ leBytes 1 ((j.map (·.state.code)).getD 0) ++
    leBytes 1 ((j.map (·.sheets.length)).getD 0) ++ leBytes 1 (bit x.sheet.isSome 1) ++
    leBytes 2 ((x.sheet.map (·.map.length)).getD 0) ++ leBytes 2 c.dead ++
    leBytes 4 ((x.sheet.map (·.serial.toNat)).getD 0) ++ leBytes 2 c.weak ++ leBytes 2 0

/-- A reporting service writes its fitting pieces, one after another, and ends at once when none fits (R31, R32). -/
def State.writeOutput (s : State) (v : Service) (pieces : List (List Byte)) : State :=
  let fit := (fitting v.bufSize 0 pieces).map (fun p => (addrPlus v.bufAddr p.1, p.2))
  match fit with
  | [] => s.endTicket .doneOk .none 0
  | w :: _ =>
    (s.updPass (fun p => { p with phase := .output fit (fit.map (·.2.length)).sum })).requestWrite .output w.1 w.2

/-- EMITTER_READ (R163). -/
def execEmitterRead (s : State) : Host.Outcome State Fault Refusal :=
  s.runService .emitterRead (fun v => s.writeOutput v (s.emitterReport v.station))

/-- STATION_QUERY (R164). -/
def execStationQuery (s : State) : Host.Outcome State Fault Refusal :=
  s.runService .stationQuery (fun v => s.writeOutput v [s.stationRecord v.station])

/-- The next piece of the output buffer is written, or the service ends (R32). -/
def State.nextOutput (s : State) : State :=
  match s.pass with
  | some p =>
    match p.phase with
    | .output (_ :: w :: rest) n =>
      (s.updPass (fun p => { p with phase := .output (w :: rest) n })).requestWrite .output w.1 w.2
    | .output _ n => s.endTicket .doneOk .none n
    | _ => s
  | none => s

/-- OUTPUT_WRITE_DONE (R31, R32). -/
def execOutputWriteDone (s : State) : Host.Outcome State Fault Refusal :=
  s.completed (fun r => r.purpose == .output) (fun _ s => s.nextOutput)

end Sys2Proof.Machine
end

