-- ==== Sys2Proof/Machine/Bus.lean ====
section
/-! DEFINITION. The bus arbiter's events and the timeout of a transfer (R171, R172), with what each channel does on a
port error. -/

namespace Sys2Proof.Machine

/-- BUS_GRANT: the port that asserts bus request is granted the bus; with busy released already it begins its tenure at
once, and otherwise it waits for busy (R171). -/
def execBusGrant (s : State) : Host.Outcome State Fault Refusal :=
  if s.port.master = .requesting then
    if s.port.busFree then ({ s with port := s.port.begin s.ctrl } : State).done
    else ({ s with port := { s.port with master := .granted } } : State).done
  else .next s

/-- BUSY_RELEASED: the granted port asserts busy and begins its tenure with the list's oldest request; a port without the
grant keeps the release for its next grant (R171; log 6). -/
def execBusyReleased (s : State) : Host.Outcome State Fault Refusal :=
  match s.port.master with
  | .granted => ({ s with port := s.port.begin s.ctrl } : State).done
  | .idle | .requesting => ({ s with port := { s.port with busFree := true } } : State).done
  | .tenure | .parked => .next s

/-- GRANT_WITHDRAWN: a parked port drops bus request; in tenure the withdrawal takes effect at the end of the request
being served, or of a withdrawn one's transfer; a port still waiting for busy is requesting again (R171; log 6). -/
def execGrantWithdrawn (s : State) : Host.Outcome State Fault Refusal :=
  match s.port.master with
  | .parked => ({ s with port := { s.port with master := .idle } } : State).done
  | .tenure => ({ s with port := { s.port with grantLost := true } } : State).done
  | .granted => ({ s with port := { s.port with master := .requesting } } : State).done
  | .idle | .requesting => .next s

/-- What a channel does when its request has ended in a port error (R172): a skipped slot, an unreadable ticket (a tone image's
staging table discarded with it, R104), a read fault, a stop reading taken as 0, a completion that goes on, a lost DONE. -/
def State.portError (s : State) : Purpose → State
  | .slotRead => s.nextSlotRead
  | .kindPeek => s.skipCandidate
  | .claim => s.skipCandidate
  | .ticketHead => s.endTicket .ticketUnreadable .none 0
  | .ticketRest => s.endTicket .ticketUnreadable .none 0
  | .toneImage => s.discardStaging.endTicket .ticketUnreadable .none 0
  | .output => s.nextOutput
  | .completionWrite => s.nextWrite
  | .doneWrite => s.doneLost
  | .row i => s.readFault i
  | .pageEntry i =>
    match s.attached i with
    | some j => (s.reachPage i).voidUnread i j.nextPage
    | none => s
  | .decision i => s.decisionRead i false
  | .passEnd i => s.passEndRead i false
  | .boundary i => s.boundaryRead i false
  | .band i => s.bandRead i false

/-- TRANSFER_TIMEOUT: the request being served ends in a port error; PORT_ERR is set, the port goes on with its list, and
the channel acts (R172). The timeout of a withdrawn request's transfer ends that transfer and sets no flag (R102, R170;
log 7). With no transfer on the bus nothing times out (log 2). -/
def execTransferTimeout (s : State) : Host.Outcome State Fault Refusal :=
  match s.serving with
  | some r => (({ s.endRequest with portErr := true } : State).portError r.purpose).done
  | none => if s.port.onBus.isSome then s.endDiscarded.done else .next s

end Sys2Proof.Machine
end

