-- ==== Sys2Proof/Machine/Stations.lean ====
section
/-! DEFINITION. The stations' timers and the reports of the cabinet's drivers (R69 to R82): doze, hold, wake and load
timers; registration, jam, head fault, sheet stacked. A report that its station's state ignores changes nothing. -/

namespace Sys2Proof.Machine

/-- DOZE_TIMER_EXPIRY: the idle station enters DOZING, its hold timer loaded (R72). -/
def execDozeTimerExpiry (st : StationId) (s : State) : Host.Outcome State Fault Refusal :=
  if (s.st st).dozeTimer.isSome && (s.st st).state == .ready then
    (s.updSt st (fun x => { x with state := .dozing, dozeTimer := none, holdTimer := some s.timing.trimHold })).done
  else .next s

/-- HOLD_TIMER_EXPIRY: QUICK required; the station stays DOZING (R73). -/
def execHoldTimerExpiry (st : StationId) (s : State) : Host.Outcome State Fault Refusal :=
  if (s.st st).holdTimer.isSome && (s.st st).state == .dozing then
    ((s.updSt st (fun x => { x with holdTimer := none })).updCal st (fun c => { c with quickRequired := true })).done
  else .next s

/-- The wake ends in READY (R70, R64, R75). -/
def State.wakeEnds (s : State) (i : StationId) : State :=
  let s1 := s.updSt i (fun x =>
    { x with state := .ready, wakeTimer := none, powered := x.powered || x.wakeFromParked, wakeFromParked := false })
  ((s1.keepJob i).readyActions i).settle

/-- WAKE_TIMER_EXPIRY (R70). -/
def execWakeTimerExpiry (st : StationId) (s : State) : Host.Outcome State Fault Refusal :=
  if (s.st st).wakeTimer.isSome && (s.st st).state == .waking then (s.wakeEnds st).done else .next s

/-- An attempt to register has failed: a second feed at attempt 1 with supply left, and otherwise a LOAD fault (R78). -/
def State.failAttempt (s : State) (i : StationId) : State :=
  let x := s.st i
  if (x.sheet.any (fun sh => sh.attempt == 1)) && decide (1 ≤ x.supply) then
    (s.updSt i (fun x => { x with supply := x.supply - 1, loadTimer := some Config.loadMs, ejects := x.ejects + 1,
                                  feeds := x.feeds + 1, transport := .feed (x.feeds + 1) })).updSheet i
      (fun sh => { sh with attempt := 2 })
  else
    (s.updSt i (fun x => { x with ejects := x.ejects + 1, transport := .eject })).enterFaulted i .load

/-- LOAD_TIMER_EXPIRY: a failed registration (R78). -/
def execLoadTimerExpiry (st : StationId) (s : State) : Host.Outcome State Fault Refusal :=
  if (s.st st).loadTimer.isSome && (s.st st).state == .loading then (s.failAttempt st).done else .next s

/-- REGISTRATION_FOUND: in LOADING, for the latest feed, the sheet is open and the stop word read (R69, R77). -/
def execRegistrationFound (st : StationId) (feed : Nat) (s : State) : Host.Outcome State Fault Refusal :=
  if (s.st st).state == .loading && feed == (s.st st).feeds then
    ((s.updSt st (fun x => { x with state := .sheetOpen, loadTimer := none })).boundary st).done
  else .next s

/-- REGISTRATION_FAILED: in LOADING, for the latest feed, the attempt ends (R69, R78). -/
def execRegistrationFailed (st : StationId) (feed : Nat) (s : State) : Host.Outcome State Fault Refusal :=
  if (s.st st).state == .loading && feed == (s.st st).feeds then (s.failAttempt st).done else .next s

/-- A driver's fault report acts in every state but PARKED and FAULTED (R69). -/
def State.takesFault (s : State) (i : StationId) : Bool :=
  (s.st i).state != .parked && (s.st i).state != .faulted

/-- JAM (R69, R82). -/
def execJam (st : StationId) (s : State) : Host.Outcome State Fault Refusal :=
  if s.takesFault st then (s.enterFaulted st .jam).done else .next s

/-- HEAD_FAULT (R69, R82). -/
def execHeadFault (st : StationId) (s : State) : Host.Outcome State Fault Refusal :=
  if s.takesFault st then (s.enterFaulted st .head).done else .next s

/-- The sheet is stacked: the station enters READY and adds the sheet's release task; the dispatcher acts once it has
joined the write list (R46, R62, R80). -/
def State.stackSheet (s : State) (i : StationId) (j : Job) (sh : Sheet) : State :=
  let s1 := s.updSt i (fun x => { x with state := .ready, sheet := none, stacked := some sh, activity := .idle })
  let t : Task := .release j.slotAddr j.ticket i sh.index sh.serial (sh.map.filter (·.page.isSome))
  let s2 := s1.addTask t
  if s1.tasks.length < Config.writeListPlaces ∧ s1.waiters.isEmpty then (s2.stackedEvent i).settle else s2

/-- SHEET_STACKED: acts in CLOSING (R69, R80). A report left over from a sheet lost in CLOSING that comes while the station's next
sheet is in CLOSING is taken as the next sheet's: DESIGN CHOICE (log 37), since the report names no sheet. -/
def execSheetStacked (st : StationId) (s : State) : Host.Outcome State Fault Refusal :=
  if (s.st st).state = .closing then
    match s.attached st, (s.st st).sheet with
    | some j, some sh => (s.stackSheet st j sh).done
    | _, _ => .next s
  else .next s

end Sys2Proof.Machine
end

