-- ==== Sys2Proof/Machine/Dispatch.lean ====
section
/-! DEFINITION. The meaning of every command: one arm for each row of spec/opcode_table.json. -/

namespace Sys2Proof.Machine

def exec (i : Instr) (s : State) : Host.Outcome State Fault Refusal :=
  match i with
  | .powerOnReset => Sys2Proof.Machine.execPowerOnReset s
  | .softReset => Sys2Proof.Machine.execSoftReset s
  | .portEn v => Sys2Proof.Machine.execPortEn v s
  | .scanEn v => Sys2Proof.Machine.execScanEn v s
  | .intEn v => Sys2Proof.Machine.execIntEn v s
  | .parkEn v => Sys2Proof.Machine.execParkEn v s
  | .wait v => Sys2Proof.Machine.execWait v s
  | .scanivlWrite value lanes => Sys2Proof.Machine.execScanivlWrite value lanes s
  | .look => Sys2Proof.Machine.execLook s
  | .attnRead => Sys2Proof.Machine.execAttnRead s
  | .registerWrite reg value lanes => Sys2Proof.Machine.execRegisterWrite reg value lanes s
  | .scanTimerExpiry => Sys2Proof.Machine.execScanTimerExpiry s
  | .slotReadDone data => Sys2Proof.Machine.execSlotReadDone data s
  | .kindPeekDone data => Sys2Proof.Machine.execKindPeekDone data s
  | .claimReadDone data => Sys2Proof.Machine.execClaimReadDone data s
  | .claimWriteDone => Sys2Proof.Machine.execClaimWriteDone s
  | .ticketHeadReadDone data => Sys2Proof.Machine.execTicketHeadReadDone data s
  | .ticketRestReadDone data => Sys2Proof.Machine.execTicketRestReadDone data s
  | .toneLoad data => Sys2Proof.Machine.execToneLoad data s
  | .stockSet => Sys2Proof.Machine.execStockSet s
  | .supplySet => Sys2Proof.Machine.execSupplySet s
  | .calRequest => Sys2Proof.Machine.execCalRequest s
  | .stationPark => Sys2Proof.Machine.execStationPark s
  | .stationWake => Sys2Proof.Machine.execStationWake s
  | .stationReset => Sys2Proof.Machine.execStationReset s
  | .timingSet => Sys2Proof.Machine.execTimingSet s
  | .serialSet => Sys2Proof.Machine.execSerialSet s
  | .emitterRead => Sys2Proof.Machine.execEmitterRead s
  | .stationQuery => Sys2Proof.Machine.execStationQuery s
  | .outputWriteDone => Sys2Proof.Machine.execOutputWriteDone s
  | .completionWriteDone => Sys2Proof.Machine.execCompletionWriteDone s
  | .doneWriteDone => Sys2Proof.Machine.execDoneWriteDone s
  | .loadDecision stop => Sys2Proof.Machine.execLoadDecision stop s
  | .passEndReadingDone stop => Sys2Proof.Machine.execPassEndReadingDone stop s
  | .boundaryReadingDone stop => Sys2Proof.Machine.execBoundaryReadingDone stop s
  | .bandReadingDone stop => Sys2Proof.Machine.execBandReadingDone stop s
  | .dozeTimerExpiry st => Sys2Proof.Machine.execDozeTimerExpiry st s
  | .holdTimerExpiry st => Sys2Proof.Machine.execHoldTimerExpiry st s
  | .wakeTimerExpiry st => Sys2Proof.Machine.execWakeTimerExpiry st s
  | .loadTimerExpiry st => Sys2Proof.Machine.execLoadTimerExpiry st s
  | .registrationFound st feed => Sys2Proof.Machine.execRegistrationFound st feed s
  | .registrationFailed st feed => Sys2Proof.Machine.execRegistrationFailed st feed s
  | .jam st => Sys2Proof.Machine.execJam st s
  | .headFault st => Sys2Proof.Machine.execHeadFault st s
  | .sheetStacked st => Sys2Proof.Machine.execSheetStacked st s
  | .moveComplete st => Sys2Proof.Machine.execMoveComplete st s
  | .settleTimerExpiry st => Sys2Proof.Machine.execSettleTimerExpiry st s
  | .fullMeasurementReport st readings => Sys2Proof.Machine.execFullMeasurementReport st readings s
  | .quickMeasurementReport st q => Sys2Proof.Machine.execQuickMeasurementReport st q s
  | .pageEntryReadDone data => Sys2Proof.Machine.execPageEntryReadDone data s
  | .rowFetchDone data => Sys2Proof.Machine.execRowFetchDone data s
  | .lineEnd st => Sys2Proof.Machine.execLineEnd st s
  | .busGrant => Sys2Proof.Machine.execBusGrant s
  | .busyReleased => Sys2Proof.Machine.execBusyReleased s
  | .grantWithdrawn => Sys2Proof.Machine.execGrantWithdrawn s
  | .transferTimeout => Sys2Proof.Machine.execTransferTimeout s

end Sys2Proof.Machine
end

