-- ==== Sys2Proof/Safety.lean ====
section
/-! DEFINITION. What counts as a safe run of the FM4, in the terms the statements use: the ranges of its registers, the
state of the memory port between commands, the permit and photometer rules, and the frames "nothing changed but …". -/

namespace Sys2Proof.Machine

/-! ## Between commands -/

/-- Between commands every request made has joined the list, and the port has taken up what it may (R170, R171). -/
def State.settled (s : State) : Prop := s.port.arriving = [] ∧ settlePort s.ctrl s.port = s.port

/-- The dispatcher has nothing to do: no event in its turn, no waiting return for which there is room, and no free station
with a fitting job in the intake list (R55, R64, R65). -/
def State.atRest (s : State) : Prop := s.dispatchStep = none

/-- The dispatcher has nothing to do, also once the candidate being claimed gives up a place in the intake list (R64). -/
def State.calm (s : State) : Prop := ({ s with pass := none } : State).atRest

/-! ## Register ranges -/

/-- The registers and counts hold what the register window can hold (R165, R169), and the timing parameters are in
range (R161). -/
def State.rangesHold (s : State) : Prop :=
  s.brdBase &&& 0x3F#32 = 0#32 ∧ s.brdSlots ≤ 64 ∧ s.scanIvl ≤ 65535 ∧ s.doneCount ≤ 65535 ∧ s.alertCount ≤ 255 ∧
    (10 ≤ s.timing.quickInterval ∧ s.timing.quickInterval ≤ 2000) ∧
    (500 ≤ s.timing.fullInterval ∧ s.timing.fullInterval ≤ 60000) ∧
    s.timing.dozeDelay ≤ 600 ∧ (10 ≤ s.timing.trimHold ∧ s.timing.trimHold ≤ 3600)

/-! ## Permits and the photometer -/

/-- The permit arbiter's rule (R118): at most two holders, no station twice among holders and waiting list, a permit
free only while the list is empty, and every station in EXPOSING holds one. -/
def State.permitsHold (s : State) : Prop :=
  (s.permitHolders ++ s.permitQueue).Nodup ∧ s.permitHolders.length ≤ 2 ∧
    (s.permitQueue ≠ [] → s.permitHolders.length = 2) ∧
    ∀ i, (s.st i).state = .exposing → i ∈ s.permitHolders

/-- The photometer's rule (R141): a station in CALIBRATING holds the photometer, the queue holds no station twice nor
the holder, and it holds a station only while the photometer is held. -/
def State.photometerHolds (s : State) : Prop :=
  (s.photometer.toList ++ s.photometerQueue).Nodup ∧ (s.photometerQueue ≠ [] → s.photometer ≠ none) ∧
    ∀ i, (s.st i).state = .calibrating → s.photometer = some i

/-! ## Frames -/

/-- Nothing but the memory port differs. -/
def State.onlyPort (s t : State) : Prop := t = { s with port := t.port }

/-- Nothing but the scan half's pass and timer, the write list and the memory port differs. -/
def State.onlyScanner (s t : State) : Prop :=
  t = { s with port := t.port, scanTimer := t.scanTimer, passPending := t.passPending, pass := t.pass,
               tasks := t.tasks, waiters := t.waiters, plan := t.plan, choices := t.choices }

/-- Nothing about a station differs but what is named: station `i` as `x` says, the others as they were. -/
def State.onlyStation (s t : State) (i : StationId) (x : Station) : Prop :=
  t.st i = x ∧ ∀ k, k ≠ i → t.st k = s.st k

/-- Task `k` has joined the write list, or waits to when the list holds 16 or others wait before it (R44). -/
def State.taskAdded (s t : State) (k : Task) : Prop :=
  if s.tasks.length < 16 ∧ s.waiters = [] then t.tasks = s.tasks ++ [k] ∧ t.waiters = []
  else t.tasks = s.tasks ∧ t.waiters = s.waiters ++ [k]

/-- The request in service has purpose `p` and asks for `n` bytes; no request is on its way to the list (R170). -/
def State.serves (s : State) (p : Purpose) (n : Nat) : Prop :=
  s.port.arriving = [] ∧ ∃ r, s.serving = some r ∧ r.purpose = p ∧ r.len = n

/-- The port when the request in service has ended and `new` has been requested at its end (R170, R171): the port first
acts on its list as it stands, and a channel's next request then joins it (the model's reading, log 5). -/
def State.portAfter (s : State) (new : List Request) : Port :=
  settlePort s.ctrl { afterRequest s.ctrl s.port s.port.list.tail with list := s.port.list.tail ++ new, arriving := [] }

/-- The port when `new` has been requested at an event that ends no request (R170, R171). -/
def State.portWith (s : State) (new : List Request) : Port :=
  settlePort s.ctrl { s.port with list := s.port.list ++ new, arriving := [] }

/-- A read request. -/
def readRequest (p : Purpose) (a : Addr) (n : Nat) : Request :=
  { purpose := p, kind := .read, addr := a, len := n, data := [] }

/-- A write request. -/
def writeRequest (p : Purpose) (a : Addr) (d : List Byte) : Request :=
  { purpose := p, kind := .write, addr := a, len := d.length, data := d }

/-- The locked sequence that claims candidate `c`'s slot (R41). -/
def claimRequest (c : Candidate) : Request :=
  { purpose := .claim, kind := .lockedRmw, addr := c.addr, len := 16, data := [0x02, 0, 0, 0] }

/-- The service `v` of candidate `c` stands ready to execute in the claim phase of pass `p` (R34). -/
def State.atService (s : State) (p : Pass) (c : Candidate) (v : Service) : Prop :=
  s.pass = some p ∧ p.phase = .service v ∧ p.current = some c

/-- The ticket of candidate `c` has ended with this outcome, reason and length: its completion task has joined the write
list, or waits to, and nothing else differs but the scan half, the write list and the memory port (R34, R48). -/
def State.ticketEnds (s t : State) (c : Candidate) (outcome : TicketOutcome) (reason : Reason) (length : Nat) : Prop :=
  s.onlyScanner t ∧ s.taskAdded t (.ticket c.addr outcome reason length)

/-- The dispatcher can add a completion task at once: the write list has room and nothing waits (R44, R65). -/
def State.listRoom (s : State) (n : Nat) : Prop := s.tasks.length + n ≤ 16 ∧ s.waiters = []

/-- The jobs with that of the slot at `a` changed by `f`. -/
def State.jobsWith (s : State) (a : Addr) (f : Job → Job) : List Job :=
  s.jobs.map (fun k => if k.slotAddr = a then f k else k)

/-- The job at `a` has ended with an outcome: it is FINISHING and off its station, and its completion task stands on the
write list (R65). -/
def State.jobEnds (s t : State) (a : Addr) (outcome : TicketOutcome) : Prop :=
  t.jobs = s.jobs.map (fun k => if k.slotAddr = a then k.finished outcome else k) ∧
    t.tasks = s.tasks ++ [.completion a] ∧ t.waiters = []

/-- Station `i` holds a permit, and station `q` stands at the head of the waiting list, positioned for area `b`; `rest` is the
list behind it (R118). -/
def State.permitAwaited (s : State) (i q : StationId) (b : Area) (rest : List StationId) : Prop :=
  i ∈ s.permitHolders ∧ i ∉ s.permitQueue ∧ s.permitQueue = q :: rest ∧ (s.st q).activity = .permitWait b

/-- Station `i`'s permit has been returned and granted to station `q`, which has left the waiting list, is in EXPOSING and
has begun line 0 of its area `b` (R80, R118). -/
def State.permitPasses (s t : State) (i q : StationId) (b : Area) (rest : List StationId) : Prop :=
  t.permitHolders = s.permitHolders.filter (· != i) ++ [q] ∧ t.permitQueue = rest ∧ (t.st q).state = .exposing ∧
    (t.st q).activity = .line b 0 ∧ (t.st q).drive = (s.lineDwells q b 0).1

/-- Station `i` holds no job, no sheet, no permit and no photometer, waits for neither, and has no request on the port. -/
def State.unencumbered (s : State) (i : StationId) : Prop :=
  s.attached i = none ∧ (s.st i).sheet = none ∧ (s.st i).stacked = none ∧ i ∉ s.permitHolders ∧ i ∉ s.permitQueue ∧
    (s.cal i).flight = none ∧ i ∉ s.photometerQueue ∧ ∀ r ∈ s.port.list, ofStation i r = false

/-- The station with its index frame decided on (R116, R127): its entry opened, the head and the film on their way to the
last grid position, with the sheet's window (R15). -/
def Station.indexPositioned (x : Station) (j : Job) (sh : Sheet) : Station :=
  { x with activity := .positioning .index, moveOut := true, filmY := j.layout.top j.frames,
           head := .at ((j.layout.left j.frames : Int) - 5 * (sh.offset : Int)),
           sheet := some { sh with openEntry := some {
             row := (j.layout.position j.frames).1, col := (j.layout.position j.frames).2, page := none, key := spaceKey,
             status := .ok, streak := decide (1 ≤ sh.dead), aged := false, held := false, saturated := 0, holds := 0 } } }

/-- The job's stop word is read at station `i` when a pass ends (R60): a job in SUPPLY_WAIT, or in ATTACHED at a station that
wakes, calibrates or waits in READY for the photometer, with no stop seen, no end waiting, no sheet, and no reading of its
outstanding already. -/
def State.passEndReads (s : State) (i : StationId) (j : Job) : Prop :=
  s.attached i = some j ∧ j.stopSeen = false ∧ j.ending = none ∧ (s.st i).sheet = none ∧ (s.st i).stacked = none ∧
    s.stopOutstanding i = false ∧
    (j.state = .supplyWait ∨ (j.state = .attached ∧ ((s.st i).state = .waking ∨ (s.st i).state = .calibrating ∨
      ((s.st i).state = .ready ∧ i ∈ s.photometerQueue))))

/-- No free station has a fitting job in the intake list: what a match leaves (R54, R55). -/
def State.matched (s : State) : Prop :=
  ∀ i j, s.free i = true → j ∈ s.jobs → j.state = .queued → j.ending = none → s.fitsJob i j = false

/-! ## Pages and counts (R67) -/

/-- How many of the entries carry a page. -/
def pagesOn (entries : List FrameEntry) : Nat := (entries.filter (·.page.isSome)).length

/-- The pages on job `j`'s sheets that its counts do not yet hold: on the sheet present or stacked at its station, the frame
in flight included, or on its lost sheet. -/
def State.pagesUncounted (s : State) (j : Job) : Nat :=
  let here := match j.station with
    | some i => (match (s.st i).sheet with | some sh => pagesOn (sh.map ++ sh.openEntry.toList) | none => 0) +
        (match (s.st i).stacked with | some sh => pagesOn sh.map | none => 0)
    | none => 0
  here + (match j.lostSheet with | some l => pagesOn (l.map ++ l.inFlight.toList) | none => 0)

/-- A frame is in flight during this activity: its entry is open (R123, R127). -/
def Activity.inFrame : Activity → Bool
  | .positioning (.title _) | .permitWait (.title _) | .line (.title _) _ => false
  | .positioning _ | .bandWait | .permitWait _ | .line _ _ | .returnMove | .lineHold _ => true
  | .idle | .boundaryReading | .quickWait | .entryRead | .rejecting | .swathMove _ => false

/-- At a frame boundary the station waits with this activity (R116). -/
def Activity.atBoundary : Activity → Bool
  | .boundaryReading | .quickWait | .entryRead | .rejecting => true
  | .idle | .positioning _ | .bandWait | .permitWait _ | .line _ _ | .swathMove _ | .returnMove | .lineHold _ => false

/-- A station's sheet, state and activity agree (R68, R80, R116, R123): a sheet is present in LOADING and in no state but the
five that have one, and never beside a stacked one; something is done with it in SHEET_OPEN and EXPOSING alone, and a
boundary is waited at in SHEET_OPEN; an entry is open during a frame alone. -/
def Station.coherent (x : Station) : Prop :=
  (x.sheet ≠ none → x.state = .loading ∨ x.state = .sheetOpen ∨ x.state = .exposing ∨ x.state = .closing ∨
    x.state = .calibrating) ∧
  (x.state = .loading → x.sheet ≠ none) ∧
  (x.activity ≠ .idle → x.sheet ≠ none ∧ (x.state = .sheetOpen ∨ x.state = .exposing)) ∧
  (x.activity.atBoundary = true → x.state = .sheetOpen) ∧
  (∀ sh, x.sheet = some sh → x.stacked = none ∧ (sh.openEntry ≠ none → x.activity.inFrame = true)) ∧
  ∀ sh, x.stacked = some sh → sh.openEntry = none

/-- Station `i` agrees with the blocks around it: a sheet present or stacked belongs to an attached job in SHEET_ACTIVE that
neither an end nor a return waits for (R58, R62); a station with a sheet has a valid table, a QUICK alone in flight (R143),
and is in the photometer queue only for a QUICK at a boundary (R116); a calibration is in flight in CALIBRATING alone; one
page entry read is outstanding, and only while the station waits for it with a page left to reach (R23, R116). -/
def State.stationAgrees (s : State) (i : StationId) : Prop :=
  let x := s.st i
  x.coherent ∧
  (x.sheet ≠ none ∨ x.stacked ≠ none →
    ∃ j, s.attached i = some j ∧ j.state = .sheetActive ∧ j.ending = none ∧ j.returnPending = false ∧
      j.lostSheet = none) ∧
  (x.sheet ≠ none → (s.cal i).valid = true ∧ (i ∈ s.photometerQueue → x.activity = .quickWait) ∧
    ∀ f, (s.cal i).flight = some f → f.kind = .quick) ∧
  ((s.cal i).flight ≠ none → x.state = .calibrating) ∧
  (s.port.list ++ s.port.arriving).countP (fun r => r.purpose == .pageEntry i) ≤ (if x.activity = .entryRead then 1 else 0) ∧
  (x.activity = .entryRead → ∀ j, s.attached i = some j → j.nextPage < j.pageCount)

/-- A job's counts account for every page it has reached, and for every page of it once it has ended (R67). -/
def State.jobAccounts (s : State) (j : Job) : Prop :=
  j.nextPage ≤ j.pageCount ∧
  (if j.state = .finishing then j.counts.total = j.pageCount ∧ j.ending = none
   else j.counts.total + s.pagesUncounted j = j.nextPage) ∧
  (j.state = .queued ∨ j.state = .finishing → j.station = none ∧ j.returnPending = false) ∧
  (j.lostSheet ≠ none → j.station = none ∧ (j.state = .finishing ∨ j.ending ≠ none))

/-- Every page reached is accounted for (R67): no two contexts share a slot or a station, every station agrees with the
blocks around it, every context's counts account for its pages, and each completion task on its way is of one context, in
FINISHING. -/
def State.pagesAccounted (s : State) : Prop :=
  (s.jobs.map (·.slotAddr)).Nodup ∧ (s.jobs.filterMap (·.station)).Nodup ∧
  (∀ i, s.stationAgrees i) ∧ (∀ j ∈ s.jobs, s.jobAccounts j) ∧
  ((s.tasks ++ s.waiters).filter Task.isCompletion).Nodup ∧
  ∀ a, Task.completion a ∈ s.tasks ++ s.waiters → ∃ j ∈ s.jobs, j.slotAddr = a ∧ j.state = .finishing

end Sys2Proof.Machine
end

