-- ==== Sys2Proof/Certificates/Slice0/Obligations.lean ====
section
/-! DEFINITION. The statements for the provers. Where a statement speaks of "the next state t", its other fields are those
it does not name: `t = { s with … }` is the frame. -/

open Sys2Proof Sys2Proof.Machine

/-! ## The step, reset and the invariants -/

/-- A step takes the command at the queue's front and runs it on the state with the queue's rest. On an empty queue it is, as
the model's choice (logs 7 and 8), a word transfer that ends: the request being served goes on with its next transfer, which
begins under the WAIT that stands (R166, R172), until its last, and that of a tone table image has placed two entries in the
staging table (R104), whose values the command that ends the read brings (log 12); a withdrawn request's transfer ends with
its data discarded, and the port goes on with its list, or its tenure ends when the grant is lost, PORT_EN is 0 or the list
is empty (R170, R171); with no transfer on the bus, or at a request's last, the block idles. -/
def Obligations.StepRunsTheFrontCommand : Prop :=
  (∀ (c : Instr) (rest : List Instr) (s : State), s.pending = c :: rest → step s = exec c { s with pending := rest }) ∧
  ∀ s : State, s.pending = [] →
    (s.port.master ≠ .tenure → step s = .next s) ∧
    (∀ r : Request, s.serving = some r →
      let words := if s.port.lockedWrite then 1 else (r.addr.toNat % 4 + r.len + 3) / 4
      (s.port.transfer + 1 < words → step s = .next { s with
        port := { s.port with transfer := s.port.transfer + 1, transferWait := s.ctrl.wait },
        staging := if r.purpose = .toneImage then s.staging ++ [none, none] else s.staging }) ∧
      (words ≤ s.port.transfer + 1 → step s = .next s)) ∧
    ∀ r : Request, s.settled → s.port.master = .tenure → s.port.discarding = some r →
      let p : Port := { s.port with discarding := none, grantLost := false, lockedWrite := false, transfer := 0 }
      (s.port.grantLost = false → s.ctrl.portEn = true → s.port.list ≠ [] → step s = .next { s with
        port := { p with transferWait := s.ctrl.wait } }) ∧
      (s.port.grantLost = false → s.ctrl.portEn = true → s.port.list = [] → step s = .next { s with
        port := { p with master := if s.ctrl.parkEn then .parked else .idle } }) ∧
      (s.port.grantLost = true ∨ s.ctrl.portEn = false → step s = .next { s with
        port := { p with master := if s.ctrl.portEn = true ∧ s.port.list ≠ [] then .requesting else .idle } })

/-- The register window right after power-on reset: IDENT reads 0x0F400003, STAT has all four parked-station bits set and
nothing else, the other registers read 0, and the interrupt line is deasserted (the register table; R168, R169). The blocks
behind the window right after power-on reset, as each block's table gives them: tone entry p is 4p, the serial counter 0,
the timing parameters 200, 4,000, 30 and 600; the staging table holds nothing (R104); every station PARKED, unpowered, with
stock 0, speed 1024 and supply 0, its table invalid and all its trims 0, its head factor 1024; every list empty. -/
def Obligations.ResetValues : Prop :=
  (State.reset.readRegister 0x00 = 0x0F400003 ∧ State.reset.readRegister 0x04 = 0 ∧
     State.reset.readRegister 0x08 = 0xF000 ∧ State.reset.readRegister 0x0C = 0 ∧ State.reset.readRegister 0x10 = 0 ∧
     State.reset.readRegister 0x14 = 0 ∧ State.reset.readRegister 0x18 = 0 ∧ State.reset.readRegister 0x1C = 0 ∧
     State.reset.irq = false) ∧
  ((∀ k p : Nat, k < 4 → p < 256 → toneEntry State.reset.tones k p = 4 * p) ∧ State.reset.staging = [] ∧
     State.reset.serial = 0 ∧
     State.reset.timing = { quickInterval := 200, fullInterval := 4000, dozeDelay := 30, trimHold := 600 } ∧
     (∀ i, (State.reset.st i).state = .parked ∧ (State.reset.st i).cause = .none ∧ (State.reset.st i).powered = false ∧
       (State.reset.st i).stock = 0 ∧ (State.reset.st i).speed = 1024 ∧ (State.reset.st i).supply = 0 ∧
       (State.reset.st i).sheet = none ∧ (State.reset.cal i).valid = false ∧ (State.reset.cal i).h = 1024 ∧
       (State.reset.cal i).trims = List.replicate 2048 0 ∧ (State.reset.cal i).statuses = List.replicate 2048 .ok) ∧
     State.reset.jobs = [] ∧ State.reset.held = [] ∧ State.reset.tasks = [] ∧ State.reset.pass = none ∧
     State.reset.port.list = [] ∧ State.reset.permitHolders = [] ∧ State.reset.permitQueue = [] ∧
     State.reset.photometer = none ∧ State.reset.photometerQueue = [] ∧ State.reset.pending = [])

/-- The five invariants hold right after power-on reset. -/
def Obligations.InvariantsHoldAtReset : Prop :=
  State.reset.rangesHold ∧ State.reset.settled ∧ State.reset.permitsHold ∧ State.reset.photometerHolds ∧
    State.reset.pagesAccounted

/-- Every step keeps the registers, the counts and the timing parameters in their ranges (R165, R169, R161). -/
def Obligations.StepKeepsRanges : Prop := ∀ s t : State, s.rangesHold → step s = .next t → t.rangesHold

/-- Every step leaves the port settled: every request made has joined the list, and the port has taken up what it may
(R170, R171). That includes the model's choice (log 6) that a port bidding for the bus, or granted it, with an empty list and
PARK_EN 0 has dropped its bid. -/
def Obligations.StepKeepsSettled : Prop := ∀ s t : State, s.settled → step s = .next t → t.settled

/-- Every step keeps the permit arbiter's rule: at most two stations hold a permit, none two, and every station in
EXPOSING holds one; a permit is free only while the waiting list is empty (R118). -/
def Obligations.StepKeepsPermits : Prop := ∀ s t : State, s.permitsHold → step s = .next t → t.permitsHold

/-- Every step keeps the photometer's rule: every station in CALIBRATING holds the one photometer, so at most one
calibrates, and the queue holds a station only while the photometer is held (R141). -/
def Obligations.StepKeepsPhotometer : Prop := ∀ s t : State, s.photometerHolds → step s = .next t → t.photometerHolds

/-- No command stops the block, as the model reads the manual (DEDUCED, log 26), and none, POWER_ON_RESET included, touches
the queue of the commands that wait, which is the model's own (DESIGN CHOICE, log 21). -/
def Obligations.EveryCommandCompletes : Prop :=
  ∀ (c : Instr) (s : State), ∃ t, exec c s = .next t ∧ t.pending = s.pending

/-! ## The register window (R165 to R169) -/

/-- POWER_ON_RESET puts every block in its power-on state. The command queue, and the model's count of free choices, are no
state of the FM4 and stay (log 21). -/
def Obligations.PowerOnResetState : Prop :=
  ∀ s : State, exec .powerOnReset s = .next { State.reset with pending := s.pending, choices := s.choices }

/-- SOFT_RESET (R167, R87, R170, R171): CTRL, the ATTN counts, PORT_ERR and LOST_DONE are cleared; the pass, the held-slot set,
the write list, every job context, the request list, the staging table, the permits and their list are abandoned; the board registers, SCANIVL,
the tone tables, the serial counter, the timing parameters and each station's stock, speed, supply, tables, head factor,
counters and marks are kept. With a word transfer on the bus the port keeps its tenure for that transfer alone, its request
withdrawn and its data to be discarded, and the tenure ends with it; with none the bus is released at once. A station with a
sheet is FAULTED with cause ABANDONED and counted by ALERT; a FAULTED or PARKED one stays; any other is READY (or has been
granted the photometer for a calibration its marks require) when its drive is powered and its table valid, and PARKED if
not. -/
def Obligations.SoftResetState : Prop :=
  ∀ s : State, ∃ t, exec .softReset s = .next t ∧
    t.ctrl = { portEn := false, scanEn := false, intEn := false, parkEn := false, wait := 0 } ∧ t.portErr = false ∧
    t.lostDone = false ∧ t.doneCount = 0 ∧
    t.alertCount = (allStations.filter (fun i => (s.st i).sheet.isSome)).length ∧
    t.pass = none ∧ t.passPending = false ∧ t.scanTimer = none ∧ t.held = [] ∧ t.tasks = [] ∧ t.waiters = [] ∧
    t.jobs = [] ∧ t.staging = [] ∧ t.permitHolders = [] ∧ t.permitQueue = [] ∧ t.port.list = [] ∧ t.serving = none ∧
    (s.port.master = .tenure → t.port.master = .tenure ∧ t.port.grantLost = true ∧
      t.port.discarding = s.port.discarding.or s.port.list.head? ∧ t.port.transfer = s.port.transfer ∧
      t.port.transferWait = s.port.transferWait) ∧
    (s.port.master ≠ .tenure → t.port.master = .idle ∧ t.port.discarding = none) ∧
    t.brdBase = s.brdBase ∧ t.brdSlots = s.brdSlots ∧ t.scanIvl = s.scanIvl ∧ t.tones = s.tones ∧
    t.serial = s.serial ∧ t.timing = s.timing ∧ t.pending = s.pending ∧
    ∀ i, { t.cal i with flight := none } = { s.cal i with flight := none } ∧ (t.st i).stock = (s.st i).stock ∧
      (t.st i).speed = (s.st i).speed ∧ (t.st i).supply = (s.st i).supply ∧ (t.st i).sheet = none ∧
      (if (s.st i).sheet.isSome then (t.st i).state = .faulted ∧ (t.st i).cause = .abandoned
       else if (s.st i).state = .faulted ∨ (s.st i).state = .parked then
        (t.st i).state = (s.st i).state ∧ (t.st i).cause = (s.st i).cause
       else if (s.st i).powered = true ∧ (s.cal i).valid = true then
        (t.st i).state = .ready ∨ ((t.st i).state = .calibrating ∧ (s.cal i).marked = true)
       else (t.st i).state = .parked ∧ (t.st i).powered = false)

/-- SCAN_EN, INT_EN and WAIT as a CTRL write gives them (R166, R36, R37, R169): a field written with its present value
causes no event; a 1 in SCAN_EN loads the scan timer when no pass is in progress and SCANIVL is not 0, a 0 stops it and
clears the pass-pending flag; INT_EN and WAIT change nothing else. PORT_EN and PARK_EN as a CTRL write gives them (R166,
R170, R171): a PORT_EN of 0 leaves a request being served to its end and otherwise releases the bus; a PORT_EN of 1 bids for
the bus when the list is not empty; a PARK_EN of 0 releases a parked port at once. (That a port bidding for the bus gives up
its bid at PORT_EN 0, or at PARK_EN 0 with nothing to serve, is the model's choice, log 6.) -/
def Obligations.CtrlWrites : Prop :=
  (∀ s : State, s.settled →
     exec (.scanEn true) s = .next { s with
       ctrl := { s.ctrl with scanEn := true },
       scanTimer := if s.ctrl.scanEn = false ∧ s.pass = none ∧ s.scanIvl ≠ 0 then some s.scanIvl else s.scanTimer } ∧
     exec (.scanEn false) s = .next { s with
       ctrl := { s.ctrl with scanEn := false },
       scanTimer := if s.ctrl.scanEn = true then none else s.scanTimer,
       passPending := if s.ctrl.scanEn = true then false else s.passPending } ∧
     (∀ v, exec (.intEn v) s = .next { s with ctrl := { s.ctrl with intEn := v } }) ∧
     ∀ v, exec (.wait v) s = .next { s with ctrl := { s.ctrl with wait := v } }) ∧
  (∀ s : State, s.settled →
     (s.ctrl.portEn = true → exec (.portEn false) s = .next { s with
       ctrl := { s.ctrl with portEn := false },
       port := if s.port.master = .tenure then s.port else { s.port with master := .idle } }) ∧
     (s.ctrl.portEn = false → s.port.master = .idle → exec (.portEn true) s = .next { s with
       ctrl := { s.ctrl with portEn := true },
       port := { s.port with master := if s.port.list = [] then .idle else .requesting } }) ∧
     (s.ctrl.portEn = false → s.port.master = .tenure → exec (.portEn true) s = .next { s with
       ctrl := { s.ctrl with portEn := true } }) ∧
     (s.ctrl.parkEn = false → exec (.parkEn true) s = .next { s with ctrl := { s.ctrl with parkEn := true } }) ∧
     (s.ctrl.parkEn = true → exec (.parkEn false) s = .next { s with
       ctrl := { s.ctrl with parkEn := false },
       port := if s.port.master = .parked ∨
           ((s.port.master = .requesting ∨ s.port.master = .granted) ∧ s.port.list = [])
         then { s.port with master := .idle } else s.port }) ∧
     exec (.portEn s.ctrl.portEn) s = .next s ∧ exec (.parkEn s.ctrl.parkEn) s = .next s)

/-- Register writes (R165): BRDBASE stores the written word with bits 5..0 cleared, BRDSLOTS clamps to 64, SCANIVL to 65,535
with its effect on the scan timer (R37); IDENT, STAT and ATTN ignore writes. A write changes the addressed bytes only. A
read of ATTN returns both counts as they stand and sets both to 0, which deasserts the interrupt line (R169). -/
def Obligations.RegisterWindowAccess : Prop :=
  ((∀ (s : State) (v : Word) (l : BitVec 4), s.settled →
     exec (.registerWrite .brdBase v l) s = .next { s with brdBase := mergeLanes s.brdBase v l &&& 0xFFFFFFC0#32 } ∧
     exec (.registerWrite .brdSlots v l) s = .next { s with
       brdSlots := min 64 (mergeLanes (BitVec.ofNat 32 s.brdSlots) v l).toNat } ∧
     exec (.registerWrite .ident v l) s = .next s ∧ exec (.registerWrite .stat v l) s = .next s ∧
     exec (.registerWrite .attn v l) s = .next s ∧
     exec (.scanivlWrite v l) s = .next { s with
       scanIvl := min 65535 (mergeLanes (BitVec.ofNat 32 s.scanIvl) v l).toNat,
       scanTimer :=
         if s.pass.isSome then s.scanTimer
         else if (mergeLanes (BitVec.ofNat 32 s.scanIvl) v l).toNat = 0 then none
         else if s.ctrl.scanEn = true then some (min 65535 (mergeLanes (BitVec.ofNat 32 s.scanIvl) v l).toNat)
         else s.scanTimer }) ∧
   ∀ (old v : Word) (l : BitVec 4) (k : Nat), k < 4 →
     (mergeLanes old v l).extractLsb' (8 * k) 8 =
       if l.getLsbD k then v.extractLsb' (8 * k) 8 else old.extractLsb' (8 * k) 8) ∧
  (∀ s : State, s.settled → ∃ t, exec .attnRead s = .next t ∧
     t = { s with readData := BitVec.ofNat 32 (s.doneCount + 65536 * s.alertCount), doneCount := 0, alertCount := 0 } ∧
     t.irq = false)

/-- LOOK and the scan timer's expiry (R36, R37, R38, R60): a LOOK with SCAN_EN 0 is ignored; during a pass it sets the
pass-pending flag; otherwise, as at the timer's expiry, a pass starts with BRDBASE and BRDSLOTS as they stand, the timer is
stopped and the read of slot 0's first 16 bytes joins the request list. With BRDSLOTS 0 the pass reads no slot and ends at
once: SCANNING reads 0, the timer is loaded when SCANIVL is not 0, and the stop words of the jobs that wait without a sheet
are read. -/
def Obligations.PassStarts : Prop :=
  ∀ s : State, s.settled →
    (s.ctrl.scanEn = false → exec .look s = .next s) ∧
    (s.ctrl.scanEn = true → s.pass ≠ none → exec .look s = .next { s with passPending := true }) ∧
    (s.ctrl.scanEn = true → s.pass = none → ∀ c : Instr, (c = .look ∨ (c = .scanTimerExpiry ∧ s.scanTimer ≠ none)) →
      (s.brdSlots ≠ 0 → exec c s = .next { s with
        scanTimer := none, passPending := false,
        port := s.portWith [readRequest .slotRead (slotAddress s.brdBase 0) 16],
        pass := some { base := s.brdBase, slots := s.brdSlots, phase := .slotRead 0, candidates := [],
                       current := none, place := false } }) ∧
      (s.brdSlots = 0 → ∃ t l, exec c s = .next t ∧ t = { s with
          scanTimer := if s.scanIvl = 0 then none else some s.scanIvl, passPending := false, port := t.port,
          choices := t.choices } ∧
        t.statWord.getLsbD 2 = false ∧ t.port.list = s.port.list ++ l ∧ l.Nodup ∧
        ∀ r, r ∈ l ↔ ∃ i j, s.passEndReads i j ∧ r = readRequest (.passEnd i) (addrPlus j.slotAddr 0x0C) 4))

/-! ## The board scanner (R33, R38 to R42) -/

/-- SLOT_READ_DONE in the read phase, a later slot to come (R38): a POSTED slot that is not held joins the candidate list
with the post number and ticket address read, any other value is passed over, and the next slot's first 16 bytes are
requested. SLOT_READ_DONE of the last slot (R38, R40): the candidate list is sorted by post number and slot index, and with
room in the intake list its first candidate takes a place there and is claimed; with the list full its kind code is read
first. With no candidate the pass ends (R36, R37, R43, R60): SCANNING reads 0, the scan timer is loaded when SCAN_EN is 1 and
SCANIVL is not 0, and the stop words of the jobs that wait without a sheet are read; with the pass-pending flag set and
SCAN_EN 1, a new pass starts at once instead, the flag cleared and no timer loaded. -/
def Obligations.SlotReadPhase : Prop :=
  (∀ (s : State) (p : Pass) (n : Nat) (data : List Byte), s.serves .slotRead 16 → data.length = 16 → s.pass = some p →
     p.phase = .slotRead n → n + 1 < p.slots → s.isHeld (slotAddress p.base n) = false →
     exec (.slotReadDone data) s = .next { s with
       port := s.portAfter [readRequest .slotRead (slotAddress p.base (n + 1)) 16],
       pass := some { p with
         phase := .slotRead (n + 1),
         candidates := if slotState data = 1 then
             p.candidates ++ [{ slot := n, addr := slotAddress p.base n, post := slotPost data, ticket := slotTicket data }]
           else p.candidates } }) ∧
  (∀ (s : State) (p : Pass) (n : Nat) (data : List Byte), s.serves .slotRead 16 → data.length = 16 → s.pass = some p →
     p.phase = .slotRead n → p.slots ≤ n + 1 → s.unreachedHeld p = [] → s.isHeld (slotAddress p.base n) = false →
     slotState data ≠ 1 →
     (∀ (c : Candidate) (rest : List Candidate), sortCandidates p.candidates = c :: rest →
       exec (.slotReadDone data) s = .next { s with
         port := s.portAfter [if s.intakeCount < 8 then claimRequest c else readRequest .kindPeek c.ticket 16],
         pass := some { p with
           candidates := rest, current := some c, place := decide (s.intakeCount < 8),
           phase := if s.intakeCount < 8 then .claim else .kindPeek } }) ∧
     (p.candidates = [] → s.brdSlots ≠ 0 → ∃ t l, exec (.slotReadDone data) s = .next t ∧
       t.port.list = s.port.list.tail ++ l ∧ l.Nodup ∧
       (¬(s.passPending = true ∧ s.ctrl.scanEn = true) → t = { s with
           pass := none, passPending := false, port := t.port, choices := t.choices,
           scanTimer := if s.ctrl.scanEn = true ∧ s.scanIvl ≠ 0 then some s.scanIvl else s.scanTimer } ∧
         t.statWord.getLsbD 2 = false ∧
         ∀ r, r ∈ l ↔ ∃ i j, s.passEndReads i j ∧ r = readRequest (.passEnd i) (addrPlus j.slotAddr 0x0C) 4) ∧
       (s.passPending = true ∧ s.ctrl.scanEn = true → t = { s with
           pass := some { base := s.brdBase, slots := s.brdSlots, phase := .slotRead 0, candidates := [], current := none,
                          place := false },
           passPending := false, port := t.port, choices := t.choices, scanTimer := none } ∧
         ∀ r, r ∈ l ↔ r = readRequest .slotRead (slotAddress s.brdBase 0) 16 ∨
           ∃ i j, s.passEndReads i j ∧ r = readRequest (.passEnd i) (addrPlus j.slotAddr 0x0C) 4))) ∧
  ∀ l : List Candidate, (sortCandidates l).Perm l ∧
    (sortCandidates l).Pairwise (fun a b => a.post < b.post ∨ (a.post = b.post ∧ a.slot ≤ b.slot))

/-- SLOT_READ_DONE of a held slot whose job waits in the intake list (R39, R65): a stop word other than 0 ends the job
STOPPED, with its completion task on the write list; a stop word of 0 leaves the jobs as they are. The slot is no candidate,
and the read phase goes on. -/
def Obligations.HeldStopEndsTheJob : Prop :=
  ∀ (s : State) (p : Pass) (n : Nat) (data : List Byte) (j : Job), s.serves .slotRead 16 → data.length = 16 →
    s.pass = some p → p.phase = .slotRead n → n + 1 < p.slots → s.isHeld (slotAddress p.base n) = true →
    s.job (slotAddress p.base n) = some j → j.state = .queued → j.station = none → j.ending = none → s.listRoom 1 →
    let ended := s.jobsWith j.slotAddr (fun k => Job.finished { k with stopSeen := true } .stopped)
    (field data 0x0C 4 ≠ 0 → ({ s with jobs := ended } : State).atRest) →
    ∃ t, exec (.slotReadDone data) s = .next t ∧ t.pass = some { p with phase := .slotRead (n + 1) } ∧
      t = { s with port := t.port, pass := t.pass, jobs := t.jobs, tasks := t.tasks, plan := t.plan,
                   choices := t.choices } ∧
      (if field data 0x0C 4 ≠ 0 then t.jobs = ended ∧ t.tasks = s.tasks ++ [.completion j.slotAddr]
      else t.jobs = s.jobs ∧ t.tasks = s.tasks)

/-- KIND_PEEK_DONE (R40): a kind code other than the fiche kind has the candidate claimed, without a place in the intake
list; the fiche kind leaves its slot POSTED, and with the list still full the next candidate's kind code is read. -/
def Obligations.KindPeekDecides : Prop :=
  ∀ (s : State) (p : Pass) (c : Candidate) (data : List Byte), s.serves .kindPeek 16 → data.length = 16 →
    s.pass = some p → p.current = some c → p.place = false →
    (field data 0 2 ≠ 1 → exec (.kindPeekDone data) s = .next { s with
      port := s.portAfter [claimRequest c], pass := some { p with phase := .claim } }) ∧
    ∀ (d : Candidate) (rest : List Candidate), field data 0 2 = 1 → p.candidates = d :: rest → 8 ≤ s.intakeCount →
      exec (.kindPeekDone data) s = .next { s with
        port := s.portAfter [readRequest .kindPeek d.ticket 16],
        pass := some { p with candidates := rest, current := some d, place := false, phase := .kindPeek } }

/-- CLAIM_READ_DONE (R41, R173): POSTED is followed by the write of TAKEN under the lock, within the same request, and the
post number and ticket address of this read replace those of the read phase; any other value skips the slot, which is not
held, and the next candidate has its turn. CLAIM_WRITE_DONE (R33, R41, R42): the write of TAKEN has ended without error, so
the slot joins the held-slot set, and the first 16 bytes of its ticket are read. -/
def Obligations.ClaimSequence : Prop :=
  (∀ (s : State) (p : Pass) (c : Candidate) (data : List Byte), s.serves .claim 16 → data.length = 16 →
     s.port.lockedWrite = false → s.pass = some p → p.current = some c →
     (slotState data = 1 → exec (.claimReadDone data) s = .next { s with
       port := { s.port with lockedWrite := true, transfer := 0, transferWait := s.ctrl.wait },
       pass := some { p with current := some { c with post := slotPost data, ticket := slotTicket data } } }) ∧
     ∀ (d : Candidate) (rest : List Candidate), slotState data ≠ 1 → s.calm → p.candidates = d :: rest →
       s.intakeCount < 8 → exec (.claimReadDone data) s = .next { s with
         port := s.portAfter [claimRequest d],
         pass := some { p with candidates := rest, current := some d, place := true, phase := .claim } }) ∧
  (∀ (s : State) (p : Pass) (c : Candidate), s.serves .claim 16 → s.port.lockedWrite = true → s.pass = some p →
     p.current = some c → exec .claimWriteDone s = .next { s with
       port := s.portAfter [readRequest .ticketHead c.ticket 16],
       held := s.held ++ [{ slot := c.slot, addr := c.addr }],
       pass := some { p with phase := .ticketHead } })

/-- TICKET_HEAD_READ_DONE (R20, R40, R42): a fiche ticket's remaining 192 bytes, or a service ticket's 16, are read; a kind
code outside 0x0001 and 0x0010 to 0x001A, and a fiche kind claimed past a full intake list, end the ticket REFUSED_TICKET
with reason KIND. -/
def Obligations.TicketHeadDecides : Prop :=
  ∀ (s : State) (p : Pass) (c : Candidate) (data : List Byte), s.serves .ticketHead 16 → data.length = 16 →
    s.pass = some p → p.current = some c → s.calm →
    (field data 0 2 = 1 → p.place = true → exec (.ticketHeadReadDone data) s = .next { s with
      port := s.portAfter [readRequest .ticketRest (addrPlus c.ticket 16) 192],
      pass := some { p with phase := .ticketRest data } }) ∧
    (0x10 ≤ field data 0 2 → field data 0 2 ≤ 0x1A → exec (.ticketHeadReadDone data) s = .next { s with
      port := s.portAfter [readRequest .ticketRest (addrPlus c.ticket 16) 16],
      pass := some { p with phase := .ticketRest data } }) ∧
    ((field data 0 2 = 1 ∧ p.place = false) ∨ (field data 0 2 ≠ 1 ∧ (field data 0 2 < 0x10 ∨ 0x1A < field data 0 2)) →
      ∃ t, exec (.ticketHeadReadDone data) s = .next t ∧ s.ticketEnds t c .refusedTicket .kind 0)

/-- TICKET_REST_READ_DONE of a fiche ticket (R42, R51, R53 to R57): one that fails a check ends REFUSED_TICKET with the first
failing check's reason (AcceptedLayoutsFit says which). One that passes becomes a job context at its place in the order of
the jobs. With its stock carried nowhere it ends NO_STOCK at once. With no free station that it fits it waits in the intake
list. Otherwise it is attached to the lowest free station it fits, its last station set: a DOZING station begins its wake, a
CALIBRATING one goes on, a READY one runs the first load decision, reading the stop word, or, in the photometer queue, waits.
After it no free station has a fitting job in the list. TICKET_REST_READ_DONE of a service ticket (R30, R34, R42): one that
fails its check ends REFUSED_TICKET; a TONE_LOAD has its image read, by one request of 512 bytes (the model's choice, log
12); any other stands ready to execute (the model's way of running it, log 4). -/
def Obligations.TicketRestDecides : Prop :=
  (∀ (s : State) (p : Pass) (c : Candidate) (head data : List Byte), s.serves .ticketRest 192 → data.length = 192 →
     s.pass = some p → p.phase = .ticketRest head → p.current = some c → field head 0 2 = 1 → s.calm → s.job c.addr = none →
     let job := makeJob c (head ++ data)
     (ficheCheck (head ++ data) ≠ .none → ∃ t, exec (.ticketRestReadDone data) s = .next t ∧
       s.ticketEnds t c .refusedTicket (ficheCheck (head ++ data)) 0) ∧
     (ficheCheck (head ++ data) = .none →
       (s.stockCarried job = false → s.listRoom 1 → ∃ t, exec (.ticketRestReadDone data) s = .next t ∧
         t.jobs = insertJob (job.finished .noStock) s.jobs ∧ ({ s with jobs := t.jobs } : State).onlyScanner t ∧
         t.tasks = s.tasks ++ [.completion c.addr] ∧ t.waiters = [] ∧ t.matched) ∧
       (s.stockCarried job = true → (∀ i, s.free i = true → s.fitsJob i job = false) →
         ∃ t, exec (.ticketRestReadDone data) s = .next t ∧ t.jobs = insertJob job s.jobs ∧
           ({ s with jobs := t.jobs } : State).onlyScanner t ∧ t.tasks = s.tasks ∧ t.matched) ∧
       ∀ i, s.free i = true → s.fitsJob i job = true → s.stopOutstanding i = false →
         (∀ k, stationNat k < stationNat i → s.free k = true → s.fitsJob k job = false) →
         let x := s.st i
         let waits := x.state = .calibrating ∨ (x.state = .ready ∧ x.stacked = none ∧ (s.cal i).marked = true ∧
           i ∈ s.photometerQueue)
         let decides := x.state = .ready ∧ x.stacked = none ∧ s.mayDecide i = true
         x.state = .dozing ∨ waits ∨ decides → ∃ t, exec (.ticketRestReadDone data) s = .next t ∧
           t.jobs = insertJob { job with station := some i, lastStation := some i, state := .attached } s.jobs ∧
           ({ s with jobs := t.jobs, stations := t.stations } : State).onlyScanner t ∧ t.tasks = s.tasks ∧ t.matched ∧
           (∀ k, k ≠ i → t.st k = s.st k) ∧
           (x.state = .dozing → t.st i = { x with state := .waking, dozeTimer := none, holdTimer := none,
                                                  wakeFromParked := false, wakeTimer := some 50 }) ∧
           (waits → t.st i = { x with dozeTimer := none }) ∧
           (decides → t.st i = { x with dozeTimer := none } ∧
             readRequest (.decision i) (addrPlus c.addr 0x0C) 4 ∈ t.port.list))) ∧
  (∀ (s : State) (p : Pass) (c : Candidate) (k : ServiceKind) (head data : List Byte), s.serves .ticketRest 16 →
     data.length = 16 → s.pass = some p → p.phase = .ticketRest head → p.current = some c →
     serviceKindOf (field head 0 2) = some k → s.calm →
     (k ≠ .toneLoad → (k = .calRequest → field (head ++ data) 3 1 = 1 ∨ field (head ++ data) 3 1 = 2) →
       exec (.ticketRestReadDone data) s = .next { s with
         port := s.portAfter [], pass := some { p with phase := .service (readService k (head ++ data)) } }) ∧
     (k = .toneLoad → field (head ++ data) 3 1 ≤ 3 → exec (.ticketRestReadDone data) s = .next { s with
       port := s.portAfter [readRequest .toneImage (wordField (head ++ data) 4 &&& ~~~3#32) 512],
       pass := some { p with phase := .toneImage (readService k (head ++ data)) } }) ∧
     (k = .toneLoad → 3 < field (head ++ data) 3 1 → ∃ t, exec (.ticketRestReadDone data) s = .next t ∧
       s.ticketEnds t c .refusedTicket .toneIndex 0) ∧
     (k = .calRequest → field (head ++ data) 3 1 ≠ 1 → field (head ++ data) 3 1 ≠ 2 →
       ∃ t, exec (.ticketRestReadDone data) s = .next t ∧ s.ticketEnds t c .refusedTicket .kind 0))

/-! ## The services (R152 to R164)

A service command executes the service that stands ready in the claim phase (`State.atService`); each statement says what it
changes, and that its ticket's completion task then joins the write list. -/

/-- TONE_LOAD (R104, R154): at the end of the image's read the table the selector names is replaced whole, its entries
clamped to 1023, and the ticket ends DONE_OK, or DONE_CLAMPED when an entry was clamped; while a station exposes with the
table it ends REFUSED_STATE, with no table changed. In both cases the staging table holds nothing after. -/
def Obligations.ToneLoadReplaces : Prop :=
  ∀ (s : State) (p : Pass) (c : Candidate) (v : Service) (data : List Byte), s.serves .toneImage 512 → data.length = 512 →
    s.pass = some p → p.phase = .toneImage v → p.current = some c → s.calm →
    ((∀ i, (s.st i).state = .exposing → ∀ j, s.attached i = some j → j.expo.tone ≠ v.selector) →
      ∃ t, exec (.toneLoad data) s = .next t ∧
        ({ s with
            tones := s.tones.set v.selector ((List.range 256).map (fun p => min 1023 (field data (2 * p) 2))),
            staging := [] } : State).ticketEnds t c
            (if (List.range 256).any (fun p => decide (1023 < field data (2 * p) 2)) then .doneClamped else .doneOk) .none 0) ∧
    ((∃ i j, (s.st i).state = .exposing ∧ s.attached i = some j ∧ j.expo.tone = v.selector) →
      ∃ t, exec (.toneLoad data) s = .next t ∧
        ({ s with staging := [] } : State).ticketEnds t c .refusedState .none 0)

/-- STOCK_SET and SUPPLY_SET at a station with no sheet and no job in SUPPLY_WAIT (R155, R156): the stock ID is p1's low 16
bits, the film speed and the supply are clamped, and the ticket ends DONE_CLAMPED when either was clamped. A STOCK_SET that
leaves a job of the intake list without its stock anywhere ends it NO_STOCK, before its own ticket (R57, R155). SUPPLY_SET at
a station whose job is in SUPPLY_WAIT (R58, R156): once the count is written, the job's load decision is begun with the
reading of its stop word, when the station can run it; a station that cannot moves the job to ATTACHED; a return of the job
that is pending stays pending, which is the model's choice (log 30). A SUPPLY_SET that
frees a DOZING station has it take the oldest job of the intake list that fits it, and begin its wake (R54, R55, R56, R156). -/
def Obligations.StockAndSupplySet : Prop :=
  (∀ (s : State) (p : Pass) (c : Candidate) (v : Service), s.settled → s.atService p c v →
     (s.st v.station).stockLegal = true → (∀ j, s.attached v.station = some j → j.state ≠ .supplyWait) →
     (s.jobs.map (·.slotAddr)).Nodup →
     (v.kind = .stockSet →
       let m := s.updSt v.station (fun x => { x with
         stock := v.p1.toNat % 65536, speed := max 256 (min 4096 v.p2.toNat), supply := min 65535 v.p3.toNat })
       let outcome : TicketOutcome :=
         if 256 ≤ v.p2.toNat ∧ v.p2.toNat ≤ 4096 ∧ v.p3.toNat ≤ 65535 then .doneOk else .doneClamped
       (m.calm → (∀ k ∈ s.jobs, k.state = .queued → k.ending = none → m.stockCarried k = true) →
         ∃ t, exec .stockSet s = .next t ∧ m.ticketEnds t c outcome .none 0) ∧
       ∀ j ∈ s.jobs, j.state = .queued → j.ending = none → j.station = none → m.stockCarried j = false → s.listRoom 2 →
         (∀ k ∈ s.jobs, k.slotAddr ≠ j.slotAddr → k.state = .queued → k.ending = none → m.stockCarried k = true) →
         ({ m with jobs := s.jobsWith j.slotAddr (·.finished .noStock) } : State).calm → ∃ t, exec .stockSet s = .next t ∧
           t.jobs = s.jobsWith j.slotAddr (·.finished .noStock) ∧ ({ m with jobs := t.jobs } : State).onlyScanner t ∧
           t.tasks = s.tasks ++ [.completion j.slotAddr, .ticket c.addr outcome .none 0] ∧ t.waiters = []) ∧
     (v.kind = .supplySet →
       let m := s.updSt v.station (fun x => { x with supply := min 65535 v.p1.toNat })
       m.calm → ∃ t, exec .supplySet s = .next t ∧
         m.ticketEnds t c (if v.p1.toNat ≤ 65535 then .doneOk else .doneClamped) .none 0)) ∧
  (∀ (s : State) (p : Pass) (c : Candidate) (v : Service) (j : Job), s.settled → s.atService p c v →
     v.kind = .supplySet → (s.st v.station).stockLegal = true → s.attached v.station = some j → j.state = .supplyWait →
     j.ending = none → j.stopSeen = false → s.stopOutstanding v.station = false → (s.jobs.map (·.slotAddr)).Nodup →
     let m := s.updSt v.station (fun x => { x with supply := min 65535 v.p1.toNat })
     m.calm → ∃ t, exec .supplySet s = .next t ∧
       s.taskAdded t (.ticket c.addr (if v.p1.toNat ≤ 65535 then .doneOk else .doneClamped) .none 0) ∧
       ({ m with jobs := t.jobs } : State).onlyScanner t ∧
       (if s.mayDecide v.station then
         t.jobs = s.jobs ∧ readRequest (.decision v.station) (addrPlus j.slotAddr 0x0C) 4 ∈ t.port.list
       else t.jobs = s.jobsWith j.slotAddr (fun k => { k with state := .attached }))) ∧
  (∀ (s : State) (p : Pass) (c : Candidate) (v : Service) (j : Job) (l l' : List Job), s.settled → s.calm →
     s.atService p c v → v.kind = .supplySet → (s.st v.station).state = .dozing → (s.st v.station).sheet = none →
     s.attached v.station = none → 1 ≤ v.p1.toNat → s.jobs = l ++ j :: l' → j.state = .queued → j.ending = none →
     (∀ k ∈ s.jobs, k.returnPending = false) → (s.jobs.map (·.slotAddr)).Nodup →
     s.fitsJob v.station j = true →
     (∀ k ∈ l, k.state = .queued → k.ending = none → s.fitsJob v.station k = false) →
     ∃ t, exec .supplySet s = .next t ∧
       s.taskAdded t (.ticket c.addr (if v.p1.toNat ≤ 65535 then .doneOk else .doneClamped) .none 0) ∧
       t.jobs = l ++ { j with station := some v.station, lastStation := some v.station, state := .attached } :: l' ∧
       ({ s.updSt v.station (fun x => { x with
           supply := min 65535 v.p1.toNat, state := .waking, dozeTimer := none, holdTimer := none, wakeFromParked := false,
           wakeTimer := some 50 }) with jobs := t.jobs } : State).onlyScanner t ∧ t.matched)

/-- CAL_REQUEST in a state other than FAULTED (R140, R157): QUICK due for selector 1, FULL due for 2, and a frame in flight
flagged AGED; in DOZING a wake of 50 ms begins; in READY with no sheet the doze timer stops and the station asks for the
photometer, which it is granted when it is free and waits for when it is not. -/
def Obligations.CalRequestMarks : Prop :=
  ∀ (s m : State) (p : Pass) (c : Candidate) (v : Service), s.settled → s.calm → s.atService p c v →
    v.kind = .calRequest → (v.selector = 1 ∨ v.selector = 2) →
    m = (s.updCal v.station (fun u => if v.selector = 1 then { u with quickDue := true } else { u with fullDue := true })).updEntry
      v.station (fun e => { e with aged := true }) →
    ((s.st v.station).state ≠ .faulted → (s.st v.station).state ≠ .ready → (s.st v.station).state ≠ .dozing →
      ∃ t, exec .calRequest s = .next t ∧ m.ticketEnds t c .doneOk .none 0) ∧
    ((s.st v.station).state = .dozing → ∃ t, exec .calRequest s = .next t ∧
      (m.updSt v.station (fun x => { x with
        state := .waking, dozeTimer := none, holdTimer := none, wakeFromParked := false,
        wakeTimer := some 50 })).ticketEnds t c .doneOk .none 0) ∧
    ((s.st v.station).state = .ready → (s.st v.station).stacked = none → v.station ∉ s.photometerQueue →
      s.photometer ≠ some v.station →
      ∃ t, exec .calRequest s = .next t ∧
      ((s.photometer ≠ none → (({ m with photometerQueue := m.photometerQueue ++ [v.station] } : State).updSt v.station
          (fun x => { x with dozeTimer := none })).ticketEnds t c .doneOk .none 0) ∧
       (s.photometer = none → ({ s with photometer := some v.station, stations := t.stations, cals := t.cals } :
            State).onlyScanner t ∧ (∀ k, k ≠ v.station → t.st k = s.st k ∧ t.cal k = s.cal k) ∧
          (t.st v.station).state = .calibrating ∧ (t.st v.station).dozeTimer = none ∧
          (t.st v.station).head = .photometer ∧ (t.st v.station).moveOut = true ∧
          s.taskAdded t (.ticket c.addr .doneOk .none 0) ∧
          { t.cal v.station with flight := (s.cal v.station).flight } = m.cal v.station ∧
          (t.cal v.station).flight.map (·.kind) = some (if (s.cal v.station).valid = false ∨
            ((s.st v.station).sheet = none ∧ (v.selector = 2 ∨ (s.cal v.station).fullDue = true)) then .full else .quick))))

/-- STATION_PARK and STATION_WAKE where they are taken (R74, R158, R159, R70): a parked station's timers stop, its drive is
unpowered, its table invalid and its place in the photometer queue withdrawn, a FAULTED one staying FAULTED; a wake begins
with 500 ms from PARKED and 50 ms from DOZING, and in WAKING and READY the service changes nothing. -/
def Obligations.StationParkAndWake : Prop :=
  ∀ (s : State) (p : Pass) (c : Candidate) (v : Service), s.settled → s.calm → s.atService p c v →
    (v.kind = .stationPark → (s.st v.station).state = .dozing ∨ (((s.st v.station).state = .ready ∨
        (s.st v.station).state = .faulted) ∧ s.attached v.station = none) → ∃ t, exec .stationPark s = .next t ∧
      ((({ s with photometerQueue := s.photometerQueue.filter (· != v.station) } : State).updCal v.station
        (fun u => { u with valid := false })).updSt v.station (fun x => { x with
          state := if x.state = .faulted then .faulted else .parked, powered := false, dozeTimer := none, holdTimer := none,
          wakeTimer := none, loadTimer := none, settleTimer := none })).ticketEnds t c .doneOk .none 0) ∧
    (v.kind = .stationWake → ((s.st v.station).state = .parked ∨ (s.st v.station).state = .dozing) →
      ∃ t, exec .stationWake s = .next t ∧
        (s.updSt v.station (fun x => { x with
          state := .waking, dozeTimer := none, holdTimer := none,
          wakeFromParked := decide ((s.st v.station).state = .parked),
          wakeTimer := some (if (s.st v.station).state = .parked then 500 else 50) })).ticketEnds t c .doneOk .none 0) ∧
    (v.kind = .stationWake → ((s.st v.station).state = .waking ∨ (s.st v.station).state = .ready) →
      ∃ t, exec .stationWake s = .next t ∧ s.ticketEnds t c .doneOk .none 0)

/-- STATION_RESET of a station with nothing in flight (R86, R160): placed in READY when its drive is powered and its table
valid, and in PARKED if not, its drive then unpowered and its table invalid (log 19 for one left PARKED); the cause is
cleared and the timers stop. In READY with no mark it loads its doze timer; with one it asks for the photometer, granted or
queued (R75, R141). With a job attached and no sheet (R64, R86): the job returns to the intake list when that has room; with
none its return stays pending at a station left PARKED, and one left READY takes its job back, in ATTACHED as the model
chooses (log 20), and offers a load. With a sheet present (R83, R86, R160): the sheet is lost, its job ends SHEET_LOST with the
loss handed to it, and the job's completion task joins the write list before the reset's own, or, while the dispatcher waits,
both wait in that order (how a job stands while its end waits is the model's choice, log 14). A permit the station held goes
to the station at the head of the waiting list, which begins its area (R118). No request the station had stays on the list; of
one in service the transfer on the bus is still to end (R170). -/
def Obligations.StationResetActs : Prop :=
  (∀ (s : State) (p : Pass) (c : Candidate) (v : Service), s.settled → s.atService p c v → v.kind = .stationReset →
     s.unencumbered v.station →
     let parked := (s.updCal v.station (fun u => { u with valid := false })).updSt v.station
       (fun x => { x.cleared.timersStopped with state := .parked, cause := .none, powered := false })
     let ready := s.updSt v.station (fun x => { x.cleared.timersStopped with
       state := .ready, cause := .none,
       dozeTimer := if (s.cal v.station).marked = true ∨ s.timing.dozeDelay = 0 then none else some s.timing.dozeDelay })
     let queued : State := { ready with photometerQueue := s.photometerQueue ++ [v.station] }
     let granted := (({ ready with photometer := some v.station } : State).updSt v.station (fun x => { x with
       state := .calibrating, head := .photometer, moveOut := true })).updCal v.station (fun u => { u with flight := some {
         kind := if u.fullDue then .full else .quick, phase := .moving, answersQuickRequired := u.quickRequired,
         answersQuickDue := u.quickDue, answersFullDue := u.fullDue } })
     let ends (m : State) : Prop := m.calm → ∃ t, exec .stationReset s = .next t ∧ m.ticketEnds t c .doneOk .none 0
     ((s.st v.station).powered = false ∨ (s.cal v.station).valid = false → ends parked) ∧
     ((s.st v.station).powered = true → (s.cal v.station).marked = false → ends ready) ∧
     ((s.st v.station).powered = true → (s.cal v.station).valid = true → (s.cal v.station).marked = true →
       (s.photometer ≠ none → s.photometer ≠ some v.station → ends queued) ∧ (s.photometer = none → ends granted))) ∧
  (∀ (s : State) (p : Pass) (c : Candidate) (v : Service) (j : Job), s.settled → s.atService p c v →
     v.kind = .stationReset → s.attached v.station = some j → j.ending = none → (s.st v.station).sheet = none →
     (s.st v.station).stacked = none → .ending j.slotAddr ∉ s.endQueue →
     (∀ k ∈ s.jobs, k.station = some v.station ∨ k.slotAddr = j.slotAddr → k = j) →
     v.station ∉ s.permitHolders → v.station ∉ s.permitQueue → (s.cal v.station).flight = none →
     v.station ∉ s.photometerQueue →
     let parked := (s.updCal v.station (fun u => { u with valid := false })).updSt v.station
       (fun x => { x.cleared.timersStopped with state := .parked, cause := .none, powered := false })
     let ready (doze : Option Nat) := s.updSt v.station
       (fun x => { x.cleared.timersStopped with state := .ready, cause := .none, dozeTimer := doze })
     let withJob (m : State) (f : Job → Job) : State := { m with jobs := s.jobsWith j.slotAddr f }
     let ends (m : State) (t : State) : Prop := exec .stationReset s = .next t ∧ m.ticketEnds t c .doneOk .none 0 ∧
       ∀ r ∈ t.port.list, r.purpose = .decision v.station ∨ r.purpose = .passEnd v.station ∨
         ofStation v.station r = false
     let returned (k : Job) : Job := { k with station := none, returnPending := false, state := .queued }
     let unpowered := (s.st v.station).powered = false ∨ (s.cal v.station).valid = false
     let unmarked := (s.st v.station).powered = true ∧ (s.cal v.station).marked = false
     let doze := if s.timing.dozeDelay = 0 then none else some s.timing.dozeDelay
     (s.roomForReturn = true → s.stockCarried j = true →
       (unpowered → (withJob parked returned).calm → ∃ t, ends (withJob parked returned) t) ∧
       (unmarked → (withJob (ready doze) returned).calm → ∃ t, ends (withJob (ready doze) returned) t)) ∧
     (s.roomForReturn = false →
       (unpowered → 8 ≤ s.intakeCount → s.calm →
         ∃ t, ends (withJob parked (fun k => { k with returnPending := true })) t) ∧
       (unmarked → s.calm → j.stopSeen = false → ∃ t,
         ends (withJob (ready none) (fun k => { k with returnPending := false, state := .attached })) t ∧
         readRequest (.decision v.station) (addrPlus j.slotAddr 0x0C) 4 ∈ t.port.list))) ∧
  (∀ (s : State) (p : Pass) (c : Candidate) (v : Service) (j : Job) (sh : Sheet), s.settled → s.atService p c v →
     v.kind = .stationReset → s.attached v.station = some j → (s.st v.station).sheet = some sh →
     (s.st v.station).stacked = none → (∀ k ∈ s.jobs, k.station = some v.station → k.slotAddr = j.slotAddr) →
     (s.cal v.station).flight = none → s.permitQueue = [] → (s.cal v.station).marked = false →
     let lost (k : Job) : Job := k.loseSheet sh
     let placed := s.updSt v.station (fun x => { x.cleared with state := if x.powered then .ready else .parked })
     let common (t : State) : Prop := exec .stationReset s = .next t ∧ (t.st v.station).sheet = none ∧
       (t.st v.station).state = (if (s.st v.station).powered then .ready else .parked) ∧
       t.permitHolders = s.permitHolders.filter (· != v.station) ∧
       (∀ r ∈ t.port.list, ofStation v.station r = false) ∧ ∀ k, k ≠ v.station → t.st k = s.st k
     (s.listRoom 2 →
       ({ placed with jobs := s.jobsWith j.slotAddr (fun k => (lost k).finished .sheetLost) } : State).calm →
       ∃ t, common t ∧ t.jobs = s.jobsWith j.slotAddr (fun k => (lost k).finished .sheetLost) ∧
         t.tasks = s.tasks ++ [.completion j.slotAddr, .ticket c.addr .doneOk .none 0] ∧ t.waiters = []) ∧
     (s.dispatcherWaits = true → s.endQueue = [] →
       let waiting : State := { placed with
         jobs := s.jobsWith j.slotAddr (fun k => { lost k with ending := some .sheetLost }),
         endQueue := [.ending j.slotAddr] }
       waiting.calm → ∃ t, common t ∧ t.jobs = waiting.jobs ∧ t.tasks = s.tasks ∧ t.waiters = s.waiters ∧
         t.endQueue = [.ending j.slotAddr, .ticket .doneOk .none 0] ∧
         t.pass = some { p with phase := .taskWait, place := false })) ∧
  ∀ (s : State) (p : Pass) (c : Candidate) (v : Service) (q : StationId) (b : Area) (rest : List StationId),
    s.settled → s.atService p c v → v.kind = .stationReset → (s.cal v.station).flight = none →
    s.permitAwaited v.station q b rest →
    ∃ t, exec .stationReset s = .next t ∧ s.permitPasses t v.station q b rest

/-- TIMING_SET and SERIAL_SET (R161, R162): the four parameters are replaced, each clamped, and every station's counters
compared with the new intervals. Each mark so set acts as CAL_REQUEST's does (R157): the frame in flight is flagged AGED; a DOZING
station begins its wake of 50 ms; one in READY with no sheet stops its doze timer and asks for the photometer, which it is
granted when it is free and waits for when it is not (of several that ask at once, in an order left free, log 3). A station
with no mark made due by it has its doze timer stopped by a doze_delay of 0, and by any other loaded if it is idle and runs
none. The serial counter takes all 32 bits of p1. -/
def Obligations.TimingAndSerialSet : Prop :=
  ∀ (s : State) (p : Pass) (c : Candidate) (v : Service), s.settled → s.calm → s.atService p c v →
    (v.kind = .serialSet → ∃ t, exec .serialSet s = .next t ∧
      ({ s with serial := v.p1 } : State).ticketEnds t c .doneOk .none 0) ∧
    (v.kind = .timingSet → ∃ t, exec .timingSet s = .next t ∧
      t.timing = { quickInterval := max 10 (min 2000 v.p1.toNat), fullInterval := max 500 (min 60000 v.p2.toNat),
                   dozeDelay := min 600 v.p3.toNat, trimHold := max 10 (min 3600 v.p4.toNat) } ∧
      s.taskAdded t (.ticket c.addr (if 10 ≤ v.p1.toNat ∧ v.p1.toNat ≤ 2000 ∧ 500 ≤ v.p2.toNat ∧ v.p2.toNat ≤ 60000 ∧
        v.p3.toNat ≤ 600 ∧ 10 ≤ v.p4.toNat ∧ v.p4.toNat ≤ 3600 then .doneOk else .doneClamped) .none 0) ∧
      (∀ i, (t.cal i).quickDue = ((s.cal i).quickDue || decide (t.timing.quickInterval ≤ (s.cal i).sinceQuick)) ∧
        (t.cal i).fullDue = ((s.cal i).fullDue || decide (t.timing.fullInterval ≤ (s.cal i).sinceFull))) ∧
      let newly (i : StationId) : Prop :=
        ((s.cal i).quickDue = false ∧ t.timing.quickInterval ≤ (s.cal i).sinceQuick) ∨
          ((s.cal i).fullDue = false ∧ t.timing.fullInterval ≤ (s.cal i).sinceFull)
      ((∀ i, ¬newly i) → ({ s with timing := t.timing, stations := t.stations } : State).onlyScanner t) ∧
      (∀ i, ¬newly i → t.st i = { s.st i with dozeTimer :=
          if t.timing.dozeDelay = 0 then none
          else if (s.st i).state = .ready ∧ s.attached i = none ∧ (s.cal i).marked = false ∧ i ∉ s.photometerQueue ∧
            (s.st i).dozeTimer = none then some t.timing.dozeDelay else (s.st i).dozeTimer }) ∧
      ∀ i, newly i →
        let x := s.st i
        let aged := x.sheet.map (fun sh => { sh with openEntry := sh.openEntry.map (fun e => { e with aged := true }) })
        (t.st i).sheet = aged ∧
        (x.state ≠ .dozing → x.state ≠ .ready →
          t.st i = { x with sheet := aged, dozeTimer := if t.timing.dozeDelay = 0 then none else x.dozeTimer }) ∧
        (x.state = .dozing → t.st i = { x with
          sheet := aged, state := .waking, dozeTimer := none, holdTimer := none, wakeFromParked := false,
          wakeTimer := some 50 }) ∧
        (x.state = .ready → x.stacked = none → i ∉ s.photometerQueue → s.photometer ≠ some i →
          (t.st i).dozeTimer = none ∧
          (s.photometer ≠ none → i ∈ t.photometerQueue ∧ t.photometer = s.photometer ∧ (t.st i).state = .ready) ∧
          (s.photometer = none → (i ∈ t.photometerQueue ∧ (t.st i).state = .ready) ∨
            (t.photometer = some i ∧ (t.st i).state = .calibrating ∧ (t.st i).head = .photometer)) ∧
          (s.photometer = none → (∀ k, k ≠ i → newly k → (s.st k).state = .ready → (s.st k).stacked ≠ none) →
            t.photometer = some i ∧ (t.st i).state = .calibrating)))

/-- EMITTER_READ, STATION_QUERY and OUTPUT_WRITE_DONE (R31, R32, R163, R164): the pieces that fit the buffer are written one
after another, the first at the buffer's address, and the ticket then ends DONE_OK with their bytes as its result length;
with none that fits it ends at once with length 0. That each piece is a request of its own is the model's choice (log 13). -/
def Obligations.ReportServicesWrite : Prop :=
  (∀ (s : State) (p : Pass) (c : Candidate) (v : Service), s.settled → s.calm → s.atService p c v →
    (v.kind = .stationQuery → 32 ≤ v.bufSize → exec .stationQuery s = .next { s with
      port := s.portWith [writeRequest .output v.bufAddr (s.stationRecord v.station)],
      pass := some { p with phase := .output [(v.bufAddr, s.stationRecord v.station)] 32 } }) ∧
    (v.kind = .stationQuery → v.bufSize < 32 → ∃ t, exec .stationQuery s = .next t ∧ s.ticketEnds t c .doneOk .none 0) ∧
    (v.kind = .emitterRead → v.bufSize < 16 → ∃ t, exec .emitterRead s = .next t ∧ s.ticketEnds t c .doneOk .none 0) ∧
    (v.kind = .emitterRead → 16 ≤ v.bufSize → ∃ w rest,
      (fitting v.bufSize 0 (s.emitterReport v.station)).map (fun x => (addrPlus v.bufAddr x.1, x.2)) = w :: rest ∧
      w.1 = v.bufAddr ∧ exec .emitterRead s = .next { s with
        port := s.portWith [writeRequest .output w.1 w.2],
        pass := some { p with phase := .output (w :: rest) ((w :: rest).map (·.2.length)).sum } })) ∧
  ∀ (s : State) (p : Pass) (c : Candidate) (n k : Nat) (w w' : Addr × List Byte) (rest : List (Addr × List Byte)),
    s.serves .output n → s.calm → s.pass = some p → p.current = some c →
    (p.phase = .output (w :: w' :: rest) k → exec .outputWriteDone s = .next { s with
      port := s.portAfter [writeRequest .output w'.1 w'.2], pass := some { p with phase := .output (w' :: rest) k } }) ∧
    (p.phase = .output [w] k → ∃ t, exec .outputWriteDone s = .next t ∧ s.ticketEnds t c .doneOk .none k)

/-- The emitter report and the station status record. The report's size (R32): with tables of 2,048 entries, a buffer receives the header when it holds 16 bytes, then
each whole trim and each status that ends within it, 6,160 bytes in all. Its bytes (R32): the header's fields, then the trims,
16 bits each, then the statuses, one byte each. The station status record's bytes (R31): each field of its table, the job's
three reading 0xFF, 0 and 0 with none attached. -/
def Obligations.EmitterReportCounts : Prop :=
  (∀ (s : State) (i : StationId) (size : Nat), (s.cal i).trims.length = 2048 → (s.cal i).statuses.length = 2048 →
    ((fitting size 0 (s.emitterReport i)).map (·.2.length)).sum =
      if size < 16 then 0 else if size < 4112 then size - size % 2 else min size 6160) ∧
  (∀ (s : State) (i : StationId), let c := s.cal i
    ∃ d, s.emitterReport i = d ::
        (c.trims.map (fun v => [BitVec.ofNat 8 v, BitVec.ofNat 8 (v / 256)]) ++
          c.statuses.map (fun e => [BitVec.ofNat 8 (match e with | .ok => 0 | .weak => 1 | .dead => 2)])) ∧
      d.length = 16 ∧ field d 0x0 1 = stationNat i ∧ field d 0x1 1 = (if c.valid then 1 else 0) ∧
      field d 0x2 2 = c.h % 65536 ∧ field d 0x4 2 = c.dead % 65536 ∧ field d 0x6 2 = c.weak % 65536 ∧
      field d 0x8 2 = c.sinceFull % 65536 ∧ field d 0xA 2 = c.sinceQuick % 65536 ∧ field d 0xC 4 = 0) ∧
  ∀ (s : State) (i : StationId), let d := s.stationRecord i
    let x := s.st i
    let c := s.cal i
    d.length = 32 ∧ field d 0x00 1 = stationNat i ∧
    field d 0x01 1 = (match x.state with
      | .parked => 0 | .waking => 1 | .ready => 2 | .dozing => 3 | .calibrating => 4 | .loading => 5 | .sheetOpen => 6
      | .exposing => 7 | .closing => 8 | .faulted => 9) ∧
    field d 0x02 1 = (match x.cause with
      | .none => 0 | .load => 1 | .jam => 2 | .head => 3 | .headWorn => 4 | .abandoned => 5) ∧
    field d 0x03 1 = (if c.valid then 0x10 else 0x01) + (if c.quickRequired then 0x02 else 0) +
      (if c.fullDue then 0x04 else 0) + (if c.quickDue then 0x08 else 0) + (if i ∈ s.permitHolders then 0x20 else 0) +
      (if i ∈ s.photometerQueue then 0x40 else 0) + (if i ∈ s.permitQueue then 0x80 else 0) ∧
    field d 0x04 2 = x.stock % 65536 ∧ field d 0x06 2 = x.speed % 65536 ∧ field d 0x08 2 = x.supply % 65536 ∧
    field d 0x0A 2 = c.h % 65536 ∧ field d 0x0C 2 = c.sinceFull % 65536 ∧ field d 0x0E 2 = c.sinceQuick % 65536 ∧
    field d 0x10 1 = (match s.attached i with | some j => j.slot % 256 | none => 0xFF) ∧
    field d 0x11 1 = (match (s.attached i).map (·.state) with
      | some .attached => 2 | some .supplyWait => 3 | some .sheetActive => 4 | _ => 0) ∧
    field d 0x12 1 = (match s.attached i with | some j => j.sheets.length % 256 | none => 0) ∧
    field d 0x13 1 = (if x.sheet = none then 0 else 1) ∧
    field d 0x14 2 = (match x.sheet with | some sh => sh.map.length % 65536 | none => 0) ∧
    field d 0x16 2 = c.dead % 65536 ∧ field d 0x18 4 = (match x.sheet with | some sh => sh.serial.toNat | none => 0) ∧
    field d 0x1C 2 = c.weak % 65536 ∧ field d 0x1E 2 = 0

/-- The services refused by the addressed station's state (R153): STOCK_SET and SUPPLY_SET with a sheet at the station,
CAL_REQUEST in FAULTED, STATION_PARK and STATION_WAKE outside their states. The ticket ends REFUSED_STATE and nothing else
changes. -/
def Obligations.ServicesRefused : Prop :=
  ∀ (s : State) (p : Pass) (c : Candidate) (v : Service), s.settled → s.calm → s.atService p c v →
    let x := (s.st v.station).state
    let refused (i : Instr) : Prop := ∃ t, exec i s = .next t ∧ s.ticketEnds t c .refusedState .none 0
    let sheetThere : Prop := x = .loading ∨ x = .sheetOpen ∨ x = .exposing ∨ x = .closing ∨
      (x = .calibrating ∧ (s.st v.station).sheet ≠ none)
    (v.kind = .stockSet → sheetThere → refused .stockSet) ∧ (v.kind = .supplySet → sheetThere → refused .supplySet) ∧
    (v.kind = .calRequest → x = .faulted → refused .calRequest) ∧
    (v.kind = .stationPark → (x ≠ .dozing ∧ x ≠ .ready ∧ x ≠ .faulted) ∨
      ((x = .ready ∨ x = .faulted) ∧ s.attached v.station ≠ none) → refused .stationPark) ∧
    (v.kind = .stationWake → x ≠ .parked → x ≠ .dozing → x ≠ .waking → x ≠ .ready → refused .stationWake)

/-! ## The completion writer (R44 to R49) -/

/-- COMPLETION_WRITE_DONE (R44, R46): the next write of the task in progress is issued, and a release field written, or
tried, is counted under its claim. When the last write of a sheet release has ended, its task leaves the list: the oldest
waiting task is added, and the next task begins with its first write. The end of a rejection task (R24, R45, R116): the
field counts under its claim, and the station that waited decides again, here for the next page, whose entry it reads. -/
def Obligations.CompletionWriteGoesOn : Prop :=
  ((∀ (s : State) (n : Nat) (w w' : PlannedWrite) (rest : List PlannedWrite) (k : Task) (ks : List Task),
     s.serves .completionWrite n → s.plan = w :: w' :: rest → s.tasks = k :: ks →
     exec .completionWriteDone s = .next { s with
       port := s.portAfter [writeRequest (if w'.kind = .done then .doneWrite else .completionWrite) w'.addr w'.data],
       plan := w' :: rest,
       jobs := if w.kind = .release then
           s.jobs.map (fun j => if j.slotAddr = k.slotAddr then { j with fieldsWritten := j.fieldsWritten + 1 } else j)
         else s.jobs }) ∧
   ∀ (s : State) (n : Nat) (w w' : PlannedWrite) (rest : List PlannedWrite) (a tk : Addr) (i : StationId) (sh : Nat)
     (sn : Word) (es : List FrameEntry), s.serves .completionWrite n → s.plan = [w] → w.kind ≠ .release →
     (s.tasks = [.release a tk i sh sn es] → s.waiters = [] → exec .completionWriteDone s = .next { s with
       port := s.portAfter [], plan := [], tasks := [] }) ∧
     ∀ (k : Task) (ks : List Task), s.tasks = .release a tk i sh sn es :: k :: ks → s.taskWrites k = w' :: rest →
       w'.kind ≠ .done →
       (s.waiters = [] → exec .completionWriteDone s = .next { s with
         port := s.portAfter [writeRequest .completionWrite w'.addr w'.data], plan := w' :: rest, tasks := k :: ks }) ∧
       ∀ (b bt : Addr) (q : StationId) (page : Nat) (ws : List Task), s.waiters = .rejection b bt q page :: ws →
         exec .completionWriteDone s = .next { s with
           port := s.portAfter [writeRequest .completionWrite w'.addr w'.data], plan := w' :: rest,
           tasks := k :: ks ++ [.rejection b bt q page], waiters := ws }) ∧
  (∀ (s : State) (n m : Nat) (w : PlannedWrite) (tk : Addr) (i : StationId) (j : Job) (sh : Sheet),
     s.serves .completionWrite n → s.plan = [w] → w.kind = .release → s.tasks = [.rejection j.slotAddr tk i m] →
     s.waiters = [] → s.attached i = some j → (s.st i).activity = .rejecting → j.nextPage = m + 1 →
     (s.st i).sheet = some sh → sh.titleDone = true → sh.nextPos < j.frames → j.nextPage < j.pageCount →
     j.stopSeen = false → exec .completionWriteDone s = .next { s with
       port := s.portAfter [readRequest (.pageEntry i) (addrPlus j.ticket (0xD0 + 48 * j.nextPage)) 32],
       plan := [], tasks := [],
       jobs := s.jobs.map (fun k => if k.slotAddr = j.slotAddr then { k with fieldsWritten := k.fieldsWritten + 1 } else k),
       stations := (s.updSt i (fun x => { x with activity := .entryRead })).stations })

/-- DONE_WRITE_DONE (R33, R49, R66): the DONE count rises, saturating at 65,535; the slot leaves the held-slot set; the task
leaves the list and the next begins; a completed job's context is discarded. -/
def Obligations.DoneWriteCounts : Prop :=
  ∀ (s : State) (n : Nat) (a : Addr) (k : Task) (ks : List Task), s.serves .doneWrite n → s.waiters = [] → s.tasks = k :: ks →
    (k = .completion a ∨ ∃ o r len, k = .ticket a o r len) → ∃ t, exec .doneWriteDone s = .next t ∧
      t = { s with
        port := t.port, doneCount := min 65535 (s.doneCount + 1), held := s.held.filter (fun h => h.addr != a),
        tasks := ks, plan := match ks with | [] => [] | k' :: _ => s.taskWrites k',
        jobs := if k = .completion a then s.jobs.filter (fun j => j.slotAddr != a) else s.jobs } ∧
      t.port.arriving = []

/-- The writes of a job completion, in order (R26, R47, R49, R19): the release field of each page of the lost sheet that has a
frame, in exposure order and the frame in flight last, LOST, FAILED_READ or NOT_EXPOSED by its status, with the lost sheet's
index, the frame's row and column and the sheet's serial; then NOT_EXPOSED with no placement for each page not reached,
ascending; the progress word with the count of all release fields; the result buffer; the five result words, reason 0; and
at last DONE at the slot. The result buffer (R28, R29): nothing below 64 bytes; otherwise the first pieces of the selected
sections, SHEETS, FRAME_MAP and CAL, that end within the buffer, one behind another from byte 64 on and none after the first
that does not fit, and then the fixed part at its start; the result length counts them all. The bytes of the fixed part and of each entry are those of their tables
(R27, R28). That a release is one request of 12 bytes, the result words five requests, of 2, 2, 4, 4 and 4 bytes, and each
entry a request of its own, is the model's choice (log 13). -/
def Obligations.CompletionWritesEveryRelease : Prop :=
  (∀ j : Job,
    let outcome := j.outcome.getD .doneOk
    let release (page : Nat) (bytes : List Byte) : PlannedWrite :=
      { kind := .release, addr := addrPlus j.ticket (0xD0 + 48 * page + 0x20), data := bytes }
    let word (off : Nat) (bytes : List Byte) : PlannedWrite :=
      { kind := .resultWord, addr := addrPlus j.slotAddr off, data := bytes }
    let lost := match j.lostSheet with
      | some l => (l.map ++ l.inFlight.toList).filterMap (fun e => e.page.map (fun p => release p
          (leBytes 4 (match e.status with | .ok => 4 | .voidRead => 2 | .voidStop => 3) ++ leBytes 1 l.index ++
            leBytes 1 e.row ++ leBytes 1 e.col ++ [0] ++ leBytes 4 l.serial.toNat)))
      | none => []
    let unreached := (List.range (j.pageCount - j.nextPage)).map (fun k =>
      release (j.nextPage + k) [3, 0, 0, 0, 0xFF, 0xFF, 0xFF, 0, 0, 0, 0, 0])
    j.completionWrites = lost ++ unreached ++
      [{ kind := .progress, addr := addrPlus j.slotAddr 0x20,
         data := leBytes 4 (j.fieldsWritten + (lost ++ unreached).length) }] ++
      (j.bufferWrites outcome).1 ++
      [word 0x10 (leBytes 2 outcome.code), word 0x12 [0, 0], word 0x14 (leBytes 4 j.counts.exposed),
       word 0x18 (leBytes 4 (j.sheets.filter (fun e => e.ended == some .closed)).length),
       word 0x1C (leBytes 4 (j.bufferWrites outcome).2)] ++
      [{ kind := .done, addr := j.slotAddr, data := [3, 0, 0, 0] }]) ∧
  (∀ (j : Job) (o : TicketOutcome),
    let pieces := (if j.mask.testBit 0 then j.sheets.mapIdx sheetBytes else []) ++
      (if j.mask.testBit 1 then j.kept.flatMap (fun k => k.2.map (frameBytes k.1)) else []) ++
      (if j.mask.testBit 2 then j.snapshot.toList.map calBytes else [])
    let size (n : Nat) := 64 + ((pieces.take n).map (·.length)).sum
    (j.bufSize < 64 → j.bufferWrites o = ([], 0)) ∧
    (64 ≤ j.bufSize → ∃ n, n ≤ pieces.length ∧ size n ≤ j.bufSize ∧ (n < pieces.length → j.bufSize < size (n + 1)) ∧
      j.bufferWrites o = ((List.range n).map (fun k =>
          { kind := .buffer, addr := addrPlus j.bufAddr (size k), data := pieces.getD k [] }) ++
        [{ kind := .buffer, addr := j.bufAddr, data := j.fixedBytes o n }], size n))) ∧
  (∀ (j : Job) (o : TicketOutcome) (n : Nat), let d := j.fixedBytes o n
    let sheets := if j.mask.testBit 0 then j.sheets.length else 0
    let frames := if j.mask.testBit 1 then (j.kept.map (·.2.length)).sum else 0
    let cal := if j.mask.testBit 2 ∧ j.snapshot ≠ none then 1 else 0
    let serial (e : Option SheetEntry) : Nat := match e with | some e => e.serial.toNat | none => 0
    d.length = 64 ∧ field d 0x00 2 = o.code ∧ field d 0x02 2 = 0 ∧ field d 0x04 4 = j.pageCount % 2 ^ 32 ∧
    field d 0x08 4 = j.counts.exposed % 2 ^ 32 ∧ field d 0x0C 4 = j.counts.failedRead % 2 ^ 32 ∧
    field d 0x10 4 = j.counts.rejected % 2 ^ 32 ∧ field d 0x14 4 = j.counts.notExposed % 2 ^ 32 ∧
    field d 0x18 4 = j.counts.lost % 2 ^ 32 ∧
    field d 0x1C 1 = (j.sheets.filter (fun e => e.ended == some .closed)).length % 256 ∧
    field d 0x1D 1 = (j.sheets.filter (fun e => e.ended == some .lost)).length % 256 ∧
    field d 0x1E 2 = (if j.clamped then 1 else 0) + (if n < sheets + frames + cal then 2 else 0) ∧
    field d 0x20 4 = serial j.sheets.head? ∧ field d 0x24 4 = serial j.sheets.getLast? ∧
    field d 0x28 4 = j.totalHolds % 2 ^ 32 ∧ field d 0x2C 4 = j.totalSaturated % 2 ^ 32 ∧
    field d 0x30 2 = min n sheets % 65536 ∧ field d 0x32 2 = min (n - sheets) frames % 65536 ∧
    field d 0x34 1 = (n - sheets - frames) % 256 ∧
    field d 0x35 1 = (match j.lastStation with | some i => stationNat i | none => 0xFF) ∧
    field d 0x36 2 = j.framesInJob % 65536 ∧ d.drop 0x38 = [0, 0, 0, 0, 0, 0, 0, 0]) ∧
  (∀ (n : Nat) (e : SheetEntry), let d := sheetBytes n e
    d.length = 16 ∧ field d 0 4 = e.serial.toNat ∧ field d 4 1 = n % 256 ∧ field d 5 1 = stationNat e.station ∧
    (∀ c, e.ended = some c → field d 6 1 = match c with | .closed => 1 | .lost => 2) ∧ field d 7 1 = min 255 e.planned ∧
    field d 8 2 = e.offset % 65536 ∧ field d 10 2 = e.dead % 65536 ∧ field d 12 2 = e.used % 65536 ∧ field d 14 2 = 0) ∧
  (∀ (n : Nat) (e : FrameEntry), e.key.length = 16 → let d := frameBytes n e
    d.length = 32 ∧ field d 0 1 = n % 256 ∧ field d 1 1 = e.row % 256 ∧ field d 2 1 = e.col % 256 ∧
    field d 3 1 = (match e.status with | .ok => 1 | .voidRead => 2 | .voidStop => 3) ∧
    field d 4 2 = (match e.page with | some p => p % 65536 | none => 0xFFFF) ∧
    field d 6 1 = (if e.streak then 1 else 0) + (if e.aged then 2 else 0) + (if e.held then 4 else 0) ∧ field d 7 1 = 0 ∧
    field d 8 4 = e.saturated % 2 ^ 32 ∧ field d 12 2 = e.holds % 65536 ∧ field d 14 2 = 0 ∧ d.drop 16 = e.key) ∧
  (∀ c : CalSnapshot, let d := calBytes c
    d.length = 16 ∧ field d 0 2 = c.h % 65536 ∧ field d 2 2 = c.dead % 65536 ∧ field d 4 2 = c.weak % 65536 ∧
    field d 6 2 = c.sinceFull % 65536 ∧ field d 8 2 = c.sinceQuick % 65536 ∧ field d 10 1 = stationNat c.station ∧
    field d 11 1 = (if c.valid then 1 else 0) ∧ field d 12 4 = 0)

/-! ## The dispatcher (R58 to R67) -/

/-- LOAD_DECISION that begins a load, as one event (R58, R59, R76, R11): no stop read or seen, the stock carried, fewer than
16 sheets loaded, the best window within the streak allowance, and supply left. (That a return that was pending is pending no
longer is the model's choice, log 30.) -/
def Obligations.LoadBegins : Prop :=
  ∀ (s : State) (i : StationId) (n : Nat) (j : Job), s.serves (.decision i) n → s.atRest → s.attached i = some j →
    (j.state = .attached ∨ j.state = .supplyWait) → j.ending = none → j.stopSeen = false →
    s.mayDecide i = true → (s.st i).stock = j.expo.stock → j.sheets.length < 16 →
    (chooseWindow (s.cal i).statuses j.ew).2 ≤ j.expo.allowance → 0 < (s.st i).supply →
    (s.jobs.map (·.slotAddr)).Nodup →
    let w := chooseWindow (s.cal i).statuses j.ew
    let u := s.cal i
    exec (.loadDecision 0) s = .next { s with
      port := s.portAfter [],
      serial := s.serial + 1,
      jobs := s.jobs.map (fun k => if k.slotAddr = j.slotAddr then { k with
        planned := k.revisedPlan, state := .sheetActive, returnPending := false, boundTo := k.boundTo.or (some i),
        snapshot := k.snapshot.or (some { h := u.h, dead := u.dead, weak := u.weak, sinceFull := u.sinceFull,
                                          sinceQuick := u.sinceQuick, station := i, valid := u.valid }),
        sheets := k.sheets ++ [{ serial := s.serial, station := i, ended := none, planned := k.revisedPlan,
                                 offset := w.1, dead := w.2, used := 0 }] } else k),
      stations := (s.updSt i (fun x => { x with
        state := .loading, supply := x.supply - 1, dozeTimer := none, loadTimer := some 4000, feeds := x.feeds + 1,
        transport := .feed (x.feeds + 1), activity := .idle, bandReading := none,
        sheet := some { serial := s.serial, index := j.sheets.length, offset := w.1, dead := w.2, attempt := 1,
                        titleDone := j.layout.t == 0, nextPos := 0, map := [], planned := j.revisedPlan,
                        openEntry := none } })).stations }

/-- LOAD_DECISION that begins no load (R58): the checks in their order, a stop, the stock, the sheet limit, the window, the
supply. A job that ends has its completion task on the write list; no supply is taken and no serial given. An unbound job
whose stock is gone from its station returns to the intake list when that has room (R64): it is QUEUED at its old place and
off its station, its last station kept; with no room its return stays pending. Each ending and the return are stated where
they leave the dispatcher nothing more to do: no free station then fits a job of the list. A job without supply waits in
SUPPLY_WAIT, and keeps a return that is pending, which is the model's choice (log 30). -/
def Obligations.LoadDecisionChecks : Prop :=
  (∀ (s : State) (i : StationId) (n : Nat) (stop : Word) (j : Job), s.serves (.decision i) n →
     s.attached i = some j → (j.state = .attached ∨ j.state = .supplyWait) → j.ending = none → j.stopSeen = false →
     s.mayDecide i = true → s.listRoom 1 → (s.jobs.map (·.slotAddr)).Nodup →
     let dead := (chooseWindow (s.cal i).statuses j.ew).2
     let carried := (s.st i).stock = j.expo.stock
     let ends (seen : Bool) (o : TicketOutcome) : Prop :=
       ({ s with jobs := s.jobsWith j.slotAddr (fun k => Job.finished { k with stopSeen := k.stopSeen || seen } o) } :
         State).atRest → ∃ t, exec (.loadDecision stop) s = .next t ∧
       ({ s with jobs := s.jobs.map (fun k => if k.slotAddr = j.slotAddr then { k with stopSeen := k.stopSeen || seen } else k) } :
         State).jobEnds t j.slotAddr o ∧
       t = { s with port := t.port, jobs := t.jobs, tasks := t.tasks, plan := t.plan, stations := t.stations } ∧
       ∀ q, t.st q = { s.st q with dozeTimer := (t.st q).dozeTimer }
     (stop ≠ 0 → ends true .stopped) ∧
     (stop = 0 → ¬carried → j.boundTo ≠ none → ends false .noStock) ∧
     (stop = 0 → carried → 16 ≤ j.sheets.length → ends false .sheetLimit) ∧
     (stop = 0 → carried → j.sheets.length < 16 → j.expo.allowance < dead → ends false .unfitStation) ∧
     (stop = 0 → carried → j.sheets.length < 16 → dead ≤ j.expo.allowance → (s.st i).supply = 0 → s.atRest →
       exec (.loadDecision stop) s = .next { s with
         port := s.portAfter [],
         jobs := s.jobs.map (fun k => if k.slotAddr = j.slotAddr then { k with state := .supplyWait } else k) })) ∧
  (∀ (s : State) (i : StationId) (n : Nat) (j : Job), s.serves (.decision i) n → s.attached i = some j →
     (j.state = .attached ∨ j.state = .supplyWait) → j.ending = none → j.stopSeen = false → s.mayDecide i = true →
     j.boundTo = none → (s.st i).stock ≠ j.expo.stock → s.stockCarried j = true →
     (s.jobs.map (·.slotAddr)).Nodup → (∀ k ∈ s.jobs, k.station = some i → k = j) →
     (∀ r ∈ s.port.list.tail, ofControl i r = false) →
     let returned := s.jobsWith j.slotAddr (fun k => { k with station := none, returnPending := false, state := .queued })
     (s.roomForReturn = false → s.atRest → exec (.loadDecision 0) s = .next { s with
       port := s.portAfter [], jobs := s.jobsWith j.slotAddr (fun k => { k with returnPending := true }) }) ∧
     (s.roomForReturn = true → ({ s with jobs := returned } : State).atRest → exec (.loadDecision 0) s = .next { s with
       port := s.portAfter [], jobs := returned,
       stations := (s.updSt i (fun x => { x with
         dozeTimer := if s.timing.dozeDelay ≠ 0 ∧ x.dozeTimer = none then some s.timing.dozeDelay else x.dozeTimer })).stations }))

/-- PASS_END_READING_DONE (R60): a stop sets the stop-seen flag of the job, and ends one in SUPPLY_WAIT; a reading of 0
changes nothing. (The end is stated where it leaves the dispatcher nothing more to do.) -/
def Obligations.PassEndReading : Prop :=
  ∀ (s : State) (i : StationId) (n : Nat) (stop : Word) (j : Job), s.serves (.passEnd i) n → s.attached i = some j →
    j.ending = none →
    exec (.passEndReadingDone 0) s = .next { s with port := s.portAfter [] } ∧
    (stop ≠ 0 → j.state = .attached → exec (.passEndReadingDone stop) s = .next { s with
      port := s.portAfter [],
      jobs := s.jobs.map (fun k => if k.slotAddr = j.slotAddr then { k with stopSeen := true } else k) }) ∧
    (stop ≠ 0 → j.state = .supplyWait → s.listRoom 1 →
       ({ s with jobs := s.jobsWith j.slotAddr (fun k => Job.finished { k with stopSeen := true } .stopped) } : State).atRest →
       ∃ t, exec (.passEndReadingDone stop) s = .next t ∧
      ({ s with jobs := s.jobs.map (fun k => if k.slotAddr = j.slotAddr then { k with stopSeen := true } else k) } :
        State).jobEnds t j.slotAddr .stopped ∧
      t = { s with port := t.port, jobs := t.jobs, tasks := t.tasks, plan := t.plan, stations := t.stations } ∧
      ∀ q, t.st q = { s.st q with dozeTimer := (t.st q).dozeTimer })

/-- The five page counts of an ended job add up to its page count (R67). At a job's end: given that the counts made before,
with the pages of a lost sheet, account for every page reached. Over a run: every step keeps the rule that they do so
(`State.pagesAccounted`), the pages on the sheet present, or stacked, being those not yet counted, each ended job's five
counts adding up to its page count, and no return pending of a job in the intake list or in FINISHING. (That a station calibrates only while it holds the photometer is its premise, kept by
StepKeepsPhotometer.) -/
def Obligations.PageCountsAddUp : Prop :=
  (∀ (j : Job) (o : TicketOutcome), j.nextPage ≤ j.pageCount →
    j.counts.total + (match j.lostSheet with
      | some l => ((l.map ++ l.inFlight.toList).filter (·.page.isSome)).length
      | none => 0) = j.nextPage →
    (j.finished o).counts.total = j.pageCount ∧ (j.finished o).outcome = some o ∧ (j.finished o).state = .finishing ∧
      (j.finished o).station = none) ∧
  ∀ s t : State, s.pagesAccounted → s.photometerHolds → step s = .next t → t.pagesAccounted

/-! ## The stations' timers and reports (R69 to R83) -/

/-- DOZE_TIMER_EXPIRY and HOLD_TIMER_EXPIRY (R72, R73): the idle station enters DOZING with its hold timer loaded; the hold
timer's end sets QUICK required and the station stays DOZING. That an expiry of a timer that does not run changes nothing is
the model's choice (log 2). -/
def Obligations.DozeAndHoldTimers : Prop :=
  ∀ (s : State) (i : StationId), s.settled →
    ((s.st i).dozeTimer ≠ none → (s.st i).state = .ready → exec (.dozeTimerExpiry i) s = .next (s.updSt i (fun x => { x with
      state := .dozing, dozeTimer := none, holdTimer := some s.timing.trimHold }))) ∧
    ((s.st i).holdTimer ≠ none → (s.st i).state = .dozing → exec (.holdTimerExpiry i) s = .next
      ((s.updSt i (fun x => { x with holdTimer := none })).updCal i (fun c => { c with quickRequired := true }))) ∧
    ((s.st i).dozeTimer = none → exec (.dozeTimerExpiry i) s = .next s) ∧
    ((s.st i).holdTimer = none → exec (.holdTimerExpiry i) s = .next s)

/-- WAKE_TIMER_EXPIRY at a station with no job (R70, R72, R75, R143): READY, with the drive powered flag set after a wake from
PARKED. With no mark set the doze timer is loaded; with one the station asks for the photometer: granted, it is CALIBRATING
for a FULL when its table is invalid or FULL is due and else for a QUICK; not granted, it waits in READY. Each is stated where
it leaves the dispatcher nothing more to do: no free station then fits a job of the intake list. -/
def Obligations.WakeEndsInReady : Prop :=
  ∀ (s : State) (i : StationId), s.settled → (s.st i).wakeTimer ≠ none → (s.st i).state = .waking →
    s.attached i = none → (s.st i).sheet = none → (s.st i).stacked = none → (s.st i).dozeTimer = none →
    i ∉ s.photometerQueue → s.photometer ≠ some i →
    let x := { s.st i with state := .ready, wakeTimer := none, wakeFromParked := false,
                           powered := (s.st i).powered || (s.st i).wakeFromParked }
    let c := s.cal i
    let ends (n : State) : Prop := n.atRest → exec (.wakeTimerExpiry i) s = .next n
    (c.marked = false → ends (s.updSt i (fun _ => { x with
      dozeTimer := if s.timing.dozeDelay = 0 then none else some s.timing.dozeDelay }))) ∧
    (c.marked = true → s.photometer ≠ none →
      ends (({ s with photometerQueue := s.photometerQueue ++ [i] } : State).updSt i (fun _ => x))) ∧
    (c.marked = true → s.photometer = none → ends
      ((({ s with photometer := some i } : State).updSt i (fun _ => { x with
          state := .calibrating, activity := .idle, drive := [], driveSaturated := 0, head := .photometer,
          moveOut := true })).updCal i (fun _ => { c with flight := some {
            kind := if c.valid = false ∨ c.fullDue = true then .full else .quick, phase := .moving,
            answersQuickRequired := c.quickRequired, answersQuickDue := c.quickDue,
            answersFullDue := (!c.valid || c.fullDue) && c.fullDue } })))

/-- LOAD_TIMER_EXPIRY and REGISTRATION_FAILED for the latest feed at attempt 1 with supply left (R69, R78): the sheet is
ejected, the supply falls by one, and a second feed is commanded with the load timer loaded anew. A report for an earlier feed
changes nothing. -/
def Obligations.SecondFeed : Prop :=
  ∀ (s : State) (i : StationId) (sh : Sheet) (c : Instr), s.settled → (s.st i).state = .loading →
    (s.st i).loadTimer ≠ none → (s.st i).sheet = some sh → sh.attempt = 1 → 1 ≤ (s.st i).supply →
    (c = .loadTimerExpiry i ∨ c = .registrationFailed i (s.st i).feeds) →
    exec c s = .next (s.updSt i (fun x => { x with
      supply := x.supply - 1, loadTimer := some 4000, ejects := x.ejects + 1, feeds := x.feeds + 1,
      transport := .feed (x.feeds + 1), sheet := some { sh with attempt := 2 } })) ∧
    ∀ f, f ≠ (s.st i).feeds → exec (.registrationFailed i f) s = .next s ∧ exec (.registrationFound i f) s = .next s

/-- REGISTRATION_FOUND for the latest feed (R69, R77): SHEET_OPEN, the load timer stopped, and the stop word read before
anything is exposed. -/
def Obligations.RegistrationOpensTheSheet : Prop :=
  ∀ (s : State) (i : StationId) (j : Job), s.settled → (s.st i).state = .loading → s.attached i = some j →
    j.stopSeen = false → s.stopOutstanding i = false → exec (.registrationFound i (s.st i).feeds) s = .next { s with
      port := s.portWith [readRequest (.boundary i) (addrPlus j.slotAddr 0x0C) 4],
      stations := (s.updSt i (fun x => { x with
        state := .sheetOpen, loadTimer := none, activity := .boundaryReading, bandReading := none })).stations }

/-- JAM and HEAD_FAULT (R69, R82, R169): FAULTED with the cause, the timers stopped and the emitters off, and the ALERT count
risen by one, saturating at 255. In PARKED and FAULTED they are ignored. A calibration in flight is aborted, and the next
station in the queue is granted the photometer (R141, R150). A job with no sheet returns to the intake list, or with no room
there its return stays pending (R64). A fault with a sheet at the station (R63, R78, R83), by a jam, a head fault, or a
load's failure at its second attempt or with no supply: the sheet is gone, the permit returned, and the job ends SHEET_LOST
with the loss handed to it. A permit the station held goes to the station at the head of the waiting list, which begins its
area (R118). No request of the station stays on the list; of one in service the transfer on the bus is still to end (R170).
All but the permit's passing is stated where it leaves the dispatcher nothing more to do. -/
def Obligations.FaultReports : Prop :=
  let reports (i : StationId) (c : Instr) (cause : FaultCause) : Prop :=
    (c = .jam i ∧ cause = .jam) ∨ (c = .headFault i ∧ cause = .head)
  let faulted (s : State) (i : StationId) (cause : FaultCause) : State :=
    ({ s with alertCount := min 255 (s.alertCount + 1) } : State).updSt i (fun x => {
      x.cleared.timersStopped with state := .faulted, cause := cause })
  (∀ (s : State) (i : StationId) (c : Instr) (cause : FaultCause), s.settled → reports i c cause →
     ((s.st i).state = .parked ∨ (s.st i).state = .faulted → exec c s = .next s) ∧
     ((s.st i).state ≠ .parked → (s.st i).state ≠ .faulted → s.atRest → s.unencumbered i →
       exec c s = .next (faulted s i cause)) ∧
     ∀ f : Calibration, (s.st i).state = .calibrating → s.atRest →
       ({ s with cals := (s.updCal i (fun u => { u with flight := none })).cals } : State).unencumbered i →
       (s.cal i).flight = some f → s.photometer = some i →
       (s.photometerQueue = [] → exec c s = .next
         ((faulted { s with photometer := none } i cause).updCal i (fun u => { u with flight := none }))) ∧
       ∀ q rest, s.photometerQueue = q :: rest → (s.st q).state = .ready → ∃ t, exec c s = .next t ∧
         t.photometer = some q ∧ t.photometerQueue = rest ∧ (t.st q).state = .calibrating ∧
         (t.cal q).flight = some ((s.cal q).granted (s.st q).sheet.isSome) ∧ (t.cal i).flight = none ∧
         t.st i = (faulted s i cause).st i ∧ t.jobs = s.jobs ∧ ∀ k, k ≠ i → k ≠ q → t.st k = s.st k) ∧
  (∀ (s : State) (i : StationId) (j : Job) (c : Instr) (cause : FaultCause), s.settled → reports i c cause →
     (s.st i).state ≠ .parked → (s.st i).state ≠ .faulted → s.attached i = some j → j.ending = none →
     (s.st i).sheet = none → (s.st i).stacked = none →
     (∀ k ∈ s.jobs, k.station = some i ∨ k.slotAddr = j.slotAddr → k = j) →
     i ∉ s.permitHolders → i ∉ s.permitQueue → (s.cal i).flight = none →
     let m (f : Job → Job) : State := { faulted s i cause with
       jobs := s.jobsWith j.slotAddr f, photometerQueue := s.photometerQueue.filter (· != i) }
     let ends (m : State) : Prop := m.atRest → ∃ t, exec c s = .next t ∧ t = { m with port := t.port } ∧
       ∀ r ∈ t.port.list, ofStation i r = false
     (s.roomForReturn = true → s.stockCarried j = true →
       ends (m (fun k => { k with station := none, returnPending := false, state := .queued }))) ∧
     (s.roomForReturn = false → ends (m (fun k => { k with returnPending := true })))) ∧
  (∀ (s : State) (i : StationId) (j : Job) (sh : Sheet) (c : Instr) (cause : FaultCause), s.settled →
     s.attached i = some j → (s.st i).sheet = some sh → (s.st i).stacked = none →
     (∀ k ∈ s.jobs, k.station = some i → k.slotAddr = j.slotAddr) →
     (s.cal i).flight = none → s.permitQueue = [] → s.listRoom 1 → (s.st i).state ≠ .parked → (s.st i).state ≠ .faulted →
     (reports i c cause ∨
       (cause = .load ∧ (s.st i).state = .loading ∧ (s.st i).loadTimer ≠ none ∧ (sh.attempt = 2 ∨ (s.st i).supply = 0) ∧
         (c = .loadTimerExpiry i ∨ c = .registrationFailed i (s.st i).feeds))) →
     let ended := s.jobsWith j.slotAddr (fun k => (k.loseSheet sh).finished .sheetLost)
     ({ s with jobs := ended } : State).atRest →
     ∃ t, exec c s = .next t ∧
       t = { s with
         port := t.port, alertCount := min 255 (s.alertCount + 1), jobs := ended, tasks := t.tasks, plan := t.plan,
         stations := t.stations, permitHolders := s.permitHolders.filter (· != i),
         photometerQueue := s.photometerQueue.filter (· != i) } ∧
       t.tasks = s.tasks ++ [.completion j.slotAddr] ∧
       t.st i = { (s.st i).cleared.timersStopped with
         state := .faulted, cause := cause, ejects := (t.st i).ejects, transport := (t.st i).transport } ∧
       (∀ r ∈ t.port.list, ofStation i r = false) ∧ ∀ k, k ≠ i → t.st k = s.st k) ∧
  ∀ (s : State) (i q : StationId) (c : Instr) (cause : FaultCause) (b : Area) (rest : List StationId), s.settled →
    reports i c cause → (s.st i).state ≠ .parked → (s.st i).state ≠ .faulted → (s.cal i).flight = none →
    s.permitAwaited i q b rest → ∃ t, exec c s = .next t ∧ s.permitPasses t i q b rest

/-- SHEET_STACKED with pages left and no stop (R46, R62, R75, R80): the station is READY, the sheet's release task stands on
the write list, the job has the sheet counted CLOSED and goes on in ATTACHED, and its next load decision's reading is
requested. SHEET_STACKED of a job's last sheet (R46, R62, R65): the release task and then the completion task join the write
list; the outcome is DONE_OK when every page is EXPOSED, STOPPED when a stop was seen and left a page unexposed or
unreached, and DONE_WITH_VOIDS otherwise. Each is stated where it leaves the dispatcher nothing more to do: no free station
then fits a job of the intake list. -/
def Obligations.SheetStackedActs : Prop :=
  (∀ (s : State) (i : StationId) (j : Job) (sh : Sheet), s.settled → (s.st i).state = .closing →
     s.attached i = some j → (s.st i).sheet = some sh → j.stopSeen = false → j.nextPage < j.pageCount → j.ending = none →
     (s.cal i).marked = false → i ∉ s.photometerQueue → s.listRoom 1 → s.stopOutstanding i = false →
     j.returnPending = false →
     let goesOn := s.jobsWith j.slotAddr (fun k => { k.stackedSheet sh with state := .attached })
     ({ s with jobs := goesOn } : State).atRest →
     ∃ t, exec (.sheetStacked i) s = .next t ∧
       t = { s with
         port := t.port, jobs := goesOn, plan := t.plan, choices := t.choices,
         tasks := s.tasks ++ [.release j.slotAddr j.ticket i sh.index sh.serial (sh.map.filter (·.page.isSome))],
         stations := (s.updSt i (fun x => { x with
           state := .ready, sheet := none, stacked := none, activity := .idle })).stations } ∧
       readRequest (.decision i) (addrPlus j.slotAddr 0x0C) 4 ∈ t.port.list) ∧
  (∀ (s : State) (i : StationId) (j : Job) (sh : Sheet), s.settled → (s.st i).state = .closing →
     s.attached i = some j → (s.st i).sheet = some sh → (j.stopSeen = true ∨ j.pageCount ≤ j.nextPage) →
     (∀ k ∈ s.jobs, k.slotAddr = j.slotAddr ∨ k.station = some i → k = j) →
     s.listRoom 2 →
     let pages := sh.map.filter (·.page.isSome)
     let exposed := j.counts.exposed + (pages.filter (·.status == .ok)).length
     let outcome : TicketOutcome :=
       if j.stopSeen = true ∧ (0 < j.counts.notExposed + (pages.filter (·.status == .voidStop)).length ∨
         j.nextPage < j.pageCount) then .stopped
       else if exposed = j.pageCount then .doneOk else .doneWithVoids
     let ended := s.jobsWith j.slotAddr (fun k => (k.stackedSheet sh).finished outcome)
     ({ s with jobs := ended,
               stations := (s.updSt i (fun x => { x with state := .ready, sheet := none })).stations } : State).atRest →
     ∃ t, exec (.sheetStacked i) s = .next t ∧
       t.tasks = s.tasks ++
         [.release j.slotAddr j.ticket i sh.index sh.serial pages, .completion j.slotAddr] ∧ t.waiters = [] ∧
       t.jobs = ended ∧ (t.st i).sheet = none ∧ (t.st i).stacked = none ∧ ∀ k, k ≠ i → t.st k = s.st k)

/-! ## The open sheet (R98 to R102, R116 to R128) -/

/-- BOUNDARY_READING_DONE with no QUICK due (R116, R77, R117): a stop sets the stop-seen flag; then the title strip while it
is not done, with the head at 2,000 µm and the film at 2,000 µm; with it done, the next page's entry when no stop is seen
and a position and a page are left, and otherwise the index frame at its position with the sheet's window.
BOUNDARY_READING_DONE with a QUICK due (R116, R139, R143): the station takes the QUICK before it begins anything, at once
when the photometer is free, and otherwise waits in SHEET_OPEN in the photometer queue. -/
def Obligations.BoundaryDecides : Prop :=
  (∀ (s : State) (i : StationId) (n : Nat) (stop : Word) (j : Job) (sh : Sheet), s.serves (.boundary i) n →
     (s.st i).activity = .boundaryReading → s.attached i = some j → (s.st i).sheet = some sh →
     (s.cal i).quickDue = false →
     let jobs := if stop = 0 then s.jobs else
       s.jobs.map (fun k => if k.slotAddr = j.slotAddr then { k with stopSeen := true } else k)
     let goes := j.stopSeen = false ∧ stop = 0 ∧ sh.nextPos < j.frames ∧ j.nextPage < j.pageCount
     (sh.titleDone = false → exec (.boundaryReadingDone stop) s = .next { s with
       port := s.portAfter [], jobs := jobs,
       stations := (s.updSt i (fun x => { x with
         activity := .positioning (.title 0), moveOut := true, head := .at 2000, filmY := 2000 })).stations }) ∧
     (sh.titleDone = true → goes → exec (.boundaryReadingDone stop) s = .next { s with
       port := s.portAfter [readRequest (.pageEntry i) (addrPlus j.ticket (0xD0 + 48 * j.nextPage)) 32], jobs := jobs,
       stations := (s.updSt i (fun x => { x with activity := .entryRead })).stations }) ∧
     (sh.titleDone = true → ¬goes → exec (.boundaryReadingDone stop) s = .next { s with
       port := s.portAfter [], jobs := jobs,
       stations := (s.updSt i (fun x => x.indexPositioned j sh)).stations })) ∧
  (∀ (s : State) (i : StationId) (n : Nat), s.serves (.boundary i) n → (s.st i).activity = .boundaryReading →
     (s.st i).sheet ≠ none → (s.cal i).quickDue = true → (s.cal i).valid = true → i ∉ s.photometerQueue →
     s.photometer ≠ some i →
     (s.photometer = none → exec (.boundaryReadingDone 0) s = .next { s with
       port := s.portAfter [], photometer := some i,
       cals := (s.updCal i (fun c => { c with flight := some {
         kind := .quick, phase := .moving, answersQuickRequired := c.quickRequired, answersQuickDue := true,
         answersFullDue := false } })).cals,
       stations := (s.updSt i (fun x => { x with
         state := .calibrating, dozeTimer := none, activity := .idle, drive := [], driveSaturated := 0,
         head := .photometer, moveOut := true })).stations }) ∧
     (s.photometer ≠ none → exec (.boundaryReadingDone 0) s = .next { s with
       port := s.portAfter [], photometerQueue := s.photometerQueue ++ [i],
       stations := (s.updSt i (fun x => { x with activity := .quickWait })).stations }))

/-- BAND_READING_DONE (R123, R124): while the band is exposed its value is kept for the band boundary; with the film held, a
stop sets the stop-seen flag and aborts the frame VOID_STOP for its void pass, and 0 is kept. -/
def Obligations.BandReading : Prop :=
  ∀ (s : State) (i : StationId) (n : Nat) (stop : Word), s.serves (.band i) n →
    (∀ k, (s.st i).activity = .line .page k → exec (.bandReadingDone stop) s = .next { s with
      port := s.portAfter [], stations := (s.updSt i (fun x => { x with bandReading := some (stop != 0) })).stations }) ∧
    (∀ b, (s.st i).activity = .lineHold b → exec (.bandReadingDone 0) s = .next { s with
      port := s.portAfter [], stations := (s.updSt i (fun x => { x with bandReading := some false })).stations }) ∧
    (∀ b j sh, (s.st i).activity = .lineHold b → stop ≠ 0 → s.attached i = some j → (s.st i).sheet = some sh →
      ∃ t, exec (.bandReadingDone stop) s = .next t ∧ t = { s with
        port := t.port,
        jobs := s.jobs.map (fun k => if k.slotAddr = j.slotAddr then { k with stopSeen := true } else k),
        stations := (s.updSt i (fun x => { x with
          sheet := some { sh with openEntry := sh.openEntry.map (fun e => { e with status := .voidStop }) },
          activity := .returnMove, moveOut := true, drive := [], driveSaturated := 0, bandReading := none,
          mapping := none, bufA := .empty, bufB := .empty })).stations } ∧
        ∀ r ∈ t.port.list, r.purpose ≠ .row i)

/-- PAGE_ENTRY_READ_DONE of a bad entry (R24, R45, R116): the page is reached and counted REJECTED, and the station waits
for the rejection task it has added. PAGE_ENTRY_READ_DONE of a good entry (R116, R123, R98, R15): the page is reached and
takes the next position; its entry is opened with status OK; its mapping context is made and band 0 begun in the first buffer; the head and the film are positioned for it. A band begun
holds the margin at every dot and its fetch list, whose first row is requested; with an empty list it is FULL at once, and
band 1, where the frame has one, is begun at the same event in the second buffer (R98). -/
def Obligations.PageEntryDecides : Prop :=
  (∀ (s : State) (i : StationId) (data : List Byte) (j : Job), s.serves (.pageEntry i) 32 → data.length = 32 →
     s.attached i = some j → (readPageEntry data).good = false → s.listRoom 1 →
     ∃ t, exec (.pageEntryReadDone data) s = .next t ∧ t = { s with
       port := t.port, plan := t.plan,
       tasks := s.tasks ++ [.rejection j.slotAddr j.ticket i j.nextPage],
       jobs := s.jobs.map (fun k => if k.slotAddr = j.slotAddr then { k with
         nextPage := k.nextPage + 1, counts := { k.counts with rejected := k.counts.rejected + 1 } } else k),
       stations := (s.updSt i (fun x => { x with activity := .rejecting })).stations }) ∧
  (∀ (s : State) (i : StationId) (data : List Byte) (j : Job) (sh : Sheet), s.serves (.pageEntry i) 32 → data.length = 32 →
     s.attached i = some j → (s.st i).sheet = some sh → (readPageEntry data).good = true →
     let e := readPageEntry data
     let m := makeMapping j.nextPage e j.ew j.lines j.expo.margin
     let rowRequest (y : Nat) := readRequest (.row i) (addrPlus e.image (y * e.rowPitch)) (rowBytes (e.format == 2) e.width)
     let answers (asks : List Request) (nextBand : Nat) (second : BandBuffer) : Prop :=
       exec (.pageEntryReadDone data) s = .next { s with
       port := s.portAfter asks,
       jobs := s.jobs.map (fun k => if k.slotAddr = j.slotAddr then { k with nextPage := k.nextPage + 1 } else k),
       stations := (s.updSt i (fun x => { x with
         activity := .positioning .page, moveOut := true,
         head := .at ((j.layout.left sh.nextPos : Int) - 5 * (sh.offset : Int)), filmY := j.layout.top sh.nextPos,
         bandReading := none, mapping := some { m with nextBand := nextBand }, bufA := m.beginBand 0, bufB := second,
         sheet := some { sh with nextPos := sh.nextPos + 1, openEntry := some {
           row := (j.layout.position sh.nextPos).1, col := (j.layout.position sh.nextPos).2, page := some j.nextPage,
           key := e.key, status := .ok, streak := decide (1 ≤ sh.dead), aged := false, held := false, saturated := 0,
           holds := 0 } } })).stations }
     (∀ b, m.beginBand b = {
        state := if m.fetchList b = [] then .full else .filling, band := b, rows := m.fetchList b,
        dots := List.replicate (min 64 (j.lines - 64 * b)) (List.replicate j.ew j.expo.margin) }) ∧
     (0 < j.lines →
       (∀ y rows, m.fetchList 0 = y :: rows → answers [rowRequest y] 1 .empty) ∧
       (m.fetchList 0 = [] → j.lines ≤ 64 → answers [] 1 .empty) ∧
       (m.fetchList 0 = [] → 64 < j.lines → answers ((m.fetchList 1).head?.map rowRequest).toList 2 (m.beginBand 1))))

/-- ROW_FETCH_DONE (R98), in whichever buffer is being filled: the row is written into every dot of its band that samples it,
and the next row of the list is requested; the list's last row makes the band FULL. At that event the next band, when one is
left, begins in the other buffer if that is FREE, and its first row is requested (a band with an empty list is FULL at once).
A frame positioned and waiting for band 0 then asks for its permit (R119): with one free the station enters EXPOSING with
line 0, the frame AGED when a calibration is due (R140), and with none it waits in the list. A line hold that waited for the
band ends with the band's first line (R100). At either line the band's stop word reading is asked for (R123). Nothing else
follows. -/
def Obligations.RowFetched : Prop :=
  ∀ (s : State) (i : StationId) (n : Nat) (data : List Byte) (m : Mapping) (inB : Bool) (y : Nat) (rows : List Nat),
    s.serves (.row i) n → data.length = n → (s.st i).mapping = some m →
    let x := s.st i
    let buf := if inB then x.bufB else x.bufA
    let other := if inB then x.bufA else x.bufB
    buf.state = .filling → other.state ≠ .filling → buf.rows = y :: rows →
    let put (x : Station) (b : BandBuffer) : Station := if inB then { x with bufB := b } else { x with bufA := b }
    let putOther (x : Station) (b : BandBuffer) : Station := if inB then { x with bufA := b } else { x with bufB := b }
    let fetched := put x { buf with rows := rows, dots := m.writeRow buf.band y data buf.dots,
                                    state := if rows = [] then .full else .filling }
    let rowRequest (y : Nat) := readRequest (.row i) (addrPlus m.image (y * m.rowPitch)) m.rowLength
    let follows : Prop := m.nextBand < bandCount m.lines ∧ m.nextBand = buf.band + 1 ∧ other.state = .free
    let next := m.beginBand m.nextBand
    let begun := putOther { fetched with mapping := some { m with nextBand := m.nextBand + 1 } } next
    (∀ y' rest, rows = y' :: rest → exec (.rowFetchDone data) s = .next { s with
      port := s.portAfter [rowRequest y'], stations := (s.updSt i (fun _ => fetched)).stations }) ∧
    (rows = [] → ∀ (u : Station) (asks : List Request),
      (follows ∧ u = begun ∧ asks = (next.rows.head?.map rowRequest).toList) ∨
        ((bandCount m.lines ≤ m.nextBand ∨ other.state ≠ .free) ∧ u = fetched ∧ asks = []) →
      ((∀ k, x.activity = .lineHold k → buf.band ≠ k + 1) → (x.activity = .bandWait → buf.band ≠ 0) →
        exec (.rowFetchDone data) s = .next { s with
          port := s.portAfter asks, stations := (s.updSt i (fun _ => u)).stations }) ∧
      ∀ j, s.attached i = some j →
        let reading := if j.stopSeen = true ∨ s.stopOutstanding i = true then [] else
          [readRequest (.band i) (addrPlus j.slotAddr 0x0C) 4]
        (x.activity = .lineHold (buf.band - 1) → buf.band ≠ 0 → ∃ t l, exec (.rowFetchDone data) s = .next t ∧
          l.Perm (asks ++ reading) ∧
          t = { s with port := s.portAfter l, choices := t.choices, stations := t.stations } ∧
          (∀ k, k ≠ i → t.st k = s.st k) ∧ t.st i = { u with
            activity := .line .page (64 * buf.band), bandReading := none,
            drive := (t.lineDwells i .page (64 * buf.band)).1,
            driveSaturated := (t.lineDwells i .page (64 * buf.band)).2 }) ∧
        (x.activity = .bandWait → buf.band = 0 → i ∉ s.permitHolders → i ∉ s.permitQueue →
          (2 ≤ s.permitHolders.length → exec (.rowFetchDone data) s = .next { s with
            port := s.portAfter asks, permitQueue := s.permitQueue ++ [i],
            stations := (s.updSt i (fun _ => { u with activity := .permitWait .page })).stations }) ∧
          (s.permitHolders.length < 2 → ∃ t l, exec (.rowFetchDone data) s = .next t ∧ l.Perm (asks ++ reading) ∧
            t = { s with port := s.portAfter l, choices := t.choices, stations := t.stations,
                         permitHolders := s.permitHolders ++ [i] } ∧
            (∀ k, k ≠ i → t.st k = s.st k) ∧ t.st i = { u with
              state := .exposing, activity := .line .page 0, bandReading := none,
              sheet := u.sheet.map (fun sh => { sh with openEntry := sh.openEntry.map (fun e => { e with
                aged := e.aged || (s.cal i).quickDue || (s.cal i).fullDue }) }),
              drive := (t.lineDwells i .page 0).1, driveSaturated := (t.lineDwells i .page 0).2 })))

/-- MOVE_COMPLETE (R69, R118, R119, R121, R125, R144): ignored when no move is outstanding. At the end of a positioning a page
frame whose band 0 is not FULL waits for it; any other area asks for a permit, and with one free the station enters EXPOSING
with its line 0; with none it waits in the list. At a swath's move and a return move the next line 0 begins; at the move to
the photometer the settle timer is loaded. (That a report left over from a move cut short is taken as that of the move
outstanding is the model's choice, log 37.) -/
def Obligations.MoveCompleteActs : Prop :=
  ∀ (s : State) (i : StationId), s.settled →
    let moved := s.updSt i (fun x => { x with moveOut := false })
    ((s.st i).moveOut = false → exec (.moveComplete i) s = .next s) ∧
    ((s.st i).moveOut = true → (s.st i).state ≠ .calibrating →
      ((s.st i).activity = .positioning .page → (s.st i).bandIn .full 0 = false → exec (.moveComplete i) s =
        .next (moved.updSt i (fun x => { x with activity := .bandWait }))) ∧
      (∀ a, (s.st i).activity = .positioning a → (a ≠ .page ∨ (s.st i).bandIn .full 0 = true) →
        i ∉ s.permitHolders → i ∉ s.permitQueue →
        (2 ≤ s.permitHolders.length → exec (.moveComplete i) s = .next
          (({ moved with permitQueue := s.permitQueue ++ [i] } : State).updSt i (fun x => { x with activity := .permitWait a }))) ∧
        (s.permitHolders.length < 2 → ∃ t, exec (.moveComplete i) s = .next t ∧
          t = { s with port := t.port, stations := t.stations, permitHolders := s.permitHolders ++ [i] } ∧
          (t.st i).state = .exposing ∧ (t.st i).activity = .line a 0 ∧ (t.st i).moveOut = false ∧
          ∀ k, k ≠ i → t.st k = s.st k)) ∧
      (∀ k, (s.st i).activity = .swathMove k → ∃ t, exec (.moveComplete i) s = .next t ∧
        t = { s with stations := t.stations } ∧ (t.st i).activity = .line (.title k) 0 ∧ (t.st i).state = (s.st i).state ∧
        ∀ q, q ≠ i → t.st q = s.st q) ∧
      ((s.st i).activity = .returnMove → ∃ t, exec (.moveComplete i) s = .next t ∧
        t = { s with stations := t.stations } ∧ (t.st i).activity = .line .voidPass 0 ∧ (t.st i).state = (s.st i).state ∧
        ∀ q, q ≠ i → t.st q = s.st q)) ∧
    ((s.st i).moveOut = true → (s.st i).state = .calibrating → ∀ f, (s.cal i).flight = some f → f.phase = .moving →
      exec (.moveComplete i) s = .next ((moved.updSt i (fun x => { x with settleTimer := some 20 })).updCal i
        (fun c => { c with flight := some { f with phase := .settling } })))

/-- LINE_END inside an area, page frame, void pass, index frame or title swath (R99, R106, R112, R121): the next line is
driven, and a page's or index's ended line counts its saturated dots. What a line drives (R99, R105, R110 to R114): dot i of
a page under emitter o + i its tone entry's dwell, a text dot the text level's, a void pass the longest; 0 under a DEAD
emitter, for a background dot and outside the window or swath; page and index lines count the dots whose raw dwell exceeds
the longest. LINE_END of a swath's last line (R121): the move to the next swath. LINE_END of an area's last line (R118, R126,
R127, R137): the permit is returned, and with a station waiting, the list's head has it and begins its area; a frame's entry
joins the map, both frame counters rise by one, and QUICK or FULL is due from its interval on. After the index frame the sheet
is carried off. After the strip, a void pass or a page frame the station is in SHEET_OPEN; the boundary reading is requested
unless a stop was seen, and a band reading already made is taken as it (R117): with no QUICK due the next page's entry is
read, or the index frame positioned, and with one due the photometer taken (R116). That an outstanding band reading serves for
the boundary's, and its completion is then the boundary reading's, is the model's inference from R60 (DEDUCED, log 24). -/
def Obligations.FrameProgress : Prop :=
  (∀ (s : State) (i : StationId) (j : Job) (a : Area) (k : Nat), s.settled → (s.st i).state = .exposing →
     s.attached i = some j → (s.st i).activity = .line a k →
     (match a with | .title _ => k + 1 < j.layout.t / 5 | _ => k + 1 < j.lines) → (a = .page → (k + 1) % 64 ≠ 0) →
     ∃ t, exec (.lineEnd i) s = .next t ∧ t = { s with stations := t.stations } ∧ (∀ q, q ≠ i → t.st q = s.st q) ∧
       t.st i = { s.st i with
         activity := .line a (k + 1), drive := (s.lineDwells i a (k + 1)).1,
         driveSaturated := (s.lineDwells i a (k + 1)).2,
         sheet := if a = .page ∨ a = .index then (s.st i).sheet.map (fun sh => { sh with
             openEntry := sh.openEntry.map (fun e => { e with saturated := e.saturated + (s.st i).driveSaturated }) })
           else (s.st i).sheet }) ∧
  (∀ (s : State) (i : StationId) (j : Job) (sh : Sheet), s.attached i = some j → (s.st i).sheet = some sh →
     (s.cal i).trims.length = 2048 → (s.cal i).statuses.length = 2048 → sh.offset + j.ew ≤ 2048 →
     let ticks := j.expo.lineTicks
     let raw (e x : Nat) := rawDwell x (s.st i).speed ((s.cal i).trims.getD e 0) (s.cal i).h j.expo.gain
     let drives (a : Area) (k : Nat) (v : Nat → Nat) : Prop :=
       ∀ e, e < 2048 → (s.lineDwells i a k).1[e]? = some (if (s.cal i).statuses[e]? = some .dead then 0 else v e)
     let saturates (a : Area) (k : Nat) (asks : Nat → Option Nat) : Prop :=
       (s.lineDwells i a k).2 = ((List.range 2048).filter (fun e => decide ((s.cal i).statuses[e]? ≠ some .dead) &&
         (asks e).any (fun x => decide (ticks - 40 < raw e x)))).length
     let dwell (asks : Nat → Option Nat) (e : Nat) := match asks e with
       | some x => drivenDwell (raw e x) (ticks - 40)
       | none => 0
     let inWindow (e : Nat) : Bool := decide (sh.offset ≤ e) && decide (e < sh.offset + j.ew)
     ∀ k,
       (∀ (b : BandBuffer) (dots : List Nat), b.state ≠ .free → b.band = k / 64 →
         ((s.st i).bufA = b ∨ ((s.st i).bufB = b ∧ ((s.st i).bufA.state = .free ∨ (s.st i).bufA.band ≠ k / 64))) →
         b.dots[k % 64]? = some dots → dots.length = j.ew →
         let asks (e : Nat) : Option Nat :=
           if inWindow e then some (toneEntry s.tones j.expo.tone (dots.getD (e - sh.offset) 0)) else none
         drives .page k (dwell asks) ∧ saturates .page k asks) ∧
       (drives .voidPass k (fun e => if inWindow e then ticks - 40 else 0) ∧ (s.lineDwells i .voidPass k).2 = 0) ∧
       (let asks (e : Nat) : Option Nat :=
          if inWindow e && indexDot sh.map j.lines (e - sh.offset) k then some j.expo.textLevel else none
        drives .index k (dwell asks) ∧ saturates .index k asks) ∧
       ∀ n, let asks (e : Nat) : Option Nat :=
          if decide (n = 9 → e < 1768) && titleDot j.layout sh (2048 * n + e) k then some j.expo.textLevel else none
        drives (.title n) k (dwell asks) ∧ (s.lineDwells i (.title n) k).2 = 0) ∧
  (∀ (s : State) (i : StationId) (j : Job) (sh : Sheet) (a : Area) (k : Nat), s.settled → (s.st i).state = .exposing →
    s.attached i = some j → (s.st i).sheet = some sh → (s.st i).activity = .line a k →
    (∀ n, a = .title n → j.layout.t / 5 ≤ k + 1 → n < 9 → exec (.lineEnd i) s = .next (s.updSt i (fun x => { x with
      activity := .swathMove (n + 1), moveOut := true, head := .at (2000 + 10240 * ((n + 1 : Nat) : Int)), filmY := 2000,
      drive := [], driveSaturated := 0 }))) ∧
    ((match a with | .title n => j.layout.t / 5 ≤ k + 1 ∧ 9 ≤ n | _ => j.lines ≤ k + 1) → s.permitQueue = [] →
      (∀ r ∈ s.port.list, r.purpose ≠ .row i) →
      let x := s.st i
      let titled : Bool := match a with | .title _ => true | _ => false
      let counted := if a = .page ∨ a = .index then sh.openEntry.map (fun e => { e with
        saturated := e.saturated + x.driveSaturated }) else sh.openEntry
      let sh' : Sheet := if titled then { sh with titleDone := true } else
        { sh with map := sh.map ++ counted.toList, openEntry := none }
      let c := s.cal i
      let full := min 65535 (c.sinceFull + 1)
      let quick := min 65535 (c.sinceQuick + 1)
      let cal : CalUnit := if titled then c else { c with
        sinceFull := full, sinceQuick := quick, quickDue := c.quickDue || decide (s.timing.quickInterval ≤ quick),
        fullDue := c.fullDue || decide (s.timing.fullInterval ≤ full) }
      let u : Station := { x with state := .sheetOpen, activity := .idle, drive := [], driveSaturated := 0, sheet := some sh' }
      let opened : Station := if titled then u else { u with mapping := none, bufA := .empty, bufB := .empty }
      let m (u : Station) : State := { s with
        permitHolders := s.permitHolders.filter (· != i), cals := (s.updCal i (fun _ => cal)).cals,
        stations := (s.updSt i (fun _ => u)).stations }
      let answers (m : State) : Prop := exec (.lineEnd i) s = .next m
      let reads : Station := { opened with activity := .boundaryReading, bandReading := none }
      let made : Option Bool := if a = .page then x.bandReading else none
      let seen := j.stopSeen = true ∨ made = some true
      let jobs := if made = some true then s.jobsWith j.slotAddr (fun q => { q with stopSeen := true }) else s.jobs
      let goes := ¬seen ∧ sh.nextPos < j.frames ∧ j.nextPage < j.pageCount
      (a = .index → answers (m { u with state := .closing, transport := .carry })) ∧
      (a ≠ .index → made = none → j.stopSeen = false →
        (s.stopOutstanding i = false → answers { m reads with
          port := s.portWith [readRequest (.boundary i) (addrPlus j.slotAddr 0x0C) 4] }) ∧
        (∀ l r l', s.port.list = l ++ r :: l' → r.purpose = .band i → (∀ q ∈ l ++ l', isStopReading i q = false) →
          answers { m reads with port := { s.port with list := l ++ { r with purpose := .boundary i } :: l' } })) ∧
      (a ≠ .index → (made ≠ none ∨ j.stopSeen = true) →
        (cal.quickDue = false → sh'.titleDone = true →
          (goes → answers { m { opened with activity := .entryRead } with
            jobs := jobs,
            port := s.portWith [readRequest (.pageEntry i) (addrPlus j.ticket (0xD0 + 48 * j.nextPage)) 32] }) ∧
          (¬goes → answers { m (opened.indexPositioned j sh') with jobs := jobs })) ∧
        (cal.quickDue = true → cal.valid = true → s.photometer ≠ some i → i ∉ s.photometerQueue →
          (s.photometer ≠ none → answers { m { opened with activity := .quickWait } with
            jobs := jobs, photometerQueue := s.photometerQueue ++ [i] }) ∧
          (s.photometer = none → ∃ t, exec (.lineEnd i) s = .next t ∧ t.jobs = jobs ∧ t.photometer = some i ∧
            (t.st i).state = .calibrating ∧ (t.st i).head = .photometer ∧ (t.st i).sheet = some sh' ∧
            (t.cal i).flight.map (·.kind) = some .quick ∧ t.permitHolders = s.permitHolders.filter (· != i) ∧
            ∀ q, q ≠ i → t.st q = s.st q ∧ t.cal q = s.cal q))))) ∧
  ∀ (s : State) (i q : StationId) (j : Job) (sh : Sheet) (a b : Area) (k : Nat) (rest : List StationId), s.settled →
    (s.st i).state = .exposing → s.attached i = some j → (s.st i).sheet = some sh → (s.st i).activity = .line a k →
    (match a with | .title n => j.layout.t / 5 ≤ k + 1 ∧ 9 ≤ n | _ => j.lines ≤ k + 1) →
    s.permitAwaited i q b rest → ∃ t, exec (.lineEnd i) s = .next t ∧ s.permitPasses t i q b rest ∧
      (if a = .index then (t.st i).state = .closing ∧ (t.st i).transport = .carry
       else (t.st i).state = .sheetOpen ∨ ((t.st i).state = .calibrating ∧ t.photometer = some i)) ∧
      (t.st i).sheet.map (·.map.length) = some (match a with
        | .title _ => sh.map.length
        | _ => (sh.map ++ sh.openEntry.toList).length)

/-- LINE_END at a band boundary (R100, R124): the next band FAILED aborts the frame VOID_READ, else a stop read aborts it
VOID_STOP; else with the next band FULL its first line follows, and otherwise the film is held, the hold counted and the
entry HELD. At an abort both buffers become FREE and the row request is withdrawn, its transfer on the bus apart (R102, R170).
Otherwise the ended band's buffer becomes FREE; with the next band FULL, the band after it, when one is left, is begun in that
buffer at the same event and its first row requested (R98, R99). -/
def Obligations.BandBoundarySettles : Prop :=
  ∀ (s : State) (i : StationId) (j : Job) (sh : Sheet) (b k : Nat), s.settled → (s.st i).state = .exposing →
    s.attached i = some j → (s.st i).sheet = some sh → (s.st i).activity = .line .page k → k + 1 = 64 * (b + 1) →
    k + 1 < j.lines →
    let x := s.st i
    let stop := x.bandReading = some true
    let entry (u : Station) : Option FrameEntry := u.sheet.bind (·.openEntry)
    ∃ t, exec (.lineEnd i) s = .next t ∧ (∀ q, q ≠ i → t.st q = s.st q) ∧ (t.st i).state = .exposing ∧
      t.permitHolders = s.permitHolders ∧
      (x.bandIn .failed (b + 1) = true ∨ stop →
        (t.st i).activity = .returnMove ∧ (t.st i).moveOut = true ∧ (t.st i).drive = [] ∧ (t.st i).mapping = none ∧
        (t.st i).bufA = .empty ∧ (t.st i).bufB = .empty ∧ (∀ r ∈ t.port.list, r.purpose ≠ .row i) ∧
        (∀ r, s.serving = some r → r.purpose = .row i → t.port.discarding = some r) ∧
        (entry (t.st i)).map (·.status) =
          (entry x).map (fun _ => if x.bandIn .failed (b + 1) then .voidRead else .voidStop)) ∧
      (x.bandIn .failed (b + 1) = false → ¬stop → x.bandIn .full (b + 1) = true →
        (t.st i).activity = .line .page (k + 1)) ∧
      (x.bandIn .failed (b + 1) = false → ¬stop → x.bandIn .full (b + 1) = false →
        (t.st i).activity = .lineHold b ∧ (t.st i).drive = [] ∧
        (entry (t.st i)).map (fun e => (e.held, e.holds)) = (entry x).map (fun e => (true, e.holds + 1))) ∧
      (stop → t.jobs = s.jobs.map (fun q => if q.slotAddr = j.slotAddr then { q with stopSeen := true } else q)) ∧
      (¬stop → t.jobs = s.jobs) ∧
      ∀ (m : Mapping) (inB : Bool),
        let buf := if inB then x.bufB else x.bufA
        let other := if inB then x.bufA else x.bufB
        let buf' := if inB then (t.st i).bufB else (t.st i).bufA
        let other' := if inB then (t.st i).bufA else (t.st i).bufB
        x.mapping = some m → buf.state ≠ .free → buf.band = b → ¬stop →
        (other.band = b + 1 → other.state = .full → m.nextBand = b + 2 → b + 2 < bandCount m.lines →
          buf' = m.beginBand (b + 2) ∧ other' = other ∧ (t.st i).mapping = some { m with nextBand := b + 3 } ∧
          ∀ y rows, m.fetchList (b + 2) = y :: rows →
            readRequest (.row i) (addrPlus m.image (y * m.rowPitch)) m.rowLength ∈ t.port.list) ∧
        (other.band = b + 1 → other.state = .full → bandCount m.lines ≤ m.nextBand →
          buf' = .empty ∧ other' = other ∧ (t.st i).mapping = some m) ∧
        (other.band = b + 1 → other.state = .filling →
          buf' = .empty ∧ other' = other ∧ (t.st i).mapping = some m ∧ t.port = s.port)

/-! ## Head calibration (R143 to R148) -/

/-- SETTLE_TIMER_EXPIRY (R144): the settle timer running, the measurement is commanded, and the calibration waits for its
report; a report that comes in another phase changes nothing. -/
def Obligations.SettleBeginsTheMeasurement : Prop :=
  ∀ (s : State) (i : StationId) (f : Calibration), s.settled → (s.st i).state = .calibrating → (s.cal i).flight = some f →
    (f.phase = .settling → (s.st i).settleTimer ≠ none → exec (.settleTimerExpiry i) s = .next
      ((s.updSt i (fun x => { x with settleTimer := none })).updCal i
        (fun c => { c with flight := some { f with phase := .measuring } }))) ∧
    (f.phase ≠ .measuring → ∀ r q, exec (.fullMeasurementReport i r) s = .next s ∧
      exec (.quickMeasurementReport i q) s = .next s)

/-- FULL_MEASUREMENT_REPORT (R145, R146): every emitter's trim and status from its reading, the table valid, h 1024, both frame
counters 0, the marks it answers cleared; at most 256 DEAD, no mark left and nobody waiting, the station is READY and idle with the photometer free; more than 256 DEAD, it is FAULTED HEAD_WORN and ALERT rises. That a
mark set again while the FULL ran is cleared with those it answers is the model's choice (log 31). Each is stated where it leaves the dispatcher nothing more to do: no free station then fits a job of the intake list. -/
def Obligations.FullCompletes : Prop :=
  ∀ (s : State) (i : StationId) (f : Calibration) (readings : List Nat), s.settled →
    (s.st i).state = .calibrating → (s.cal i).flight = some f → f.phase = .measuring → f.kind = .full →
    readings.length = 2048 → s.photometer = some i → s.photometerQueue = [] → s.attached i = none →
    (s.st i).sheet = none → (s.st i).stacked = none → (s.st i).dozeTimer = none → i ∉ s.permitHolders →
    i ∉ s.permitQueue → (∀ r ∈ s.port.list, ofStation i r = false) →
    let dead := (readings.filter (· < 400)).length
    let c := s.cal i
    let c' : CalUnit := {
      trims := readings.map (fun r => if r < 400 then 0 else if r < 500 then 2047 else
        max 512 (min 2047 ((1024000 + min 9999 r / 2) / min 9999 r))),
      statuses := readings.map (fun r => if r < 400 then .dead else if r < 500 then .weak else .ok),
      valid := true, dead := dead, weak := (readings.filter (fun r => decide (400 ≤ r) && decide (r < 500))).length,
      liveSum := ((readings.filter (400 ≤ ·)).map (min 9999)).sum, h := 1024, sinceFull := 0, sinceQuick := 0,
      quickRequired := c.quickRequired && !f.answersQuickRequired, quickDue := c.quickDue && !f.answersQuickDue,
      fullDue := c.fullDue && !f.answersFullDue, flight := none }
    let ready := (({ s with photometer := none } : State).updCal i (fun _ => c')).updSt i (fun x => { x with
      state := .ready, dozeTimer := if s.timing.dozeDelay = 0 then none else some s.timing.dozeDelay })
    (dead ≤ 256 → c'.marked = false → ready.atRest → exec (.fullMeasurementReport i readings) s = .next ready) ∧
    (256 < dead → s.atRest → ∃ t, exec (.fullMeasurementReport i readings) s = .next t ∧ t.cal i = c' ∧
      (t.st i).state = .faulted ∧ (t.st i).cause = .headWorn ∧ t.alertCount = min 255 (s.alertCount + 1) ∧
      t.photometer = none)

/-- QUICK_MEASUREMENT_REPORT (R147, R148) with the photometer's queue empty: q and the head factor h, clamped to 768 to 1280,
a drift beyond them making FULL due; the table and the statuses keep their values, the QUICK counter is 0, the marks it
answers are cleared. That a mark set again while the QUICK ran is cleared with those it answers is the
model's choice (log 31). A sum of 0 keeps h and sets no mark. A station that came from READY returns to it: with no mark left it
is idle, or offers its attached job a load, a job whose return is pending included (R75); with a mark, a drift's FULL due among them, it asks again and is granted the
photometer at once (R75, R139, R141, R143). One that came from SHEET_OPEN goes on with the boundary's decision (R116): a
QUICK made due since its grant is taken first; else the title strip, the next page's entry, or the index frame, a drift's
FULL due staying set. (The READY cases are stated where the dispatcher has nothing more to do.) -/
def Obligations.QuickCompletes : Prop :=
  ∀ (s : State) (i : StationId) (f : Calibration) (r : Nat), s.settled →
    (s.st i).state = .calibrating → (s.cal i).flight = some f → f.phase = .measuring → f.kind = .quick →
    s.photometer = some i → s.photometerQueue = [] → (s.st i).stacked = none → (s.st i).dozeTimer = none →
    let c := s.cal i
    let q := max 1 (min 9999 ((r * 1000 + c.liveSum / 2) / c.liveSum))
    let h := (1024000 + q / 2) / q
    let c' : CalUnit := { c with
      h := if c.liveSum = 0 then c.h else max 768 (min 1280 h),
      sinceQuick := 0,
      quickRequired := c.quickRequired && !f.answersQuickRequired, quickDue := c.quickDue && !f.answersQuickDue,
      fullDue := c.fullDue || (c.liveSum != 0 && (decide (h < 768) || decide (1280 < h))), flight := none }
    let done : State := ({ s with photometer := none } : State).updCal i (fun _ => c')
    let ready (doze : Option Nat) := done.updSt i (fun x => { x with state := .ready, dozeTimer := doze })
    let answers (m : State) : Prop := exec (.quickMeasurementReport i r) s = .next m
    let again (full : Bool) : State := (s.updCal i (fun _ => { c' with flight := some {
        kind := if full then .full else .quick, phase := .moving, answersQuickRequired := c'.quickRequired,
        answersQuickDue := c'.quickDue, answersFullDue := full && c'.fullDue } })).updSt i (fun x => { x with
      activity := .idle, drive := [], driveSaturated := 0, head := .photometer, moveOut := true })
    ((s.st i).sheet = none → c'.marked = false → s.attached i = none →
      let m := ready (if s.timing.dozeDelay = 0 then none else some s.timing.dozeDelay)
      m.atRest → answers m) ∧
    (∀ j, (s.st i).sheet = none → c'.marked = false → s.attached i = some j → j.state = .attached →
      j.ending = none → j.stopSeen = false → s.stopOutstanding i = false → (ready none).atRest →
      answers { ready none with port := s.portWith [readRequest (.decision i) (addrPlus j.slotAddr 0x0C) 4] }) ∧
    ((s.st i).sheet = none → c'.marked = true →
      let m := again (!c'.valid || c'.fullDue)
      m.atRest → answers m) ∧
    ((s.st i).sheet ≠ none → c'.quickDue = true → answers (again (!c'.valid))) ∧
    ∀ (j : Job) (sh : Sheet), s.attached i = some j → (s.st i).sheet = some sh → c'.quickDue = false →
      let goes := j.stopSeen = false ∧ sh.nextPos < j.frames ∧ j.nextPage < j.pageCount
      let opened (x' : Station → Station) : State := done.updSt i (fun x => x' { x with state := .sheetOpen })
      (sh.titleDone = false → answers (opened (fun x => { x with
        activity := .positioning (.title 0), moveOut := true, head := .at 2000, filmY := 2000 }))) ∧
      (sh.titleDone = true → goes → answers { opened (fun x => { x with activity := .entryRead }) with
        port := s.portWith [readRequest (.pageEntry i) (addrPlus j.ticket (0xD0 + 48 * j.nextPage)) 32] }) ∧
      (sh.titleDone = true → ¬goes → answers (opened (fun x => x.indexPositioned j sh)))

/-! ## The memory port (R170 to R173) -/

/-- BUS_GRANT, BUSY_RELEASED and GRANT_WITHDRAWN (R171): a port that asks for the bus is granted it; once it has the grant and
busy is released it begins its tenure with the oldest request, under the WAIT that stands. A parked port loses the bus at a
withdrawal, and one in tenure at the end of the request being served. As the model's choices (log 6): a release of busy that
comes before the grant is remembered for it; a port that has the bus with an empty list parks; one granted and waiting for
busy asks again at a withdrawal; and (log 2) an event the port does not wait for changes nothing. -/
def Obligations.BusArbitration : Prop :=
  ∀ s : State, s.settled →
    let begun : Port := { s.port with
      master := .tenure, busFree := false, grantLost := false, lockedWrite := false, transfer := 0,
      transferWait := s.ctrl.wait }
    let parked : Port := { s.port with
      master := .parked, busFree := false, grantLost := false, lockedWrite := false, transfer := 0 }
    let has (c : Instr) : Prop :=
      (s.port.list ≠ [] → exec c s = .next { s with port := begun }) ∧
      (s.port.list = [] → exec c s = .next { s with port := parked })
    (s.port.master = .requesting → s.port.busFree = false → exec .busGrant s = .next { s with
      port := { s.port with master := .granted } }) ∧
    (s.port.master = .requesting → s.port.busFree = true → has .busGrant) ∧
    (s.port.master ≠ .requesting → exec .busGrant s = .next s) ∧
    (s.port.master = .granted → has .busyReleased) ∧
    ((s.port.master = .idle ∨ s.port.master = .requesting) → exec .busyReleased s = .next { s with
      port := { s.port with busFree := true } }) ∧
    ((s.port.master = .tenure ∨ s.port.master = .parked) → exec .busyReleased s = .next s) ∧
    (s.port.master = .parked → exec .grantWithdrawn s = .next { s with port := { s.port with master := .idle } }) ∧
    (s.port.master = .tenure → exec .grantWithdrawn s = .next { s with port := { s.port with grantLost := true } }) ∧
    (s.port.master = .granted → exec .grantWithdrawn s = .next { s with port := { s.port with master := .requesting } }) ∧
    ((s.port.master = .idle ∨ s.port.master = .requesting) → exec .grantWithdrawn s = .next s)

/-- TRANSFER_TIMEOUT (R172): PORT_ERR is set, the request in service ends and the port goes on with its list, and the channel
does as its own rule says. A slot or a candidate skipped (R38, R40, R41); an unreadable ticket (R42), its staging table
discarded when it is a tone image's (R104); a service's output that goes on (R31); a completion that goes on (R47); a lost DONE (R49). A stop reading taken as 0 (R58, R60, R117, R124), as
that reading's command with a stop word of 0 would do; for a boundary reading the decision follows. A page entry's read fault
(R23): the page is reached and its frame voided VOID_READ, its key spaces, positioned for its void pass. A row's read fault
(R101): its band FAILED, and at band 0 the frame voided before exposure, its permit asked for; at a film held for the band
the frame aborted. (That the frame voided at band 0 keeps its positioning for the void pass, and a station waiting for the
band asks for its permit at once, is the model's inference: DEDUCED, log 18.) The timeout of a withdrawn request's transfer
ends that transfer with no flag set (log 7), and with no transfer on the bus nothing times out (log 2). -/
def Obligations.TimeoutIsAPortError : Prop :=
  (∀ s : State,
    let next (t : State) : Prop := exec .transferTimeout s = .next t
    let err : State := { s with portErr := true }
    (s.port.master ≠ .tenure → next s) ∧
    (∀ r, s.settled → s.port.master = .tenure → s.port.discarding = some r →
      next { s with port := settlePort s.ctrl (afterRequest s.ctrl s.port s.port.list) }) ∧
    (∀ n p k, s.serves .slotRead n → s.pass = some p → p.phase = .slotRead k → k + 1 < p.slots → next { err with
      port := s.portAfter [readRequest .slotRead (slotAddress p.base (k + 1)) 16],
      pass := some { p with phase := .slotRead (k + 1) } }) ∧
    (∀ n p d rest, s.serves .kindPeek n ∨ s.serves .claim n → s.pass = some p → (p.place = false ∨ s.calm) →
      p.candidates = d :: rest → s.intakeCount < 8 → next { err with
        port := s.portAfter [claimRequest d],
        pass := some { p with candidates := rest, current := some d, place := true, phase := .claim } }) ∧
    (∀ n p c, (s.serves .ticketHead n ∨ s.serves .ticketRest n) → s.pass = some p →
      p.current = some c → s.calm → ∃ t, next t ∧ err.ticketEnds t c .ticketUnreadable .none 0) ∧
    (∀ n p c, s.serves .toneImage n → s.pass = some p → p.current = some c → s.calm →
      ∃ t, next t ∧ ({ err with staging := [] } : State).ticketEnds t c .ticketUnreadable .none 0) ∧
    (∀ n p c k w, s.serves .output n → s.calm → s.pass = some p → p.current = some c →
      (∀ w' rest, p.phase = .output (w :: w' :: rest) k → next { err with
        port := s.portAfter [writeRequest .output w'.1 w'.2], pass := some { p with phase := .output (w' :: rest) k } }) ∧
      (p.phase = .output [w] k → ∃ t, next t ∧ err.ticketEnds t c .doneOk .none k)) ∧
    (∀ n w w' rest a ks, s.serves .completionWrite n → s.plan = w :: w' :: rest → s.tasks = .completion a :: ks →
      w.kind = .buffer → w'.kind ≠ .done → next { err with
        port := s.portAfter [writeRequest .completionWrite w'.addr w'.data], plan := w' :: rest }) ∧
    (∀ n a, s.serves .doneWrite n → s.tasks = [.completion a] → s.waiters = [] → next { err with
      lostDone := true, alertCount := min 255 (s.alertCount + 1), port := s.portAfter [],
      held := s.held.filter (fun h => h.addr != a), tasks := [], plan := [],
      jobs := s.jobs.filter (fun j => j.slotAddr != a) })) ∧
  (∀ (s : State) (n : Nat) (i : StationId),
    let as (c : Instr) : Prop := exec .transferTimeout s = exec c { s with portErr := true }
    (s.serves (.decision i) n → as (.loadDecision 0)) ∧ (s.serves (.passEnd i) n → as (.passEndReadingDone 0)) ∧
    (s.serves (.boundary i) n → as (.boundaryReadingDone 0)) ∧ (s.serves (.band i) n → as (.bandReadingDone 0)) ∧
    ∀ j sh, s.serves (.boundary i) n → (s.st i).activity = .boundaryReading → s.attached i = some j →
      (s.st i).sheet = some sh → (s.cal i).quickDue = false → sh.titleDone = true → j.stopSeen = false →
      sh.nextPos < j.frames → j.nextPage < j.pageCount → exec .transferTimeout s = .next { s with
        portErr := true,
        port := s.portAfter [readRequest (.pageEntry i) (addrPlus j.ticket (0xD0 + 48 * j.nextPage)) 32],
        stations := (s.updSt i (fun x => { x with activity := .entryRead })).stations }) ∧
  ∀ (s : State) (n : Nat) (i : StationId),
    let x := s.st i
    let answers (f : Station → Station) (m : State) : Prop := exec .transferTimeout s = .next { m with
      portErr := true, port := s.portAfter [], stations := (s.updSt i f).stations }
    (∀ j sh, s.serves (.pageEntry i) n → s.attached i = some j → x.sheet = some sh →
      answers (fun x => { x with
        activity := .positioning .voidPass, moveOut := true,
        head := .at ((j.layout.left sh.nextPos : Int) - 5 * (sh.offset : Int)), filmY := j.layout.top sh.nextPos,
        sheet := some { sh with nextPos := sh.nextPos + 1, openEntry := some {
          row := (j.layout.position sh.nextPos).1, col := (j.layout.position sh.nextPos).2, page := some j.nextPage,
          key := List.replicate 16 0x20, status := .voidRead, streak := decide (1 ≤ sh.dead), aged := false, held := false,
          saturated := 0, holds := 0 } } })
        { s with jobs := s.jobsWith j.slotAddr (fun k => { k with nextPage := k.nextPage + 1 }) }) ∧
    (s.serves (.row i) n → x.bufA.state = .filling ∨ x.bufB.state = .filling →
      (∀ r ∈ s.port.list.tail, r.purpose ≠ .row i) →
      let band := if x.bufA.state = .filling then x.bufA.band else x.bufB.band
      let failed (x : Station) : Station := if x.bufA.state = .filling
        then { x with bufA := { x.bufA with state := .failed, rows := [] } }
        else { x with bufB := { x.bufB with state := .failed, rows := [] } }
      let voided (x : Station) : Station := { x with
        mapping := none, bufA := .empty, bufB := .empty,
        sheet := x.sheet.map (fun sh => { sh with openEntry := sh.openEntry.map (fun e => { e with status := .voidRead }) }) }
      (band = 0 → x.activity = .positioning .page →
        answers (fun x => { voided x with activity := .positioning .voidPass }) s) ∧
      (band = 0 → x.activity = .bandWait → i ∉ s.permitHolders → i ∉ s.permitQueue →
        (2 ≤ s.permitHolders.length → answers (fun x => { voided x with activity := .permitWait .voidPass })
          { s with permitQueue := s.permitQueue ++ [i] }) ∧
        (s.permitHolders.length < 2 → ∃ t, exec .transferTimeout s = .next t ∧ t = { s with
            portErr := true, port := s.portAfter [], permitHolders := s.permitHolders ++ [i], stations := t.stations } ∧
          (t.st i).state = .exposing ∧ (t.st i).activity = .line .voidPass 0 ∧
          (t.st i).drive = (t.lineDwells i .voidPass 0).1 ∧ (t.st i).mapping = none ∧
          ((t.st i).sheet.bind (·.openEntry)).map (·.status) = ((x.sheet.bind (·.openEntry)).map (fun _ => .voidRead)) ∧
          ∀ q, q ≠ i → t.st q = s.st q)) ∧
      (band ≠ 0 → (∀ k, x.activity = .lineHold k → band ≠ k + 1) → answers failed s) ∧
      (band ≠ 0 → x.activity = .lineHold (band - 1) → answers (fun x => { voided x with
        activity := .returnMove, moveOut := true, drive := [], driveSaturated := 0, bandReading := none }) s))

/-! ## Layout, mapping, window and dwells (R1 to R15, R90 to R98, R107 to R110, R120) -/

/-- A layout that passes the four checks (R1, R2, R5, R7): its sizes are in range; every position lies in the imaging area
below the title strip; no two positions overlap; the head reaches every position with every window; and every entry of the
index has its place in the index frame's text grid. The checks of a fiche ticket in their order (R3, R5, R7, R9, R10, R22,
R42), each with its reason: the page count; the geometry fields' ranges, the product of rows and columns and the multiples
of 5; the four fit conditions; the index capacity; the title fields, when T is not 0; the tone index. A ticket that meets
them all is accepted. Its exposure record (R22, R106, R115): the five clamped fields, and the clamped flag, set when any of
the five was out of range, a line period below 3,991 ns or above 655,350 ns among them. -/
def Obligations.AcceptedLayoutsFit : Prop :=
  (∀ l : Layout, l.check = .none →
    (100 ≤ l.ew ∧ l.ew ≤ 2048 ∧ 100 ≤ l.lines ∧ l.lines ≤ 4000 ∧ 1 ≤ l.frames ∧ l.frames ≤ 383) ∧
    (∀ p, p ≤ l.frames → 2000 ≤ l.left p ∧ l.left p + l.w ≤ 103000 ∧ 2000 + l.t ≤ l.top p ∧ l.top p + l.h ≤ 146000) ∧
    (∀ p q, p < q → q ≤ l.frames → l.left p + l.w ≤ l.left q ∨ l.top p + l.h ≤ l.top q) ∧
    (∀ p o, p ≤ l.frames → o + l.ew ≤ 2048 →
      -7740 ≤ headForFrame (l.left p) o ∧ headForFrame (l.left p) o ≤ 102500) ∧
    ∀ k, k < l.frames → 240 * (k / indexLines l.lines) + 224 ≤ l.ew ∧ 14 * (k % indexLines l.lines) + 14 ≤ l.lines) ∧
  ∀ d : List Byte,
    let pages := field d 0x04 4
    let rows := field d 0x10 1
    let cols := field d 0x11 1
    let mag := field d 0x12 1
    let titleLines := field d 0x13 1
    let w := field d 0x14 4
    let h := field d 0x18 4
    let pitchX := field d 0x1C 4
    let pitchY := field d 0x20 4
    let x0 := field d 0x24 4
    let y0 := field d 0x28 4
    let t := field d 0x2C 4
    let counted : Prop := 1 ≤ pages ∧ pages ≤ 4096
    let ranges : Prop := (1 ≤ rows ∧ rows ≤ 16) ∧ (1 ≤ cols ∧ cols ≤ 24) ∧ 2 ≤ rows * cols ∧
      (500 ≤ w ∧ w ≤ 10240 ∧ w % 5 = 0) ∧ (500 ≤ h ∧ h ≤ 20000 ∧ h % 5 = 0) ∧
      (cols = 1 ∨ (w ≤ pitchX ∧ pitchX % 5 = 0)) ∧ (rows = 1 ∨ (h ≤ pitchY ∧ pitchY % 5 = 0)) ∧ x0 % 5 = 0 ∧ y0 % 5 = 0
    let fits : Prop := 2000 ≤ x0 ∧ x0 + (cols - 1) * pitchX + w ≤ 103000 ∧ 2000 + t ≤ y0 ∧
      y0 + (rows - 1) * pitchY + h ≤ 146000
    let indexed : Prop := rows * cols - 1 ≤ (w / 5 + 16) / 240 * (h / 5 / 14)
    let titled : Prop := t = 0 ∨ ((3000 ≤ t ∧ t ≤ 15000 ∧ t % 5 = 0) ∧ (8 ≤ mag ∧ mag ≤ 40) ∧ titleLines ≤ 3 ∧
      (titleLines + 1) * 14 * mag * 5 ≤ t)
    (¬counted → ficheCheck d = .pageCount) ∧
    (counted → ¬ranges → ficheCheck d = .layoutFit) ∧
    (counted → ranges → ¬fits → ficheCheck d = .layoutFit) ∧
    (counted → ranges → fits → ¬indexed → ficheCheck d = .layoutIndex) ∧
    (counted → ranges → fits → indexed → ¬titled → ficheCheck d = .titleFit) ∧
    (counted → ranges → fits → indexed → titled → 3 < field d 0xC2 1 → ficheCheck d = .toneIndex) ∧
    (counted → ranges → fits → indexed → titled → field d 0xC2 1 ≤ 3 → ficheCheck d = .none) ∧
    (let e := (readExposure d).1
     e.stock = field d 0xC0 2 ∧ e.tone = field d 0xC2 1 ∧ e.allowance = min 7 (field d 0xC3 1) ∧
     e.gain = max 1 (min 1023 (field d 0xC4 2)) ∧ e.textLevel = min 1023 (field d 0xC6 2) ∧
     e.lineTicks = max 400 (min 65535 ((field d 0xC8 4 + 9) / 10)) ∧ e.margin = min 255 (field d 0xCC 2) ∧
     ((readExposure d).2 = true ↔ 7 < field d 0xC3 1 ∨ field d 0xC4 2 < 1 ∨ 1023 < field d 0xC4 2 ∨
       1023 < field d 0xC6 2 ∨ field d 0xC8 4 < 3991 ∨ 655350 < field d 0xC8 4 ∨ 255 < field d 0xCC 2))

/-- The step and the used area of a frame (R90, R91): the two ceilings and the floor of 16,384; the centred used area, which
never exceeds the frame; and every sample of it inside the image, its product exact in 32 bits. The step depends on the
image's size and rotation alone. -/
def Obligations.StepAndUsedArea : Prop :=
  ∀ (page : Nat) (e : PageEntry) (ew lines margin : Nat), e.good = true → 100 ≤ ew → ew ≤ 2048 → 100 ≤ lines →
    lines ≤ 4000 →
    let fw := if e.rotation = 90 then e.height else e.width
    let fh := if e.rotation = 90 then e.width else e.height
    let m := makeMapping page e ew lines margin
    m.step = max 16384 (max ((fw * 65536 + ew - 1) / ew) ((fh * 65536 + lines - 1) / lines)) ∧ m.step ≤ 10737419 ∧
    (fh = 16384 → lines = 100 → m.step = 10737419) ∧
    ((fw * 65536 + ew - 1) / ew ≤ 16384 → (fh * 65536 + lines - 1) / lines ≤ 16384 →
      m.step = 16384 ∧ m.uw = 4 * fw ∧ m.uh = 4 * fh) ∧
    m.uw = fw * 65536 / m.step ∧ m.uh = fh * 65536 / m.step ∧ m.left = (ew - m.uw) / 2 ∧ m.top = (lines - m.uh) / 2 ∧
    m.uw ≤ ew ∧ m.uh ≤ lines ∧ m.uw ≤ 4 * fw ∧ m.uh ≤ 4 * fh ∧
    (∀ i j, m.used i j = true ↔ m.left ≤ i ∧ i ≤ m.left + m.uw - 1 ∧ 0 < m.uw ∧ m.top ≤ j ∧ j ≤ m.top + m.uh - 1 ∧ 0 < m.uh) ∧
    (ew - (m.left + m.uw) = m.left ∨ ew - (m.left + m.uw) = m.left + 1) ∧
    (lines - (m.top + m.uh) = m.top ∨ lines - (m.top + m.uh) = m.top + 1) ∧
    (∀ k, k < m.uw → k * m.step ≤ fw * 65536 - m.step ∧ k * m.step / 65536 ≤ fw - 1 ∧ k * m.step < 2 ^ 30) ∧
    (∀ k, k < m.uh → k * m.step ≤ fh * 65536 - m.step ∧ k * m.step / 65536 ≤ fh - 1 ∧ k * m.step < 2 ^ 30) ∧
    ∀ (page' : Nat) (e' : PageEntry) (margin' : Nat), e'.width = e.width → e'.height = e.height →
      e'.rotation = e.rotation → (makeMapping page' e' ew lines margin').step = m.step

/-- The fetch lists (R96, R97): with rotation 0, the distinct source rows the band's used lines sample, ascending, and none
when the used area is empty; with rotation 90, the distinct source rows the frame's dots sample, ascending, for a band with a
used line, and none for any other. -/
def Obligations.FetchLists : Prop :=
  ∀ (page : Nat) (e : PageEntry) (ew lines margin b : Nat), e.good = true → 100 ≤ ew → ew ≤ 2048 → 100 ≤ lines →
    lines ≤ 4000 →
    let m := makeMapping page e ew lines margin
    let usedLine (j : Nat) : Prop :=
      64 * b ≤ j ∧ j ≤ 64 * b + 63 ∧ j < lines ∧ m.top ≤ j ∧ j < m.top + m.uh
    (m.fetchList b).Pairwise (· < ·) ∧
    (e.rotation = 0 → ∀ y, y ∈ m.fetchList b ↔ 0 < m.uw ∧ ∃ j, usedLine j ∧ y = (j - m.top) * m.step / 65536) ∧
    (e.rotation = 90 → ∀ y, y ∈ m.fetchList b ↔
      (∃ j, usedLine j) ∧ ∃ k, k < m.uw ∧ y = e.height - 1 - k * m.step / 65536) ∧
    (m.columnList b).Pairwise (· < ·) ∧
    ∀ x, x ∈ m.columnList b ↔ ∃ j, usedLine j ∧ x = (j - m.top) * m.step / 65536

/-- A band's composition (R93, R94, R95, R98): when every row of its fetch list has been fetched, dot column i of line j holds
the value of the source pixel that R93, or for a rotated page R94, names, and the margin value outside the used area. The
source pixel lies inside the image, and its value is that of its row's bytes (R25): for GRAY8 the byte at its column; for MONO1
255 for a bit of 1 and 0 for a bit of 0, the leftmost of a byte's eight pixels in its most significant bit. -/
def Obligations.BandsAreComposed : Prop :=
  ∀ (page : Nat) (e : PageEntry) (ew lines margin b : Nat) (rowData : Nat → List Byte), e.good = true → 100 ≤ ew →
    ew ≤ 2048 → 100 ≤ lines → lines ≤ 4000 →
    let m := makeMapping page e ew lines margin
    let dots := (m.fetchList b).foldl (fun d y => m.writeRow b y (rowData y) d) (m.beginBand b).dots
    let sample (k : Nat) := k * m.step / 65536
    let value (row : List Byte) (x : Nat) : Nat :=
      if e.format = 2 then (if (row.getD (x / 8) 0).toNat / 2 ^ (7 - x % 8) % 2 = 1 then 255 else 0)
      else (row.getD x 0).toNat
    ∀ i j, i < ew → 64 * b ≤ j → j ≤ 64 * b + 63 → j < lines →
      let x := if e.rotation = 90 then sample (j - m.top) else sample (i - m.left)
      let y := if e.rotation = 90 then e.height - 1 - sample (i - m.left) else sample (j - m.top)
      let inside : Prop := m.left ≤ i ∧ i < m.left + m.uw ∧ m.top ≤ j ∧ j < m.top + m.uh
      (inside → x < e.width ∧ y < e.height ∧
        (dots[j - 64 * b]?.bind (·[i]?)) = some (value (rowData y) x)) ∧
      (¬inside → (dots[j - 64 * b]?.bind (·[i]?)) = some margin)

/-- The head window (R120, R54): of all offsets whose window lies on the head, the one with the fewest DEAD emitters, among
those the nearest to the centre offset, and among equally near ones the smaller; with it, its DEAD count. -/
def Obligations.HeadWindowIsTheBest : Prop :=
  ∀ (st : List EmitterStatus) (ew : Nat), st.length = 2048 → 1 ≤ ew → ew ≤ 2048 →
    let dead (o : Nat) := ((st.drop o).take ew).count .dead
    let far (o : Nat) := max o ((2048 - ew) / 2) - min o ((2048 - ew) / 2)
    let w := chooseWindow st ew
    w.1 + ew ≤ 2048 ∧ w.2 = dead w.1 ∧
    ∀ o, o + ew ≤ 2048 → dead w.1 < dead o ∨
      (dead w.1 = dead o ∧ (far w.1 < far o ∨ (far w.1 = far o ∧ w.1 ≤ o)))

/-- The dots of a text, and the stages of a dwell. The dots (R11, R122, R128, R129, R130): a character code sets the dots of its
glyph, in cell columns 1 to 5 and rows 2 to 8, and a code with none all 96 of its cell; at magnification m each is m by m. A
strip dot is a text dot when it lies so in a character of a text line, the host lines and then the tag line SHEET nn/mm SERIAL
with ten digits, laid out from the strip's own formulas. A dot of the index frame is one when it lies so in the entry printed
at its text column and line: R and C with two digits each, the key, and the status word. The stages (R107 to R110): the
correction for the film, for the emitter's trim under the head factor, and for the job's gain, each rounded; the ranges they
reach; and the dwell driven, which is 0, 4 for a raw dwell of 1 to 3, the raw dwell up to line_ticks − 40, and that longest
dwell above it, where alone the dot saturates. -/
def Obligations.DwellStages : Prop :=
  (
    let glyphs : List (Nat × List Nat) := [
      (0x20, [0x00, 0x00, 0x00, 0x00, 0x00, 0x00, 0x00]), (0x30, [0x0E, 0x11, 0x13, 0x15, 0x19, 0x11, 0x0E]),
      (0x31, [0x04, 0x0C, 0x04, 0x04, 0x04, 0x04, 0x0E]), (0x32, [0x0E, 0x11, 0x01, 0x02, 0x04, 0x08, 0x1F]),
      (0x33, [0x1F, 0x02, 0x04, 0x02, 0x01, 0x11, 0x0E]), (0x34, [0x02, 0x06, 0x0A, 0x12, 0x1F, 0x02, 0x02]),
      (0x35, [0x1F, 0x10, 0x1E, 0x01, 0x01, 0x11, 0x0E]), (0x36, [0x06, 0x08, 0x10, 0x1E, 0x11, 0x11, 0x0E]),
      (0x37, [0x1F, 0x01, 0x02, 0x04, 0x08, 0x08, 0x08]), (0x38, [0x0E, 0x11, 0x11, 0x0E, 0x11, 0x11, 0x0E]),
      (0x39, [0x0E, 0x11, 0x11, 0x0F, 0x01, 0x02, 0x0C]), (0x41, [0x0E, 0x11, 0x11, 0x11, 0x1F, 0x11, 0x11]),
      (0x42, [0x1E, 0x11, 0x11, 0x1E, 0x11, 0x11, 0x1E]), (0x43, [0x0E, 0x11, 0x10, 0x10, 0x10, 0x11, 0x0E]),
      (0x44, [0x1C, 0x12, 0x11, 0x11, 0x11, 0x12, 0x1C]), (0x45, [0x1F, 0x10, 0x10, 0x1E, 0x10, 0x10, 0x1F]),
      (0x46, [0x1F, 0x10, 0x10, 0x1E, 0x10, 0x10, 0x10]), (0x47, [0x0E, 0x11, 0x10, 0x17, 0x11, 0x11, 0x0F]),
      (0x48, [0x11, 0x11, 0x11, 0x1F, 0x11, 0x11, 0x11]), (0x49, [0x0E, 0x04, 0x04, 0x04, 0x04, 0x04, 0x0E]),
      (0x4A, [0x07, 0x02, 0x02, 0x02, 0x02, 0x12, 0x0C]), (0x4B, [0x11, 0x12, 0x14, 0x18, 0x14, 0x12, 0x11]),
      (0x4C, [0x10, 0x10, 0x10, 0x10, 0x10, 0x10, 0x1F]), (0x4D, [0x11, 0x1B, 0x15, 0x15, 0x11, 0x11, 0x11]),
      (0x4E, [0x11, 0x11, 0x19, 0x15, 0x13, 0x11, 0x11]), (0x4F, [0x0E, 0x11, 0x11, 0x11, 0x11, 0x11, 0x0E]),
      (0x50, [0x1E, 0x11, 0x11, 0x1E, 0x10, 0x10, 0x10]), (0x51, [0x0E, 0x11, 0x11, 0x11, 0x15, 0x12, 0x0D]),
      (0x52, [0x1E, 0x11, 0x11, 0x1E, 0x14, 0x12, 0x11]), (0x53, [0x0F, 0x10, 0x10, 0x0E, 0x01, 0x01, 0x1E]),
      (0x54, [0x1F, 0x04, 0x04, 0x04, 0x04, 0x04, 0x04]), (0x55, [0x11, 0x11, 0x11, 0x11, 0x11, 0x11, 0x0E]),
      (0x56, [0x11, 0x11, 0x11, 0x11, 0x11, 0x0A, 0x04]), (0x57, [0x11, 0x11, 0x11, 0x15, 0x15, 0x15, 0x0A]),
      (0x58, [0x11, 0x11, 0x0A, 0x04, 0x0A, 0x11, 0x11]), (0x59, [0x11, 0x11, 0x11, 0x0A, 0x04, 0x04, 0x04]),
      (0x5A, [0x1F, 0x01, 0x02, 0x04, 0x08, 0x10, 0x1F]), (0x23, [0x0A, 0x0A, 0x1F, 0x0A, 0x1F, 0x0A, 0x0A]),
      (0x26, [0x0C, 0x12, 0x14, 0x08, 0x15, 0x12, 0x0D]), (0x27, [0x0C, 0x04, 0x08, 0x00, 0x00, 0x00, 0x00]),
      (0x28, [0x02, 0x04, 0x08, 0x08, 0x08, 0x04, 0x02]), (0x29, [0x08, 0x04, 0x02, 0x02, 0x02, 0x04, 0x08]),
      (0x2B, [0x00, 0x04, 0x04, 0x1F, 0x04, 0x04, 0x00]), (0x2C, [0x00, 0x00, 0x00, 0x00, 0x0C, 0x04, 0x08]),
      (0x2D, [0x00, 0x00, 0x00, 0x1F, 0x00, 0x00, 0x00]), (0x2E, [0x00, 0x00, 0x00, 0x00, 0x00, 0x0C, 0x0C]),
      (0x2F, [0x00, 0x01, 0x02, 0x04, 0x08, 0x10, 0x00]), (0x3A, [0x00, 0x0C, 0x0C, 0x00, 0x0C, 0x0C, 0x00])]
    let set (code col row : Nat) : Prop := match glyphs.lookup code with
      | some rows => 1 ≤ col ∧ col ≤ 5 ∧ 2 ≤ row ∧ row ≤ 8 ∧ rows.getD (row - 2) 0 / 2 ^ (5 - col) % 2 = 1
      | none => True
    let dotAt (m : Nat) (codes : List Byte) (left top x y : Nat) : Prop := ∃ q code, codes[q]? = some code ∧
      left + 8 * m * q ≤ x ∧ x < left + 8 * m * q + 8 * m ∧ top ≤ y ∧ y < top + 12 * m ∧
      set code.toNat ((x - (left + 8 * m * q)) / m) ((y - top) / m)
    let chars (l : List Char) : List Byte := l.map (fun c => BitVec.ofNat 8 c.toNat)
    let decimal (n v : Nat) : List Byte := (List.range n).map (fun k => BitVec.ofNat 8 (48 + v / 10 ^ (n - 1 - k) % 10))
    (∀ (l : Layout) (sh : Sheet) (x y : Nat), let m := l.titleMag
      let tag := chars ['S', 'H', 'E', 'E', 'T', ' '] ++ decimal 2 (sh.index + 1) ++ chars ['/'] ++
        decimal 2 (min 99 sh.planned) ++ chars [' ', 'S', 'E', 'R', 'I', 'A', 'L', ' '] ++ decimal 10 sh.serial.toNat
      let top := (l.t / 5 - (l.titleLines + 1) * (14 * m)) / 2
      let left := (20200 - 384 * m) / 2
      1 ≤ m → (titleDot l sh x y = true ↔ ∃ n, n ≤ l.titleLines ∧
        dotAt m (if n < l.titleLines then (l.title.drop (48 * n)).take 48 else tag) left (top + 14 * m * n) x y)) ∧
    ∀ (map : List FrameEntry) (lines x y : Nat), 14 ≤ lines → (∀ e ∈ map, e.key.length = 16) →
      let perColumn := lines / 14
      let word (e : FrameEntry) : List Char :=
        if e.status ≠ .ok then ['V', 'O', 'I', 'D']
        else if e.streak then (if e.aged then ['S', '+', 'A', 'G'] else ['S', 'T', 'R', 'K'])
        else if e.aged then ['A', 'G', 'E', 'D'] else ['O', 'K', ' ', ' ']
      (indexDot map lines x y = true ↔ ∃ n e, map[n]? = some e ∧
        dotAt 1 (chars ['R'] ++ decimal 2 e.row ++ chars ['C'] ++ decimal 2 e.col ++ chars [' '] ++ e.key ++ chars [' '] ++
          chars (word e)) (240 * (n / perColumn)) (14 * (n % perColumn)) x y)) ∧
  (∀ e s, filmStage e s = (e * 1024 + s / 2) / s) ∧ (∀ c h, effectiveTrim c h = min 2047 ((c * h + 512) / 1024)) ∧
  (∀ ef ceff, trimStage ef ceff = (ef * ceff + 512) / 1024) ∧ (∀ et g, gainStage et g = (et * g + 128) / 256) ∧
  (∀ e s c h g, rawDwell e s c h g = gainStage (trimStage (filmStage e s) (effectiveTrim c h)) g) ∧
  (∀ et, gainStage et 256 = et) ∧ gainStage 8180 1023 = 32688 ∧
  ∀ e s c h g ticks : Nat, e ≤ 1023 → 256 ≤ s → s ≤ 4096 → (c = 0 ∨ (512 ≤ c ∧ c ≤ 2047)) → 768 ≤ h → h ≤ 1280 → 1 ≤ g →
    g ≤ 1023 → 400 ≤ ticks → ticks ≤ 65535 →
    let raw := rawDwell e s c h g
    let d := drivenDwell raw (dMax ticks)
    filmStage e s ≤ 4092 ∧ (s = 1024 → filmStage e s = e) ∧ effectiveTrim c h ≤ 2047 ∧ (c = 0 → effectiveTrim c h = 0) ∧
    (c ≠ 0 → 384 ≤ effectiveTrim c h) ∧
    trimStage (filmStage e s) (effectiveTrim c h) ≤ 8180 ∧ raw ≤ 32688 ∧
    dMax ticks = ticks - 40 ∧
    d = (if raw = 0 then 0 else if raw ≤ 3 then 4 else if raw ≤ ticks - 40 then raw else ticks - 40) ∧
    (d = 0 ↔ raw = 0) ∧ (d ≠ 0 → 4 ≤ d ∧ d ≤ ticks - 40) ∧
    (saturates raw (dMax ticks) = true ↔ ticks - 40 < raw) ∧ (32728 ≤ ticks → saturates raw (dMax ticks) = false)

/-- The request list and the word transfers (R170, R172): the requests made at an event join the list's tail, each of them once;
a request is carried out over the aligned words that cover its bytes, in ascending order, and a write drives the lanes of
exactly its bytes. -/
def Obligations.RequestsJoinAndTransfer : Prop :=
  (∀ s t : State, s.done = .next t →
    ∃ l, l.Perm s.port.arriving ∧ t.port.list = s.port.list ++ l ∧ t.port.arriving = []) ∧
  ∀ r : Request, 1 ≤ r.len →
    let first := r.addr.toNat % 4
    r.transfers.length = (first + r.len + 3) / 4 ∧
    ∀ (k : Nat) (x : Transfer), r.transfers[k]? = some x →
      x.addr.toNat % 4 = 0 ∧ x.addr.toNat = (r.addr.toNat - first + 4 * k) % 2 ^ 32 ∧ x.lanes.length = 4 ∧
      (∀ b, b < 4 → x.lanes[b]? = some (decide (first ≤ 4 * k + b ∧ 4 * k + b < first + r.len))) ∧ true ∈ x.lanes
end

