-- ==== Sys2Proof/Laws/State.lean ====
section
/-! SUPPORT. One lemma for each field and each update of State that the model names: what the update leaves as it was,
and what it makes of the field it changes. With them no proof unfolds a record update. -/

namespace Sys2Proof.Machine

/-! ## Four stations -/

@[simp] theorem PerStation.get_set_same {α : Type} (p : PerStation α) (i : StationId) (a : α) :
    (p.set i a).get i = a := by cases i <;> rfl
theorem PerStation.get_set_other {α : Type} (p : PerStation α) {i k : StationId} (a : α) (h : k ≠ i) :
    (p.set i a).get k = p.get k := by cases i <;> cases k <;> first | rfl | exact absurd rfl h
@[simp] theorem PerStation.get_upd_same {α : Type} (p : PerStation α) (i : StationId) (f : α → α) :
    (p.upd i f).get i = f (p.get i) := PerStation.get_set_same p i _
theorem PerStation.get_upd_other {α : Type} (p : PerStation α) {i k : StationId} (f : α → α) (h : k ≠ i) :
    (p.upd i f).get k = p.get k := PerStation.get_set_other p _ h
theorem PerStation.ext_get {α : Type} {p q : PerStation α} (h : ∀ i, p.get i = q.get i) : p = q := by
  cases p; cases q
  have h0 := h .s0; have h1 := h .s1; have h2 := h .s2; have h3 := h .s3
  simp only [PerStation.get] at h0 h1 h2 h3
  subst h0 h1 h2 h3; rfl
theorem PerStation.get_upd {α : Type} (p : PerStation α) (i k : StationId) (f : α → α) :
    (p.upd i f).get k = if k = i then f (p.get k) else p.get k := by
  by_cases h : k = i
  · subst h; simp
  · simp [h, PerStation.get_upd_other p f h]

/-! ## Stations and calibration sets -/

@[simp] theorem State.st_updSt_same (s : State) (i : StationId) (f : Station → Station) :
    (s.updSt i f).st i = f (s.st i) := PerStation.get_upd_same _ _ _
theorem State.st_updSt_other (s : State) {i k : StationId} (f : Station → Station) (h : k ≠ i) :
    (s.updSt i f).st k = s.st k := PerStation.get_upd_other _ _ h
theorem State.st_updSt (s : State) (i k : StationId) (f : Station → Station) :
    (s.updSt i f).st k = if k = i then f (s.st k) else s.st k := PerStation.get_upd _ _ _ _
@[simp] theorem State.cal_updCal_same (s : State) (i : StationId) (f : CalUnit → CalUnit) :
    (s.updCal i f).cal i = f (s.cal i) := PerStation.get_upd_same _ _ _
theorem State.cal_updCal_other (s : State) {i k : StationId} (f : CalUnit → CalUnit) (h : k ≠ i) :
    (s.updCal i f).cal k = s.cal k := PerStation.get_upd_other _ _ h
theorem State.cal_updCal (s : State) (i k : StationId) (f : CalUnit → CalUnit) :
    (s.updCal i f).cal k = if k = i then f (s.cal k) else s.cal k := PerStation.get_upd _ _ _ _
@[simp] theorem State.cal_updSt (s : State) (i k : StationId) (f : Station → Station) :
    (s.updSt i f).cal k = s.cal k := rfl
@[simp] theorem State.st_updCal (s : State) (i k : StationId) (f : CalUnit → CalUnit) :
    (s.updCal i f).st k = s.st k := rfl
@[simp] theorem State.st_updJob (s : State) (a : Addr) (f : Job → Job) (k : StationId) :
    (s.updJob a f).st k = s.st k := rfl
@[simp] theorem State.cal_updJob (s : State) (a : Addr) (f : Job → Job) (k : StationId) :
    (s.updJob a f).cal k = s.cal k := rfl
@[simp] theorem State.attached_updSt (s : State) (i k : StationId) (f : Station → Station) :
    (s.updSt i f).attached k = s.attached k := rfl
@[simp] theorem State.attached_updCal (s : State) (i k : StationId) (f : CalUnit → CalUnit) :
    (s.updCal i f).attached k = s.attached k := rfl

/-! ## Fields -/


/-! ### State.updSt -/

@[simp] theorem State.updSt_ctrl (s : State) (i : StationId) (f : Station → Station) : (s.updSt i f).ctrl = s.ctrl := rfl
@[simp] theorem State.updSt_portErr (s : State) (i : StationId) (f : Station → Station) : (s.updSt i f).portErr = s.portErr := rfl
@[simp] theorem State.updSt_lostDone (s : State) (i : StationId) (f : Station → Station) : (s.updSt i f).lostDone = s.lostDone := rfl
@[simp] theorem State.updSt_brdBase (s : State) (i : StationId) (f : Station → Station) : (s.updSt i f).brdBase = s.brdBase := rfl
@[simp] theorem State.updSt_brdSlots (s : State) (i : StationId) (f : Station → Station) : (s.updSt i f).brdSlots = s.brdSlots := rfl
@[simp] theorem State.updSt_scanIvl (s : State) (i : StationId) (f : Station → Station) : (s.updSt i f).scanIvl = s.scanIvl := rfl
@[simp] theorem State.updSt_doneCount (s : State) (i : StationId) (f : Station → Station) : (s.updSt i f).doneCount = s.doneCount := rfl
@[simp] theorem State.updSt_alertCount (s : State) (i : StationId) (f : Station → Station) : (s.updSt i f).alertCount = s.alertCount := rfl
@[simp] theorem State.updSt_readData (s : State) (i : StationId) (f : Station → Station) : (s.updSt i f).readData = s.readData := rfl
@[simp] theorem State.updSt_port (s : State) (i : StationId) (f : Station → Station) : (s.updSt i f).port = s.port := rfl
@[simp] theorem State.updSt_scanTimer (s : State) (i : StationId) (f : Station → Station) : (s.updSt i f).scanTimer = s.scanTimer := rfl
@[simp] theorem State.updSt_passPending (s : State) (i : StationId) (f : Station → Station) : (s.updSt i f).passPending = s.passPending := rfl
@[simp] theorem State.updSt_pass (s : State) (i : StationId) (f : Station → Station) : (s.updSt i f).pass = s.pass := rfl
@[simp] theorem State.updSt_held (s : State) (i : StationId) (f : Station → Station) : (s.updSt i f).held = s.held := rfl
@[simp] theorem State.updSt_tasks (s : State) (i : StationId) (f : Station → Station) : (s.updSt i f).tasks = s.tasks := rfl
@[simp] theorem State.updSt_waiters (s : State) (i : StationId) (f : Station → Station) : (s.updSt i f).waiters = s.waiters := rfl
@[simp] theorem State.updSt_plan (s : State) (i : StationId) (f : Station → Station) : (s.updSt i f).plan = s.plan := rfl
@[simp] theorem State.updSt_jobs (s : State) (i : StationId) (f : Station → Station) : (s.updSt i f).jobs = s.jobs := rfl
@[simp] theorem State.updSt_endQueue (s : State) (i : StationId) (f : Station → Station) : (s.updSt i f).endQueue = s.endQueue := rfl
@[simp] theorem State.updSt_serial (s : State) (i : StationId) (f : Station → Station) : (s.updSt i f).serial = s.serial := rfl
@[simp] theorem State.updSt_timing (s : State) (i : StationId) (f : Station → Station) : (s.updSt i f).timing = s.timing := rfl
@[simp] theorem State.updSt_tones (s : State) (i : StationId) (f : Station → Station) : (s.updSt i f).tones = s.tones := rfl
@[simp] theorem State.updSt_staging (s : State) (i : StationId) (f : Station → Station) : (s.updSt i f).staging = s.staging := rfl
@[simp] theorem State.updSt_cals (s : State) (i : StationId) (f : Station → Station) : (s.updSt i f).cals = s.cals := rfl
@[simp] theorem State.updSt_permitHolders (s : State) (i : StationId) (f : Station → Station) : (s.updSt i f).permitHolders = s.permitHolders := rfl
@[simp] theorem State.updSt_permitQueue (s : State) (i : StationId) (f : Station → Station) : (s.updSt i f).permitQueue = s.permitQueue := rfl
@[simp] theorem State.updSt_photometer (s : State) (i : StationId) (f : Station → Station) : (s.updSt i f).photometer = s.photometer := rfl
@[simp] theorem State.updSt_photometerQueue (s : State) (i : StationId) (f : Station → Station) : (s.updSt i f).photometerQueue = s.photometerQueue := rfl
@[simp] theorem State.updSt_choices (s : State) (i : StationId) (f : Station → Station) : (s.updSt i f).choices = s.choices := rfl
@[simp] theorem State.updSt_pending (s : State) (i : StationId) (f : Station → Station) : (s.updSt i f).pending = s.pending := rfl

/-! ### State.updCal -/

@[simp] theorem State.updCal_ctrl (s : State) (i : StationId) (f : CalUnit → CalUnit) : (s.updCal i f).ctrl = s.ctrl := rfl
@[simp] theorem State.updCal_portErr (s : State) (i : StationId) (f : CalUnit → CalUnit) : (s.updCal i f).portErr = s.portErr := rfl
@[simp] theorem State.updCal_lostDone (s : State) (i : StationId) (f : CalUnit → CalUnit) : (s.updCal i f).lostDone = s.lostDone := rfl
@[simp] theorem State.updCal_brdBase (s : State) (i : StationId) (f : CalUnit → CalUnit) : (s.updCal i f).brdBase = s.brdBase := rfl
@[simp] theorem State.updCal_brdSlots (s : State) (i : StationId) (f : CalUnit → CalUnit) : (s.updCal i f).brdSlots = s.brdSlots := rfl
@[simp] theorem State.updCal_scanIvl (s : State) (i : StationId) (f : CalUnit → CalUnit) : (s.updCal i f).scanIvl = s.scanIvl := rfl
@[simp] theorem State.updCal_doneCount (s : State) (i : StationId) (f : CalUnit → CalUnit) : (s.updCal i f).doneCount = s.doneCount := rfl
@[simp] theorem State.updCal_alertCount (s : State) (i : StationId) (f : CalUnit → CalUnit) : (s.updCal i f).alertCount = s.alertCount := rfl
@[simp] theorem State.updCal_readData (s : State) (i : StationId) (f : CalUnit → CalUnit) : (s.updCal i f).readData = s.readData := rfl
@[simp] theorem State.updCal_port (s : State) (i : StationId) (f : CalUnit → CalUnit) : (s.updCal i f).port = s.port := rfl
@[simp] theorem State.updCal_scanTimer (s : State) (i : StationId) (f : CalUnit → CalUnit) : (s.updCal i f).scanTimer = s.scanTimer := rfl
@[simp] theorem State.updCal_passPending (s : State) (i : StationId) (f : CalUnit → CalUnit) : (s.updCal i f).passPending = s.passPending := rfl
@[simp] theorem State.updCal_pass (s : State) (i : StationId) (f : CalUnit → CalUnit) : (s.updCal i f).pass = s.pass := rfl
@[simp] theorem State.updCal_held (s : State) (i : StationId) (f : CalUnit → CalUnit) : (s.updCal i f).held = s.held := rfl
@[simp] theorem State.updCal_tasks (s : State) (i : StationId) (f : CalUnit → CalUnit) : (s.updCal i f).tasks = s.tasks := rfl
@[simp] theorem State.updCal_waiters (s : State) (i : StationId) (f : CalUnit → CalUnit) : (s.updCal i f).waiters = s.waiters := rfl
@[simp] theorem State.updCal_plan (s : State) (i : StationId) (f : CalUnit → CalUnit) : (s.updCal i f).plan = s.plan := rfl
@[simp] theorem State.updCal_jobs (s : State) (i : StationId) (f : CalUnit → CalUnit) : (s.updCal i f).jobs = s.jobs := rfl
@[simp] theorem State.updCal_endQueue (s : State) (i : StationId) (f : CalUnit → CalUnit) : (s.updCal i f).endQueue = s.endQueue := rfl
@[simp] theorem State.updCal_serial (s : State) (i : StationId) (f : CalUnit → CalUnit) : (s.updCal i f).serial = s.serial := rfl
@[simp] theorem State.updCal_timing (s : State) (i : StationId) (f : CalUnit → CalUnit) : (s.updCal i f).timing = s.timing := rfl
@[simp] theorem State.updCal_tones (s : State) (i : StationId) (f : CalUnit → CalUnit) : (s.updCal i f).tones = s.tones := rfl
@[simp] theorem State.updCal_staging (s : State) (i : StationId) (f : CalUnit → CalUnit) : (s.updCal i f).staging = s.staging := rfl
@[simp] theorem State.updCal_stations (s : State) (i : StationId) (f : CalUnit → CalUnit) : (s.updCal i f).stations = s.stations := rfl
@[simp] theorem State.updCal_permitHolders (s : State) (i : StationId) (f : CalUnit → CalUnit) : (s.updCal i f).permitHolders = s.permitHolders := rfl
@[simp] theorem State.updCal_permitQueue (s : State) (i : StationId) (f : CalUnit → CalUnit) : (s.updCal i f).permitQueue = s.permitQueue := rfl
@[simp] theorem State.updCal_photometer (s : State) (i : StationId) (f : CalUnit → CalUnit) : (s.updCal i f).photometer = s.photometer := rfl
@[simp] theorem State.updCal_photometerQueue (s : State) (i : StationId) (f : CalUnit → CalUnit) : (s.updCal i f).photometerQueue = s.photometerQueue := rfl
@[simp] theorem State.updCal_choices (s : State) (i : StationId) (f : CalUnit → CalUnit) : (s.updCal i f).choices = s.choices := rfl
@[simp] theorem State.updCal_pending (s : State) (i : StationId) (f : CalUnit → CalUnit) : (s.updCal i f).pending = s.pending := rfl

/-! ### State.updJob -/

@[simp] theorem State.updJob_ctrl (s : State) (a : Addr) (f : Job → Job) : (s.updJob a f).ctrl = s.ctrl := rfl
@[simp] theorem State.updJob_portErr (s : State) (a : Addr) (f : Job → Job) : (s.updJob a f).portErr = s.portErr := rfl
@[simp] theorem State.updJob_lostDone (s : State) (a : Addr) (f : Job → Job) : (s.updJob a f).lostDone = s.lostDone := rfl
@[simp] theorem State.updJob_brdBase (s : State) (a : Addr) (f : Job → Job) : (s.updJob a f).brdBase = s.brdBase := rfl
@[simp] theorem State.updJob_brdSlots (s : State) (a : Addr) (f : Job → Job) : (s.updJob a f).brdSlots = s.brdSlots := rfl
@[simp] theorem State.updJob_scanIvl (s : State) (a : Addr) (f : Job → Job) : (s.updJob a f).scanIvl = s.scanIvl := rfl
@[simp] theorem State.updJob_doneCount (s : State) (a : Addr) (f : Job → Job) : (s.updJob a f).doneCount = s.doneCount := rfl
@[simp] theorem State.updJob_alertCount (s : State) (a : Addr) (f : Job → Job) : (s.updJob a f).alertCount = s.alertCount := rfl
@[simp] theorem State.updJob_readData (s : State) (a : Addr) (f : Job → Job) : (s.updJob a f).readData = s.readData := rfl
@[simp] theorem State.updJob_port (s : State) (a : Addr) (f : Job → Job) : (s.updJob a f).port = s.port := rfl
@[simp] theorem State.updJob_scanTimer (s : State) (a : Addr) (f : Job → Job) : (s.updJob a f).scanTimer = s.scanTimer := rfl
@[simp] theorem State.updJob_passPending (s : State) (a : Addr) (f : Job → Job) : (s.updJob a f).passPending = s.passPending := rfl
@[simp] theorem State.updJob_pass (s : State) (a : Addr) (f : Job → Job) : (s.updJob a f).pass = s.pass := rfl
@[simp] theorem State.updJob_held (s : State) (a : Addr) (f : Job → Job) : (s.updJob a f).held = s.held := rfl
@[simp] theorem State.updJob_tasks (s : State) (a : Addr) (f : Job → Job) : (s.updJob a f).tasks = s.tasks := rfl
@[simp] theorem State.updJob_waiters (s : State) (a : Addr) (f : Job → Job) : (s.updJob a f).waiters = s.waiters := rfl
@[simp] theorem State.updJob_plan (s : State) (a : Addr) (f : Job → Job) : (s.updJob a f).plan = s.plan := rfl
@[simp] theorem State.updJob_endQueue (s : State) (a : Addr) (f : Job → Job) : (s.updJob a f).endQueue = s.endQueue := rfl
@[simp] theorem State.updJob_serial (s : State) (a : Addr) (f : Job → Job) : (s.updJob a f).serial = s.serial := rfl
@[simp] theorem State.updJob_timing (s : State) (a : Addr) (f : Job → Job) : (s.updJob a f).timing = s.timing := rfl
@[simp] theorem State.updJob_tones (s : State) (a : Addr) (f : Job → Job) : (s.updJob a f).tones = s.tones := rfl
@[simp] theorem State.updJob_staging (s : State) (a : Addr) (f : Job → Job) : (s.updJob a f).staging = s.staging := rfl
@[simp] theorem State.updJob_stations (s : State) (a : Addr) (f : Job → Job) : (s.updJob a f).stations = s.stations := rfl
@[simp] theorem State.updJob_cals (s : State) (a : Addr) (f : Job → Job) : (s.updJob a f).cals = s.cals := rfl
@[simp] theorem State.updJob_permitHolders (s : State) (a : Addr) (f : Job → Job) : (s.updJob a f).permitHolders = s.permitHolders := rfl
@[simp] theorem State.updJob_permitQueue (s : State) (a : Addr) (f : Job → Job) : (s.updJob a f).permitQueue = s.permitQueue := rfl
@[simp] theorem State.updJob_photometer (s : State) (a : Addr) (f : Job → Job) : (s.updJob a f).photometer = s.photometer := rfl
@[simp] theorem State.updJob_photometerQueue (s : State) (a : Addr) (f : Job → Job) : (s.updJob a f).photometerQueue = s.photometerQueue := rfl
@[simp] theorem State.updJob_choices (s : State) (a : Addr) (f : Job → Job) : (s.updJob a f).choices = s.choices := rfl
@[simp] theorem State.updJob_pending (s : State) (a : Addr) (f : Job → Job) : (s.updJob a f).pending = s.pending := rfl

/-! ### State.updPass -/

@[simp] theorem State.updPass_ctrl (s : State) (f : Pass → Pass) : (s.updPass f).ctrl = s.ctrl := rfl
@[simp] theorem State.updPass_portErr (s : State) (f : Pass → Pass) : (s.updPass f).portErr = s.portErr := rfl
@[simp] theorem State.updPass_lostDone (s : State) (f : Pass → Pass) : (s.updPass f).lostDone = s.lostDone := rfl
@[simp] theorem State.updPass_brdBase (s : State) (f : Pass → Pass) : (s.updPass f).brdBase = s.brdBase := rfl
@[simp] theorem State.updPass_brdSlots (s : State) (f : Pass → Pass) : (s.updPass f).brdSlots = s.brdSlots := rfl
@[simp] theorem State.updPass_scanIvl (s : State) (f : Pass → Pass) : (s.updPass f).scanIvl = s.scanIvl := rfl
@[simp] theorem State.updPass_doneCount (s : State) (f : Pass → Pass) : (s.updPass f).doneCount = s.doneCount := rfl
@[simp] theorem State.updPass_alertCount (s : State) (f : Pass → Pass) : (s.updPass f).alertCount = s.alertCount := rfl
@[simp] theorem State.updPass_readData (s : State) (f : Pass → Pass) : (s.updPass f).readData = s.readData := rfl
@[simp] theorem State.updPass_port (s : State) (f : Pass → Pass) : (s.updPass f).port = s.port := rfl
@[simp] theorem State.updPass_scanTimer (s : State) (f : Pass → Pass) : (s.updPass f).scanTimer = s.scanTimer := rfl
@[simp] theorem State.updPass_passPending (s : State) (f : Pass → Pass) : (s.updPass f).passPending = s.passPending := rfl
@[simp] theorem State.updPass_held (s : State) (f : Pass → Pass) : (s.updPass f).held = s.held := rfl
@[simp] theorem State.updPass_tasks (s : State) (f : Pass → Pass) : (s.updPass f).tasks = s.tasks := rfl
@[simp] theorem State.updPass_waiters (s : State) (f : Pass → Pass) : (s.updPass f).waiters = s.waiters := rfl
@[simp] theorem State.updPass_plan (s : State) (f : Pass → Pass) : (s.updPass f).plan = s.plan := rfl
@[simp] theorem State.updPass_jobs (s : State) (f : Pass → Pass) : (s.updPass f).jobs = s.jobs := rfl
@[simp] theorem State.updPass_endQueue (s : State) (f : Pass → Pass) : (s.updPass f).endQueue = s.endQueue := rfl
@[simp] theorem State.updPass_serial (s : State) (f : Pass → Pass) : (s.updPass f).serial = s.serial := rfl
@[simp] theorem State.updPass_timing (s : State) (f : Pass → Pass) : (s.updPass f).timing = s.timing := rfl
@[simp] theorem State.updPass_tones (s : State) (f : Pass → Pass) : (s.updPass f).tones = s.tones := rfl
@[simp] theorem State.updPass_staging (s : State) (f : Pass → Pass) : (s.updPass f).staging = s.staging := rfl
@[simp] theorem State.updPass_stations (s : State) (f : Pass → Pass) : (s.updPass f).stations = s.stations := rfl
@[simp] theorem State.updPass_cals (s : State) (f : Pass → Pass) : (s.updPass f).cals = s.cals := rfl
@[simp] theorem State.updPass_permitHolders (s : State) (f : Pass → Pass) : (s.updPass f).permitHolders = s.permitHolders := rfl
@[simp] theorem State.updPass_permitQueue (s : State) (f : Pass → Pass) : (s.updPass f).permitQueue = s.permitQueue := rfl
@[simp] theorem State.updPass_photometer (s : State) (f : Pass → Pass) : (s.updPass f).photometer = s.photometer := rfl
@[simp] theorem State.updPass_photometerQueue (s : State) (f : Pass → Pass) : (s.updPass f).photometerQueue = s.photometerQueue := rfl
@[simp] theorem State.updPass_choices (s : State) (f : Pass → Pass) : (s.updPass f).choices = s.choices := rfl
@[simp] theorem State.updPass_pending (s : State) (f : Pass → Pass) : (s.updPass f).pending = s.pending := rfl

/-! ### State.request -/

@[simp] theorem State.request_ctrl (s : State) (r : Request) : (s.request r).ctrl = s.ctrl := rfl
@[simp] theorem State.request_portErr (s : State) (r : Request) : (s.request r).portErr = s.portErr := rfl
@[simp] theorem State.request_lostDone (s : State) (r : Request) : (s.request r).lostDone = s.lostDone := rfl
@[simp] theorem State.request_brdBase (s : State) (r : Request) : (s.request r).brdBase = s.brdBase := rfl
@[simp] theorem State.request_brdSlots (s : State) (r : Request) : (s.request r).brdSlots = s.brdSlots := rfl
@[simp] theorem State.request_scanIvl (s : State) (r : Request) : (s.request r).scanIvl = s.scanIvl := rfl
@[simp] theorem State.request_doneCount (s : State) (r : Request) : (s.request r).doneCount = s.doneCount := rfl
@[simp] theorem State.request_alertCount (s : State) (r : Request) : (s.request r).alertCount = s.alertCount := rfl
@[simp] theorem State.request_readData (s : State) (r : Request) : (s.request r).readData = s.readData := rfl
@[simp] theorem State.request_scanTimer (s : State) (r : Request) : (s.request r).scanTimer = s.scanTimer := rfl
@[simp] theorem State.request_passPending (s : State) (r : Request) : (s.request r).passPending = s.passPending := rfl
@[simp] theorem State.request_pass (s : State) (r : Request) : (s.request r).pass = s.pass := rfl
@[simp] theorem State.request_held (s : State) (r : Request) : (s.request r).held = s.held := rfl
@[simp] theorem State.request_tasks (s : State) (r : Request) : (s.request r).tasks = s.tasks := rfl
@[simp] theorem State.request_waiters (s : State) (r : Request) : (s.request r).waiters = s.waiters := rfl
@[simp] theorem State.request_plan (s : State) (r : Request) : (s.request r).plan = s.plan := rfl
@[simp] theorem State.request_jobs (s : State) (r : Request) : (s.request r).jobs = s.jobs := rfl
@[simp] theorem State.request_endQueue (s : State) (r : Request) : (s.request r).endQueue = s.endQueue := rfl
@[simp] theorem State.request_serial (s : State) (r : Request) : (s.request r).serial = s.serial := rfl
@[simp] theorem State.request_timing (s : State) (r : Request) : (s.request r).timing = s.timing := rfl
@[simp] theorem State.request_tones (s : State) (r : Request) : (s.request r).tones = s.tones := rfl
@[simp] theorem State.request_staging (s : State) (r : Request) : (s.request r).staging = s.staging := rfl
@[simp] theorem State.request_stations (s : State) (r : Request) : (s.request r).stations = s.stations := rfl
@[simp] theorem State.request_cals (s : State) (r : Request) : (s.request r).cals = s.cals := rfl
@[simp] theorem State.request_permitHolders (s : State) (r : Request) : (s.request r).permitHolders = s.permitHolders := rfl
@[simp] theorem State.request_permitQueue (s : State) (r : Request) : (s.request r).permitQueue = s.permitQueue := rfl
@[simp] theorem State.request_photometer (s : State) (r : Request) : (s.request r).photometer = s.photometer := rfl
@[simp] theorem State.request_photometerQueue (s : State) (r : Request) : (s.request r).photometerQueue = s.photometerQueue := rfl
@[simp] theorem State.request_choices (s : State) (r : Request) : (s.request r).choices = s.choices := rfl
@[simp] theorem State.request_pending (s : State) (r : Request) : (s.request r).pending = s.pending := rfl

/-! ### State.endRequest -/

@[simp] theorem State.endRequest_ctrl (s : State) : (s.endRequest).ctrl = s.ctrl := rfl
@[simp] theorem State.endRequest_portErr (s : State) : (s.endRequest).portErr = s.portErr := rfl
@[simp] theorem State.endRequest_lostDone (s : State) : (s.endRequest).lostDone = s.lostDone := rfl
@[simp] theorem State.endRequest_brdBase (s : State) : (s.endRequest).brdBase = s.brdBase := rfl
@[simp] theorem State.endRequest_brdSlots (s : State) : (s.endRequest).brdSlots = s.brdSlots := rfl
@[simp] theorem State.endRequest_scanIvl (s : State) : (s.endRequest).scanIvl = s.scanIvl := rfl
@[simp] theorem State.endRequest_doneCount (s : State) : (s.endRequest).doneCount = s.doneCount := rfl
@[simp] theorem State.endRequest_alertCount (s : State) : (s.endRequest).alertCount = s.alertCount := rfl
@[simp] theorem State.endRequest_readData (s : State) : (s.endRequest).readData = s.readData := rfl
@[simp] theorem State.endRequest_scanTimer (s : State) : (s.endRequest).scanTimer = s.scanTimer := rfl
@[simp] theorem State.endRequest_passPending (s : State) : (s.endRequest).passPending = s.passPending := rfl
@[simp] theorem State.endRequest_pass (s : State) : (s.endRequest).pass = s.pass := rfl
@[simp] theorem State.endRequest_held (s : State) : (s.endRequest).held = s.held := rfl
@[simp] theorem State.endRequest_tasks (s : State) : (s.endRequest).tasks = s.tasks := rfl
@[simp] theorem State.endRequest_waiters (s : State) : (s.endRequest).waiters = s.waiters := rfl
@[simp] theorem State.endRequest_plan (s : State) : (s.endRequest).plan = s.plan := rfl
@[simp] theorem State.endRequest_jobs (s : State) : (s.endRequest).jobs = s.jobs := rfl
@[simp] theorem State.endRequest_endQueue (s : State) : (s.endRequest).endQueue = s.endQueue := rfl
@[simp] theorem State.endRequest_serial (s : State) : (s.endRequest).serial = s.serial := rfl
@[simp] theorem State.endRequest_timing (s : State) : (s.endRequest).timing = s.timing := rfl
@[simp] theorem State.endRequest_tones (s : State) : (s.endRequest).tones = s.tones := rfl
@[simp] theorem State.endRequest_staging (s : State) : (s.endRequest).staging = s.staging := rfl
@[simp] theorem State.endRequest_stations (s : State) : (s.endRequest).stations = s.stations := rfl
@[simp] theorem State.endRequest_cals (s : State) : (s.endRequest).cals = s.cals := rfl
@[simp] theorem State.endRequest_permitHolders (s : State) : (s.endRequest).permitHolders = s.permitHolders := rfl
@[simp] theorem State.endRequest_permitQueue (s : State) : (s.endRequest).permitQueue = s.permitQueue := rfl
@[simp] theorem State.endRequest_photometer (s : State) : (s.endRequest).photometer = s.photometer := rfl
@[simp] theorem State.endRequest_photometerQueue (s : State) : (s.endRequest).photometerQueue = s.photometerQueue := rfl
@[simp] theorem State.endRequest_choices (s : State) : (s.endRequest).choices = s.choices := rfl
@[simp] theorem State.endRequest_pending (s : State) : (s.endRequest).pending = s.pending := rfl

/-! ### State.withdraw -/

@[simp] theorem State.withdraw_ctrl (s : State) (p : Request → Bool) : (s.withdraw p).ctrl = s.ctrl := rfl
@[simp] theorem State.withdraw_portErr (s : State) (p : Request → Bool) : (s.withdraw p).portErr = s.portErr := rfl
@[simp] theorem State.withdraw_lostDone (s : State) (p : Request → Bool) : (s.withdraw p).lostDone = s.lostDone := rfl
@[simp] theorem State.withdraw_brdBase (s : State) (p : Request → Bool) : (s.withdraw p).brdBase = s.brdBase := rfl
@[simp] theorem State.withdraw_brdSlots (s : State) (p : Request → Bool) : (s.withdraw p).brdSlots = s.brdSlots := rfl
@[simp] theorem State.withdraw_scanIvl (s : State) (p : Request → Bool) : (s.withdraw p).scanIvl = s.scanIvl := rfl
@[simp] theorem State.withdraw_doneCount (s : State) (p : Request → Bool) : (s.withdraw p).doneCount = s.doneCount := rfl
@[simp] theorem State.withdraw_alertCount (s : State) (p : Request → Bool) : (s.withdraw p).alertCount = s.alertCount := rfl
@[simp] theorem State.withdraw_readData (s : State) (p : Request → Bool) : (s.withdraw p).readData = s.readData := rfl
@[simp] theorem State.withdraw_scanTimer (s : State) (p : Request → Bool) : (s.withdraw p).scanTimer = s.scanTimer := rfl
@[simp] theorem State.withdraw_passPending (s : State) (p : Request → Bool) : (s.withdraw p).passPending = s.passPending := rfl
@[simp] theorem State.withdraw_pass (s : State) (p : Request → Bool) : (s.withdraw p).pass = s.pass := rfl
@[simp] theorem State.withdraw_held (s : State) (p : Request → Bool) : (s.withdraw p).held = s.held := rfl
@[simp] theorem State.withdraw_tasks (s : State) (p : Request → Bool) : (s.withdraw p).tasks = s.tasks := rfl
@[simp] theorem State.withdraw_waiters (s : State) (p : Request → Bool) : (s.withdraw p).waiters = s.waiters := rfl
@[simp] theorem State.withdraw_plan (s : State) (p : Request → Bool) : (s.withdraw p).plan = s.plan := rfl
@[simp] theorem State.withdraw_jobs (s : State) (p : Request → Bool) : (s.withdraw p).jobs = s.jobs := rfl
@[simp] theorem State.withdraw_endQueue (s : State) (p : Request → Bool) : (s.withdraw p).endQueue = s.endQueue := rfl
@[simp] theorem State.withdraw_serial (s : State) (p : Request → Bool) : (s.withdraw p).serial = s.serial := rfl
@[simp] theorem State.withdraw_timing (s : State) (p : Request → Bool) : (s.withdraw p).timing = s.timing := rfl
@[simp] theorem State.withdraw_tones (s : State) (p : Request → Bool) : (s.withdraw p).tones = s.tones := rfl
@[simp] theorem State.withdraw_staging (s : State) (p : Request → Bool) : (s.withdraw p).staging = s.staging := rfl
@[simp] theorem State.withdraw_stations (s : State) (p : Request → Bool) : (s.withdraw p).stations = s.stations := rfl
@[simp] theorem State.withdraw_cals (s : State) (p : Request → Bool) : (s.withdraw p).cals = s.cals := rfl
@[simp] theorem State.withdraw_permitHolders (s : State) (p : Request → Bool) : (s.withdraw p).permitHolders = s.permitHolders := rfl
@[simp] theorem State.withdraw_permitQueue (s : State) (p : Request → Bool) : (s.withdraw p).permitQueue = s.permitQueue := rfl
@[simp] theorem State.withdraw_photometer (s : State) (p : Request → Bool) : (s.withdraw p).photometer = s.photometer := rfl
@[simp] theorem State.withdraw_photometerQueue (s : State) (p : Request → Bool) : (s.withdraw p).photometerQueue = s.photometerQueue := rfl
@[simp] theorem State.withdraw_choices (s : State) (p : Request → Bool) : (s.withdraw p).choices = s.choices := rfl
@[simp] theorem State.withdraw_pending (s : State) (p : Request → Bool) : (s.withdraw p).pending = s.pending := rfl

/-! ### State.join -/

@[simp] theorem State.join_ctrl (s : State) : (s.join).ctrl = s.ctrl := rfl
@[simp] theorem State.join_portErr (s : State) : (s.join).portErr = s.portErr := rfl
@[simp] theorem State.join_lostDone (s : State) : (s.join).lostDone = s.lostDone := rfl
@[simp] theorem State.join_brdBase (s : State) : (s.join).brdBase = s.brdBase := rfl
@[simp] theorem State.join_brdSlots (s : State) : (s.join).brdSlots = s.brdSlots := rfl
@[simp] theorem State.join_scanIvl (s : State) : (s.join).scanIvl = s.scanIvl := rfl
@[simp] theorem State.join_doneCount (s : State) : (s.join).doneCount = s.doneCount := rfl
@[simp] theorem State.join_alertCount (s : State) : (s.join).alertCount = s.alertCount := rfl
@[simp] theorem State.join_readData (s : State) : (s.join).readData = s.readData := rfl
@[simp] theorem State.join_scanTimer (s : State) : (s.join).scanTimer = s.scanTimer := rfl
@[simp] theorem State.join_passPending (s : State) : (s.join).passPending = s.passPending := rfl
@[simp] theorem State.join_pass (s : State) : (s.join).pass = s.pass := rfl
@[simp] theorem State.join_held (s : State) : (s.join).held = s.held := rfl
@[simp] theorem State.join_tasks (s : State) : (s.join).tasks = s.tasks := rfl
@[simp] theorem State.join_waiters (s : State) : (s.join).waiters = s.waiters := rfl
@[simp] theorem State.join_plan (s : State) : (s.join).plan = s.plan := rfl
@[simp] theorem State.join_jobs (s : State) : (s.join).jobs = s.jobs := rfl
@[simp] theorem State.join_endQueue (s : State) : (s.join).endQueue = s.endQueue := rfl
@[simp] theorem State.join_serial (s : State) : (s.join).serial = s.serial := rfl
@[simp] theorem State.join_timing (s : State) : (s.join).timing = s.timing := rfl
@[simp] theorem State.join_tones (s : State) : (s.join).tones = s.tones := rfl
@[simp] theorem State.join_staging (s : State) : (s.join).staging = s.staging := rfl
@[simp] theorem State.join_stations (s : State) : (s.join).stations = s.stations := rfl
@[simp] theorem State.join_cals (s : State) : (s.join).cals = s.cals := rfl
@[simp] theorem State.join_permitHolders (s : State) : (s.join).permitHolders = s.permitHolders := rfl
@[simp] theorem State.join_permitQueue (s : State) : (s.join).permitQueue = s.permitQueue := rfl
@[simp] theorem State.join_photometer (s : State) : (s.join).photometer = s.photometer := rfl
@[simp] theorem State.join_photometerQueue (s : State) : (s.join).photometerQueue = s.photometerQueue := rfl
@[simp] theorem State.join_pending (s : State) : (s.join).pending = s.pending := rfl

/-! ### State.alert -/

@[simp] theorem State.alert_ctrl (s : State) : (s.alert).ctrl = s.ctrl := rfl
@[simp] theorem State.alert_portErr (s : State) : (s.alert).portErr = s.portErr := rfl
@[simp] theorem State.alert_lostDone (s : State) : (s.alert).lostDone = s.lostDone := rfl
@[simp] theorem State.alert_brdBase (s : State) : (s.alert).brdBase = s.brdBase := rfl
@[simp] theorem State.alert_brdSlots (s : State) : (s.alert).brdSlots = s.brdSlots := rfl
@[simp] theorem State.alert_scanIvl (s : State) : (s.alert).scanIvl = s.scanIvl := rfl
@[simp] theorem State.alert_doneCount (s : State) : (s.alert).doneCount = s.doneCount := rfl
@[simp] theorem State.alert_readData (s : State) : (s.alert).readData = s.readData := rfl
@[simp] theorem State.alert_port (s : State) : (s.alert).port = s.port := rfl
@[simp] theorem State.alert_scanTimer (s : State) : (s.alert).scanTimer = s.scanTimer := rfl
@[simp] theorem State.alert_passPending (s : State) : (s.alert).passPending = s.passPending := rfl
@[simp] theorem State.alert_pass (s : State) : (s.alert).pass = s.pass := rfl
@[simp] theorem State.alert_held (s : State) : (s.alert).held = s.held := rfl
@[simp] theorem State.alert_tasks (s : State) : (s.alert).tasks = s.tasks := rfl
@[simp] theorem State.alert_waiters (s : State) : (s.alert).waiters = s.waiters := rfl
@[simp] theorem State.alert_plan (s : State) : (s.alert).plan = s.plan := rfl
@[simp] theorem State.alert_jobs (s : State) : (s.alert).jobs = s.jobs := rfl
@[simp] theorem State.alert_endQueue (s : State) : (s.alert).endQueue = s.endQueue := rfl
@[simp] theorem State.alert_serial (s : State) : (s.alert).serial = s.serial := rfl
@[simp] theorem State.alert_timing (s : State) : (s.alert).timing = s.timing := rfl
@[simp] theorem State.alert_tones (s : State) : (s.alert).tones = s.tones := rfl
@[simp] theorem State.alert_staging (s : State) : (s.alert).staging = s.staging := rfl
@[simp] theorem State.alert_stations (s : State) : (s.alert).stations = s.stations := rfl
@[simp] theorem State.alert_cals (s : State) : (s.alert).cals = s.cals := rfl
@[simp] theorem State.alert_permitHolders (s : State) : (s.alert).permitHolders = s.permitHolders := rfl
@[simp] theorem State.alert_permitQueue (s : State) : (s.alert).permitQueue = s.permitQueue := rfl
@[simp] theorem State.alert_photometer (s : State) : (s.alert).photometer = s.photometer := rfl
@[simp] theorem State.alert_photometerQueue (s : State) : (s.alert).photometerQueue = s.photometerQueue := rfl
@[simp] theorem State.alert_choices (s : State) : (s.alert).choices = s.choices := rfl
@[simp] theorem State.alert_pending (s : State) : (s.alert).pending = s.pending := rfl

/-! ### State.leavePermitQueue -/

@[simp] theorem State.leavePermitQueue_ctrl (s : State) (i : StationId) : (s.leavePermitQueue i).ctrl = s.ctrl := rfl
@[simp] theorem State.leavePermitQueue_portErr (s : State) (i : StationId) : (s.leavePermitQueue i).portErr = s.portErr := rfl
@[simp] theorem State.leavePermitQueue_lostDone (s : State) (i : StationId) : (s.leavePermitQueue i).lostDone = s.lostDone := rfl
@[simp] theorem State.leavePermitQueue_brdBase (s : State) (i : StationId) : (s.leavePermitQueue i).brdBase = s.brdBase := rfl
@[simp] theorem State.leavePermitQueue_brdSlots (s : State) (i : StationId) : (s.leavePermitQueue i).brdSlots = s.brdSlots := rfl
@[simp] theorem State.leavePermitQueue_scanIvl (s : State) (i : StationId) : (s.leavePermitQueue i).scanIvl = s.scanIvl := rfl
@[simp] theorem State.leavePermitQueue_doneCount (s : State) (i : StationId) : (s.leavePermitQueue i).doneCount = s.doneCount := rfl
@[simp] theorem State.leavePermitQueue_alertCount (s : State) (i : StationId) : (s.leavePermitQueue i).alertCount = s.alertCount := rfl
@[simp] theorem State.leavePermitQueue_readData (s : State) (i : StationId) : (s.leavePermitQueue i).readData = s.readData := rfl
@[simp] theorem State.leavePermitQueue_port (s : State) (i : StationId) : (s.leavePermitQueue i).port = s.port := rfl
@[simp] theorem State.leavePermitQueue_scanTimer (s : State) (i : StationId) : (s.leavePermitQueue i).scanTimer = s.scanTimer := rfl
@[simp] theorem State.leavePermitQueue_passPending (s : State) (i : StationId) : (s.leavePermitQueue i).passPending = s.passPending := rfl
@[simp] theorem State.leavePermitQueue_pass (s : State) (i : StationId) : (s.leavePermitQueue i).pass = s.pass := rfl
@[simp] theorem State.leavePermitQueue_held (s : State) (i : StationId) : (s.leavePermitQueue i).held = s.held := rfl
@[simp] theorem State.leavePermitQueue_tasks (s : State) (i : StationId) : (s.leavePermitQueue i).tasks = s.tasks := rfl
@[simp] theorem State.leavePermitQueue_waiters (s : State) (i : StationId) : (s.leavePermitQueue i).waiters = s.waiters := rfl
@[simp] theorem State.leavePermitQueue_plan (s : State) (i : StationId) : (s.leavePermitQueue i).plan = s.plan := rfl
@[simp] theorem State.leavePermitQueue_jobs (s : State) (i : StationId) : (s.leavePermitQueue i).jobs = s.jobs := rfl
@[simp] theorem State.leavePermitQueue_endQueue (s : State) (i : StationId) : (s.leavePermitQueue i).endQueue = s.endQueue := rfl
@[simp] theorem State.leavePermitQueue_serial (s : State) (i : StationId) : (s.leavePermitQueue i).serial = s.serial := rfl
@[simp] theorem State.leavePermitQueue_timing (s : State) (i : StationId) : (s.leavePermitQueue i).timing = s.timing := rfl
@[simp] theorem State.leavePermitQueue_tones (s : State) (i : StationId) : (s.leavePermitQueue i).tones = s.tones := rfl
@[simp] theorem State.leavePermitQueue_staging (s : State) (i : StationId) : (s.leavePermitQueue i).staging = s.staging := rfl
@[simp] theorem State.leavePermitQueue_stations (s : State) (i : StationId) : (s.leavePermitQueue i).stations = s.stations := rfl
@[simp] theorem State.leavePermitQueue_cals (s : State) (i : StationId) : (s.leavePermitQueue i).cals = s.cals := rfl
@[simp] theorem State.leavePermitQueue_permitHolders (s : State) (i : StationId) : (s.leavePermitQueue i).permitHolders = s.permitHolders := rfl
@[simp] theorem State.leavePermitQueue_photometer (s : State) (i : StationId) : (s.leavePermitQueue i).photometer = s.photometer := rfl
@[simp] theorem State.leavePermitQueue_photometerQueue (s : State) (i : StationId) : (s.leavePermitQueue i).photometerQueue = s.photometerQueue := rfl
@[simp] theorem State.leavePermitQueue_choices (s : State) (i : StationId) : (s.leavePermitQueue i).choices = s.choices := rfl
@[simp] theorem State.leavePermitQueue_pending (s : State) (i : StationId) : (s.leavePermitQueue i).pending = s.pending := rfl

/-! ### State.leavePhotometerQueue -/

@[simp] theorem State.leavePhotometerQueue_ctrl (s : State) (i : StationId) : (s.leavePhotometerQueue i).ctrl = s.ctrl := rfl
@[simp] theorem State.leavePhotometerQueue_portErr (s : State) (i : StationId) : (s.leavePhotometerQueue i).portErr = s.portErr := rfl
@[simp] theorem State.leavePhotometerQueue_lostDone (s : State) (i : StationId) : (s.leavePhotometerQueue i).lostDone = s.lostDone := rfl
@[simp] theorem State.leavePhotometerQueue_brdBase (s : State) (i : StationId) : (s.leavePhotometerQueue i).brdBase = s.brdBase := rfl
@[simp] theorem State.leavePhotometerQueue_brdSlots (s : State) (i : StationId) : (s.leavePhotometerQueue i).brdSlots = s.brdSlots := rfl
@[simp] theorem State.leavePhotometerQueue_scanIvl (s : State) (i : StationId) : (s.leavePhotometerQueue i).scanIvl = s.scanIvl := rfl
@[simp] theorem State.leavePhotometerQueue_doneCount (s : State) (i : StationId) : (s.leavePhotometerQueue i).doneCount = s.doneCount := rfl
@[simp] theorem State.leavePhotometerQueue_alertCount (s : State) (i : StationId) : (s.leavePhotometerQueue i).alertCount = s.alertCount := rfl
@[simp] theorem State.leavePhotometerQueue_readData (s : State) (i : StationId) : (s.leavePhotometerQueue i).readData = s.readData := rfl
@[simp] theorem State.leavePhotometerQueue_port (s : State) (i : StationId) : (s.leavePhotometerQueue i).port = s.port := rfl
@[simp] theorem State.leavePhotometerQueue_scanTimer (s : State) (i : StationId) : (s.leavePhotometerQueue i).scanTimer = s.scanTimer := rfl
@[simp] theorem State.leavePhotometerQueue_passPending (s : State) (i : StationId) : (s.leavePhotometerQueue i).passPending = s.passPending := rfl
@[simp] theorem State.leavePhotometerQueue_pass (s : State) (i : StationId) : (s.leavePhotometerQueue i).pass = s.pass := rfl
@[simp] theorem State.leavePhotometerQueue_held (s : State) (i : StationId) : (s.leavePhotometerQueue i).held = s.held := rfl
@[simp] theorem State.leavePhotometerQueue_tasks (s : State) (i : StationId) : (s.leavePhotometerQueue i).tasks = s.tasks := rfl
@[simp] theorem State.leavePhotometerQueue_waiters (s : State) (i : StationId) : (s.leavePhotometerQueue i).waiters = s.waiters := rfl
@[simp] theorem State.leavePhotometerQueue_plan (s : State) (i : StationId) : (s.leavePhotometerQueue i).plan = s.plan := rfl
@[simp] theorem State.leavePhotometerQueue_jobs (s : State) (i : StationId) : (s.leavePhotometerQueue i).jobs = s.jobs := rfl
@[simp] theorem State.leavePhotometerQueue_endQueue (s : State) (i : StationId) : (s.leavePhotometerQueue i).endQueue = s.endQueue := rfl
@[simp] theorem State.leavePhotometerQueue_serial (s : State) (i : StationId) : (s.leavePhotometerQueue i).serial = s.serial := rfl
@[simp] theorem State.leavePhotometerQueue_timing (s : State) (i : StationId) : (s.leavePhotometerQueue i).timing = s.timing := rfl
@[simp] theorem State.leavePhotometerQueue_tones (s : State) (i : StationId) : (s.leavePhotometerQueue i).tones = s.tones := rfl
@[simp] theorem State.leavePhotometerQueue_staging (s : State) (i : StationId) : (s.leavePhotometerQueue i).staging = s.staging := rfl
@[simp] theorem State.leavePhotometerQueue_stations (s : State) (i : StationId) : (s.leavePhotometerQueue i).stations = s.stations := rfl
@[simp] theorem State.leavePhotometerQueue_cals (s : State) (i : StationId) : (s.leavePhotometerQueue i).cals = s.cals := rfl
@[simp] theorem State.leavePhotometerQueue_permitHolders (s : State) (i : StationId) : (s.leavePhotometerQueue i).permitHolders = s.permitHolders := rfl
@[simp] theorem State.leavePhotometerQueue_permitQueue (s : State) (i : StationId) : (s.leavePhotometerQueue i).permitQueue = s.permitQueue := rfl
@[simp] theorem State.leavePhotometerQueue_photometer (s : State) (i : StationId) : (s.leavePhotometerQueue i).photometer = s.photometer := rfl
@[simp] theorem State.leavePhotometerQueue_choices (s : State) (i : StationId) : (s.leavePhotometerQueue i).choices = s.choices := rfl
@[simp] theorem State.leavePhotometerQueue_pending (s : State) (i : StationId) : (s.leavePhotometerQueue i).pending = s.pending := rfl

end Sys2Proof.Machine
end

