-- ==== Sys2Proof/Laws/Ops.lean ====
section
/-! SUPPORT. One lemma for each shared operation, saying once what it can do: the end of an event and its requests, the
completions, the dispatcher at rest, the ends of a ticket and of a job, the permit arbiter and the photometer. -/

namespace Sys2Proof.Machine

/-! ## The end of an event (R170) -/

/-- An event that requests nothing. -/
theorem State.join_of_none {s : State} (h : s.port.arriving = []) :
    s.join = { s with port := settlePort s.ctrl { s.port with arriving := [] } } := by
  simp [State.join, h, shuffle, choicesFor]

/-- An event that makes one request: it joins the list's tail. -/
theorem State.join_of_one {s : State} {r : Request} (h : s.port.arriving = [r]) :
    s.join = { s with port := settlePort s.ctrl { s.port with list := s.port.list ++ [r], arriving := [] } } := by
  simp [State.join, h, shuffle, insertAt, choicesFor]

/-- A settled state is what an event that changes nothing leaves. -/
theorem State.join_of_settled {s : State} (h : s.settled) : s.join = s := by
  obtain ⟨h1, h2⟩ := h
  rw [State.join_of_none h1]
  have : ({ s.port with arriving := [] } : Port) = s.port := by cases hp : s.port; simp_all
  rw [this, h2]

theorem State.done_of_settled {s : State} (h : s.settled) : s.done = .next s := by
  rw [State.done, State.join_of_settled h]

/-- Things put in some order are the same things (log 3). -/
theorem shuffle_perm {α : Type} : ∀ (l : List α) (n : Nat), (shuffle n l).Perm l
  | [], _ => .refl _
  | a :: l, n => by
    have ins : ∀ (m : List α) (k : Nat), (insertAt a m k).Perm (a :: m) := by
      intro m
      induction m with
      | nil => intro k; exact .refl _
      | cons b m ih =>
        intro k
        cases k with
        | zero => exact .refl _
        | succ k => exact ((ih k).cons b).trans (.swap a b m)
    exact (ins _ _).trans ((shuffle_perm l (n + 1)).cons a)

/-- A request is served in tenure alone, with no withdrawn request's transfer on the bus, and it is the list's head. -/
theorem State.serving_some {s : State} {r : Request} (h : s.serving = some r) :
    s.port.master = .tenure ∧ s.port.discarding = none ∧ s.port.list.head? = some r := by
  unfold State.serving Port.onBus at h
  cases hm : s.port.master <;> cases hd : s.port.discarding <;> simp_all

/-- A completion whose request is in service: the request ends, and its channel acts. -/
theorem State.completed_of_serves {s : State} {p : Purpose} {n : Nat} {answers : Request → Bool}
    {act : Request → State → State} (h : s.serves p n)
    (ha : ∀ r : Request, r.purpose = p → r.len = n → answers r = true) :
    ∃ r : Request, r.purpose = p ∧ r.len = n ∧ s.port.list.head? = some r ∧
      s.completed answers act = (act r s.endRequest).done := by
  obtain ⟨_, r, hs, hp, hn⟩ := h
  exact ⟨r, hp, hn, (State.serving_some hs).2.2, by simp [State.completed, hs, ha r hp hn]⟩

/-- The list that the end of a request leaves. -/
@[simp] theorem afterRequest_list (c : Ctrl) (p : Port) (l : List Request) : (afterRequest c p l).list = l := by
  unfold afterRequest; repeat' split
  all_goals rfl
@[simp] theorem afterRequest_arriving (c : Ctrl) (p : Port) (l : List Request) :
    (afterRequest c p l).arriving = p.arriving := by
  unfold afterRequest; repeat' split
  all_goals rfl
/-- The end of the event that ends the request in service, nothing else being requested. -/
theorem State.done_endRequest_none {s u : State} (hs : s.port.arriving = []) (hc : u.ctrl = s.ctrl)
    (hu : u.port = s.endRequest.port) : u.done = .next { u with port := s.portAfter [] } := by
  have h : u.port.arriving = [] := by rw [hu]; simp [State.endRequest, hs]
  rw [State.done, State.join_of_none h, hc, hu]
  simp [State.portAfter, State.endRequest]

/-- The end of the event that ends the request in service and makes one request. -/
theorem State.done_endRequest_one {s u : State} {r : Request} (hs : s.port.arriving = []) (hc : u.ctrl = s.ctrl)
    (hu : u.port = { s.endRequest.port with arriving := s.endRequest.port.arriving ++ [r] }) :
    u.done = .next { u with port := s.portAfter [r] } := by
  have h : u.port.arriving = [r] := by rw [hu]; simp [State.endRequest, hs]
  rw [State.done, State.join_of_one h, hc, hu]
  simp [State.portAfter, State.endRequest]

/-! ## The dispatcher at rest (R55, R64, R65) -/

/-- The dispatcher at rest: no event in its turn, no return for which there is room, no match. -/
theorem State.atRest_iff (s : State) : s.atRest ↔
    (s.endQueue = [] ∨ (s.dispatcherWaits = true ∧ ∀ o r l rest, s.endQueue ≠ .ticket o r l :: rest)) ∧
      (s.nextReturn = none ∨ s.roomForReturn = false) ∧ s.nextMatch = none := by
  unfold State.atRest State.dispatchStep
  cases s.dispatcherWaits <;> cases s.endQueue with
  | nil => cases s.nextReturn <;> cases s.roomForReturn <;> cases s.nextMatch <;> simp
  | cons e rest => cases e <;> cases s.nextReturn <;> cases s.roomForReturn <;> cases s.nextMatch <;> simp

/-- What the dispatcher looks at when it is at rest: its own lists, the stations and their tables. -/
structure DispatchView where
  waiters : List Task
  endQueue : List DispatchEvent
  jobs : List Job
  stations : PerStation Station
  cals : PerStation CalUnit

/-- The dispatcher's view of a state. -/
def State.dispatchView (s : State) : DispatchView :=
  { waiters := s.waiters, endQueue := s.endQueue, jobs := s.jobs, stations := s.stations, cals := s.cals }

/-- Two states that the dispatcher sees alike are at rest together, when no more places are held in the first. -/
theorem State.atRest_of_view {v u : State} (h : v.atRest) (hv : u.dispatchView = v.dispatchView)
    (hp : v.placeHeld ≤ u.placeHeld) : u.atRest := by
  have hw : u.waiters = v.waiters := congrArg (·.waiters) hv
  have he : u.endQueue = v.endQueue := congrArg (·.endQueue) hv
  have hj : u.jobs = v.jobs := congrArg (·.jobs) hv
  have hs : u.stations = v.stations := congrArg (·.stations) hv
  have hc : u.cals = v.cals := congrArg (·.cals) hv
  rw [State.atRest_iff] at h ⊢
  have h1 : u.dispatcherWaits = v.dispatcherWaits := by simp [State.dispatcherWaits, hw]
  have h2 : u.nextReturn = v.nextReturn := by simp [State.nextReturn, hj]
  have hf : u.free = v.free := by
    funext i; unfold State.free State.attached State.st; rw [hj, hs]
  have ho : u.oldestFit = v.oldestFit := by
    funext i; unfold State.oldestFit State.intake State.fitsJob State.st State.cal; rw [hj, hs, hc]
  have h3 : u.nextMatch = v.nextMatch := by simp only [State.nextMatch, hf, ho]
  have h4 : v.roomForReturn = false → u.roomForReturn = false := by
    have hi : u.intakeCount = v.intakeCount := by simp only [State.intakeCount, State.intake, hj]
    simp only [State.roomForReturn, decide_eq_false_iff_not, hi]
    omega
  rw [h1, h2, h3, he]
  exact ⟨h.1, h.2.1.imp id h4, h.2.2⟩

/-- A state that the dispatcher sees as a calm one is at rest, whatever place a candidate holds. -/
theorem State.atRest_of_calm {s u : State} (h : s.calm) (hv : u.dispatchView = s.dispatchView) : u.atRest :=
  State.atRest_of_view h hv (Nat.zero_le _)

theorem settleDispatch_of_rest {s : State} (h : s.dispatchStep = none) : ∀ n, settleDispatch n s = s
  | 0 => rfl
  | n + 1 => by simp [settleDispatch, h]

theorem State.settle_of_rest {s : State} (h : s.atRest) : s.settle = s := settleDispatch_of_rest h _

theorem State.settle_of_calm {s : State} (h : s.calm) : s.settle = s := State.settle_of_rest (State.atRest_of_calm h rfl)

end Sys2Proof.Machine
end

