-- ==== Sys2Proof/Laws/Scanner.lean ====
section
/-! SUPPORT. What the board scanner's shared operations leave alone: everything but the scan half, the write list and the
memory port; and the end of a ticket, said once. -/

namespace Sys2Proof.Machine

/-- The state with the scan half, the write list and the port blanked: what `State.onlyScanner` compares. -/
def State.behindScanner (s : State) : State :=
  { s with port := .idle, scanTimer := none, passPending := false, pass := none, tasks := [], waiters := [], plan := [],
           choices := 0 }

/-- The write list, its waiters and the plan. -/
def State.writerLists (s : State) : List Task × List Task × List PlannedWrite := (s.tasks, s.waiters, s.plan)

/-- An operation that touches neither what is behind the scan half nor the writer's lists. -/
def State.scanOnly (s t : State) : Prop := t.behindScanner = s.behindScanner ∧ t.writerLists = s.writerLists

theorem State.onlyScanner_iff {s t : State} : s.onlyScanner t ↔ t.behindScanner = s.behindScanner := by
  unfold State.onlyScanner State.behindScanner
  constructor
  · intro h; rw [h]
  · intro h; cases s; cases t; simp at h ⊢; grind

theorem State.onlyScanner_of {s t : State} (h : t.behindScanner = s.behindScanner) : s.onlyScanner t :=
  State.onlyScanner_iff.2 h

theorem State.scanOnly_refl (s : State) : s.scanOnly s := ⟨rfl, rfl⟩
theorem State.scanOnly_trans {s t u : State} (h : s.scanOnly t) (g : t.scanOnly u) : s.scanOnly u :=
  ⟨g.1.trans h.1, g.2.trans h.2⟩

theorem State.askStop_scanOnly (s : State) (i : StationId) (p : Purpose) : s.scanOnly (s.askStop i p) := by
  unfold State.askStop
  split
  · exact ⟨rfl, rfl⟩
  · split <;> exact ⟨rfl, rfl⟩

theorem State.passEndReadings_scanOnly (s : State) : s.scanOnly s.passEndReadings := by
  have h : ∀ (l : List StationId) (s : State),
      s.scanOnly (l.foldl (fun s i => if s.readsAtPassEnd i then s.askStop i (.passEnd i) else s) s) := by
    intro l
    induction l with
    | nil => exact State.scanOnly_refl
    | cons i l ih =>
      intro s
      refine State.scanOnly_trans ?_ (ih _)
      dsimp only
      split
      · exact s.askStop_scanOnly i _
      · exact s.scanOnly_refl
  exact h _ s

theorem State.loadScanTimer_scanOnly (s : State) : s.scanOnly s.loadScanTimer := by
  unfold State.loadScanTimer; split <;> exact ⟨rfl, rfl⟩

theorem State.startPass_scanOnly (s : State) : s.scanOnly s.startPass := by
  unfold State.startPass
  dsimp only
  split
  · exact State.scanOnly_trans (State.scanOnly_trans (t := { s with scanTimer := none, passPending := false }) ⟨rfl, rfl⟩
      (State.passEndReadings_scanOnly _)) (State.loadScanTimer_scanOnly _)
  · exact ⟨rfl, rfl⟩

theorem State.endPass_scanOnly (s : State) : s.scanOnly s.endPass := by
  unfold State.endPass
  dsimp only
  have h : s.scanOnly ({ s with pass := none } : State).passEndReadings :=
    State.scanOnly_trans (t := { s with pass := none }) ⟨rfl, rfl⟩ (State.passEndReadings_scanOnly _)
  split
  · exact State.scanOnly_trans h (State.startPass_scanOnly _)
  · exact State.scanOnly_trans (State.scanOnly_trans h ⟨rfl, rfl⟩) (State.loadScanTimer_scanOnly _)

/-- The next candidate's turn touches only the scan half and the port. -/
theorem State.nextCandidate_scanOnly (s : State) : s.scanOnly s.nextCandidate := by
  unfold State.nextCandidate
  split
  · split
    · exact s.endPass_scanOnly
    · dsimp only; split <;> exact ⟨rfl, rfl⟩
  · exact s.scanOnly_refl

theorem State.join_scanOnly (s : State) : s.scanOnly s.join := ⟨rfl, rfl⟩

/-- A task added to the write list, or to its waiters, and nothing behind the scan half touched (R44). -/
theorem State.addTask_spec (s : State) (k : Task) :
    (s.addTask k).behindScanner = s.behindScanner ∧ s.taskAdded (s.addTask k) k := by
  have hb : ∀ u : State, u.beginTask.behindScanner = u.behindScanner ∧ u.beginTask.tasks = u.tasks ∧
      u.beginTask.waiters = u.waiters := by
    intro u
    unfold State.beginTask
    split
    · unfold State.issueWrite; split <;> exact ⟨rfl, rfl, rfl⟩
    · exact ⟨rfl, rfl, rfl⟩
  unfold State.addTask State.taskAdded
  by_cases h : s.tasks.length < Config.writeListPlaces ∧ s.waiters.isEmpty
  · have h' : s.tasks.length < 16 ∧ s.waiters = [] := ⟨h.1, by simpa using h.2⟩
    rw [if_pos h, if_pos h']
    refine ⟨(hb _).1, (hb _).2.1, ?_⟩
    rw [(hb _).2.2]; exact h'.2
  · have h' : ¬ (s.tasks.length < 16 ∧ s.waiters = []) := by simpa [Config.writeListPlaces] using h
    rw [if_neg h, if_neg h']
    exact ⟨rfl, rfl, rfl⟩

theorem State.taskAdded_of_lists {s t u : State} {k : Task} (h : s.taskAdded t k) (ht : u.writerLists = t.writerLists) :
    s.taskAdded u k := by
  unfold State.taskAdded at *
  have h1 : u.tasks = t.tasks := congrArg (·.1) ht
  have h2 : u.waiters = t.waiters := congrArg (·.2.1) ht
  rw [h1, h2]; exact h

/-- A candidate's place is given up where the dispatcher sees a calm state, and nothing follows (R64). -/
theorem State.giveUpPlace_of_calm {s u : State} {p : Pass} (h : s.calm) (hv : u.dispatchView = s.dispatchView)
    (hp : u.pass = some p) : u.giveUpPlace = { u with pass := some { p with place := false } } := by
  unfold State.giveUpPlace
  cases hpl : p.place
  · simp [hp, hpl]; cases u; cases p; simp_all
  · have hc : (u.updPass (fun p => { p with place := false })).atRest := State.atRest_of_calm h hv
    rw [if_pos (by simp [hp, hpl]), State.settle_of_rest hc]; simp [State.updPass, hp]

/-- A ticket's completion task joins the write list or waits to; nothing behind the scan half is touched (R44, R48). -/
theorem State.addTicket_ends {s u : State} {p : Pass} {c : Candidate} (o : TicketOutcome) (r : Reason) (l : Nat)
    (hu : u.behindScanner = s.behindScanner) (ht : u.tasks = s.tasks) (hw : u.waiters = s.waiters)
    (hp : u.pass = some p) (hcur : p.current = some c) :
    ∃ t, (u.addTicket o r l).done = .next t ∧ s.ticketEnds t c o r l := by
  refine ⟨_, rfl, ?_⟩
  have hb : u.pass.bind (·.current) = some c := by simp [hp, hcur]
  have ha := u.addTask_spec (.ticket c.addr o r l)
  have ha2 : s.taskAdded (u.addTask (.ticket c.addr o r l)) (.ticket c.addr o r l) := by
    have := ha.2; unfold State.taskAdded at *; rw [ht, hw] at this; exact this
  unfold State.addTicket
  simp only [hb]
  split
  · exact ⟨State.onlyScanner_of (by rw [(State.join_scanOnly _).1, ha.1, hu]),
      State.taskAdded_of_lists ha2 (State.join_scanOnly _).2⟩
  · refine ⟨State.onlyScanner_of (by rw [(State.join_scanOnly _).1, (State.nextCandidate_scanOnly _).1, ha.1, hu]),
      State.taskAdded_of_lists ha2 ?_⟩
    rw [(State.join_scanOnly _).2, (State.nextCandidate_scanOnly _).2]

/-- The end of a ticket, whichever of its causes: its completion task joins the write list or waits to, and nothing behind
the scan half is touched (R34, R48). `u` is the state at the ticket's end, `s` what stands behind the scan half there. -/
theorem State.endTicket_ends {s u : State} {p : Pass} {c : Candidate} (o : TicketOutcome) (r : Reason) (l : Nat)
    (hu : u.behindScanner = s.behindScanner) (ht : u.tasks = s.tasks) (hw : u.waiters = s.waiters) (hc : s.calm)
    (hp : u.pass = some p) (hcur : p.current = some c) :
    ∃ t, (u.endTicket o r l).done = .next t ∧ s.ticketEnds t c o r l := by
  have hv : u.dispatchView = s.dispatchView := by
    unfold State.dispatchView
    rw [hw, show u.endQueue = s.endQueue from congrArg (·.endQueue) hu, show u.jobs = s.jobs from congrArg (·.jobs) hu,
      show u.stations = s.stations from congrArg (·.stations) hu, show u.cals = s.cals from congrArg (·.cals) hu]
  have hup : (u.updPass (fun p => { p with phase := .taskWait })) = { u with pass := some { p with phase := .taskWait } } := by
    simp [State.updPass, hp]
  unfold State.endTicket
  rw [hup, State.giveUpPlace_of_calm (p := { p with phase := .taskWait })
    (u := { u with pass := some { p with phase := .taskWait } }) hc hv rfl]
  exact State.addTicket_ends (p := { p with phase := .taskWait, place := false }) o r l hu ht hw rfl hcur

/-- The staging table once the image's entries are placed: each of them, clamped (R104). -/
@[simp] theorem State.stageImage_staged (s : State) (data : List Byte) :
    (s.stageImage data).staged = (toneEntries data).map (min 1023 ·) := by
  simp [State.staged, State.stageImage, List.filterMap_map]

/-- The end of the image read: refused, with the staging table discarded, while a station exposes with the table; otherwise
the table is replaced by the clamped entries, and the service ends DONE_CLAMPED exactly when one was above 1023 (R104,
R154). -/
theorem State.takeToneImage_cases (s : State) (v : Service) (data : List Byte) :
    (s.toneInUse v.selector = true ∧ s.takeToneImage v data = ({ s with staging := [] } : State).refuseService) ∨
    (s.toneInUse v.selector = false ∧ s.takeToneImage v data =
      ({ s with tones := toneReplace s.tones v.selector ((toneEntries data).map (min 1023 ·)), staging := [] } :
        State).endService ((toneEntries data).any (fun e => decide (1023 < e)))) := by
  have hc : ∀ l : List Nat, (l.map (min 1023 ·) != l) = l.any (fun e => decide (1023 < e)) := by
    intro l
    induction l with
    | nil => rfl
    | cons e l ih =>
      by_cases h : 1023 < e
      · simp [h, bne, Nat.min_eq_left (Nat.le_of_lt h), Nat.ne_of_lt h]
      · simpa [bne, h, Nat.min_eq_right (Nat.le_of_not_lt h)] using ih
  unfold State.takeToneImage
  cases h : s.toneInUse v.selector with
  | true => exact .inl ⟨rfl, rfl⟩
  | false => exact .inr ⟨rfl, by simp only [Bool.false_eq_true, if_false, State.replaceTone, State.stageImage_staged, hc]; rfl⟩

/-- The end of a service whose effect is already in `u` (R34). -/
theorem State.service_ends {u : State} {p : Pass} {c : Candidate} (o : TicketOutcome) (r : Reason) (l : Nat)
    (hc : u.calm) (hp : u.pass = some p) (hcur : p.current = some c) :
    ∃ t, (u.endTicket o r l).done = .next t ∧ u.ticketEnds t c o r l :=
  State.endTicket_ends o r l rfl rfl rfl hc hp hcur

end Sys2Proof.Machine
end

