-- ==== Sys2Proof/Laws/Arbiters.lean ====
section
/-! SUPPORT. The shared operations of the port, the permit arbiter, the photometer, the exposures and the dispatcher: for
each, once, everything it can do. -/

namespace Sys2Proof.Machine

/-! ## The port (R170, R171) -/

@[simp] theorem Port.begin_list (c : Ctrl) (p : Port) : (p.begin c).list = p.list := by
  unfold Port.begin; dsimp only; split <;> rfl
@[simp] theorem Port.begin_arriving (c : Ctrl) (p : Port) : (p.begin c).arriving = p.arriving := by
  unfold Port.begin; dsimp only; split <;> rfl

/-- A tenure begun: the list's oldest request under the WAIT that stands, or, with nothing listed, parked or not master. -/
theorem Port.begin_cases (c : Ctrl) (p : Port) :
    (p.list ≠ [] ∧ (p.begin c).master = .tenure ∧ (p.begin c).transfer = 0 ∧ (p.begin c).transferWait = c.wait) ∨
    (p.list = [] ∧ (p.begin c).master = if c.parkEn then .parked else .idle) := by
  unfold Port.begin; cases p.list <;> simp

@[simp] theorem settlePort_list (c : Ctrl) (p : Port) : (settlePort c p).list = p.list := by
  unfold settlePort; repeat' split
  all_goals first | rfl | simp
@[simp] theorem settlePort_arriving (c : Ctrl) (p : Port) : (settlePort c p).arriving = p.arriving := by
  unfold settlePort; repeat' split
  all_goals first | rfl | simp

/-- The port takes up its list once. -/
@[simp] theorem settlePort_settlePort (c : Ctrl) (p : Port) : settlePort c (settlePort c p) = settlePort c p := by
  obtain ⟨l, ar, m, bf, g, d, lw, tr, tw⟩ := p
  obtain ⟨en, sc, it, pk, w⟩ := c
  cases m <;> cases l <;> cases en <;> cases pk <;> rfl

/-- The end of any event leaves the state settled. -/
theorem State.join_settled (s : State) : s.join.settled := by
  refine ⟨?_, ?_⟩
  · simp [State.join]
  · show settlePort s.ctrl s.join.port = s.join.port
    simp [State.join]

/-- A request ended: the next in the same tenure, or parked, or the bus released. -/
theorem afterRequest_cases (c : Ctrl) (p : Port) (l : List Request) :
    ((p.grantLost = true ∨ c.portEn = false) ∧ (afterRequest c p l).master = .idle) ∨
    (p.grantLost = false ∧ c.portEn = true ∧ l ≠ [] ∧ (afterRequest c p l).master = .tenure ∧
      (afterRequest c p l).transferWait = c.wait) ∨
    (p.grantLost = false ∧ c.portEn = true ∧ l = [] ∧
      (afterRequest c p l).master = if c.parkEn then .parked else .idle) := by
  unfold afterRequest
  cases hg : p.grantLost <;> cases he : c.portEn <;> cases l <;> simp

/-- A withdrawal: the requests that satisfy `p` are off the list, in order the others stay, and of one being served the
transfer on the bus is still to end; the mastership is untouched, and nothing but the port differs (R170). -/
theorem State.withdraw_spec (s : State) (p : Request → Bool) :
    (s.withdraw p).port.list = s.port.list.filter (fun r => !p r) ∧
      (∀ r ∈ (s.withdraw p).port.list, p r = false) ∧ (s.withdraw p).port.master = s.port.master ∧
      (∀ r, s.serving = some r → (s.withdraw p).port.discarding = if p r = true then some r else none) ∧
      s.onlyPort (s.withdraw p) := by
  refine ⟨rfl, fun r hr => ?_, rfl, fun r hr => ?_, rfl⟩
  · have := (List.mem_filter.mp hr).2
    simpa using this
  · have hd : s.port.discarding = none := by
      unfold State.serving at hr
      cases h : s.port.discarding with
      | none => rfl
      | some d => simp [h] at hr
    simp [State.withdraw, hd, hr, Option.filter]

/-- A word transfer ends: the request being served goes on with its next transfer, a withdrawn one's transfer ends with the
port going on, or nothing happens (R166, R170, R172). -/
theorem State.transferEnds_cases (s : State) :
    (∃ r, s.serving = some r ∧ s.port.transfer + 1 < s.port.transferCount r ∧ s.transferEnds = { s.stageTransfer r with
      port := { s.port with transfer := s.port.transfer + 1, transferWait := s.ctrl.wait } }) ∨
    (s.serving = none ∧ s.port.onBus ≠ none ∧ s.transferEnds = s.endDiscarded.join) ∨ s.transferEnds = s := by
  unfold State.transferEnds
  cases hs : s.serving with
  | some r =>
    by_cases h : s.port.transfer + 1 < s.port.transferCount r
    · exact .inl ⟨r, rfl, h, by simp [h]⟩
    · exact .inr (.inr (by simp [h]))
  | none =>
    cases h : s.port.onBus with
    | none => exact .inr (.inr (by simp))
    | some r => exact .inr (.inl ⟨rfl, by simp, by simp⟩)

/-- A soft reset at the port: the list is empty; a transfer on the bus keeps the tenure for itself alone, and otherwise the
bus is released at once (R170, R171). -/
theorem Port.softReset_spec (p : Port) :
    p.softReset.list = [] ∧ p.softReset.arriving = [] ∧
      (p.master = .tenure → p.softReset.master = .tenure ∧ p.softReset.grantLost = true ∧
        p.softReset.discarding = p.onBus) ∧
      (p.master ≠ .tenure → p.softReset.master = .idle ∧ p.softReset.discarding = none) := by
  unfold Port.softReset
  by_cases h : p.master = .tenure <;> simp [h]

/-- A stop word is asked for: a second reading of one outstanding serves both, and otherwise the request is made for the
attached job's slot (R60). -/
theorem State.askStop_cases (s : State) (i : StationId) (p : Purpose) :
    (s.stopOutstanding i = true ∧ ∃ port, s.askStop i p = { s with port := port } ∧
      port.list.length = s.port.list.length ∧ port.master = s.port.master) ∨
    (s.stopOutstanding i = false ∧ ∃ j, s.attached i = some j ∧
      s.askStop i p = s.requestRead p (addrPlus j.slotAddr 0x0C) 4) ∨
    (s.stopOutstanding i = false ∧ s.attached i = none ∧ s.askStop i p = s) := by
  unfold State.askStop
  cases h : s.stopOutstanding i
  · right
    cases hj : s.attached i with
    | none => right; simp
    | some j => left; exact ⟨rfl, j, rfl, by simp⟩
  · left
    refine ⟨rfl, _, rfl, ?_, rfl⟩
    simp

/-! ## The permit arbiter (R118) -/

/-- A line begins: only its station and, by a band reading's request, the port differ (R105, R123). -/
theorem State.startLine_spec (s : State) (i : StationId) (a : Area) (j : Nat) :
    ∃ port, { s with port := port, stations := (s.startLine i a j).stations } = s.startLine i a j ∧
      ((s.startLine i a j).st i).activity = .line a j ∧ ((s.startLine i a j).st i).state = (s.st i).state ∧
      ∀ k, k ≠ i → (s.startLine i a j).st k = s.st k := by
  have hs1 : ∃ f : Station → Station, (∀ x, (f x).state = x.state) ∧
      (if j = 0 ∧ (s.cal i).due then s.updEntry i (fun e => { e with aged := true }) else s) = s.updSt i f := by
    split
    · exact ⟨fun x => { x with sheet := x.sheet.map (fun sh =>
        { sh with openEntry := sh.openEntry.map (fun e => { e with aged := true }) }) }, fun _ => rfl, rfl⟩
    · exact ⟨id, fun _ => rfl, by cases i <;> rfl⟩
  obtain ⟨f, hf, hs1⟩ := hs1
  have hs2 : ∃ (port : Port) (g : Station → Station), (∀ x, (g x).state = x.state) ∧
      (if a = .page ∧ j % Config.bandLines = 0 then
        (if ((s.updSt i f).updSt i (fun x => { x with bandReading := none })).stopSeen i ||
            ((s.updSt i f).updSt i (fun x => { x with bandReading := none })).stopOutstanding i then
          (s.updSt i f).updSt i (fun x => { x with bandReading := none })
        else ((s.updSt i f).updSt i (fun x => { x with bandReading := none })).askStop i (.band i))
      else s.updSt i f) = { (s.updSt i g) with port := port } := by
    split
    · have hh : (s.updSt i f).updSt i (fun x => { x with bandReading := none }) =
          s.updSt i (fun x => { f x with bandReading := none }) := by cases i <;> rfl
      rw [hh]
      generalize hg : (fun x : Station => { f x with bandReading := none }) = g
      have hgs : ∀ x, (g x).state = x.state := by intro x; rw [← hg]; exact hf x
      split
      · exact ⟨s.port, g, hgs, rfl⟩
      · rcases State.askStop_cases (s.updSt i g) i (.band i) with ⟨_, p, h, _, _⟩ | ⟨_, q, _, h⟩ | ⟨_, _, h⟩
        · exact ⟨p, g, hgs, h⟩
        · exact ⟨_, g, hgs, by rw [h]; rfl⟩
        · exact ⟨s.port, g, hgs, by rw [h]; rfl⟩
    · exact ⟨s.port, f, hf, rfl⟩
  obtain ⟨port, g, hg, hs2⟩ := hs2
  refine ⟨port, ?_⟩
  unfold State.startLine
  dsimp only
  rw [hs1, hs2]
  refine ⟨rfl, by simp [State.st, State.updSt], ?_, ?_⟩
  · simp [State.st, State.updSt, hg]
  · intro k hk
    cases i <;> cases k <;> first | rfl | exact absurd rfl hk

/-- A permit returned: nothing when none is held; else it is free, or granted to the head of the waiting list. -/
theorem State.returnPermit_cases (s : State) (i : StationId) :
    (i ∉ s.permitHolders ∧ s.returnPermit i = s) ∨
    (i ∈ s.permitHolders ∧ s.permitQueue = [] ∧
      s.returnPermit i = { s with permitHolders := s.permitHolders.filter (· != i) }) ∨
    ∃ q rest, i ∈ s.permitHolders ∧ s.permitQueue = q :: rest ∧ s.returnPermit i =
      ({ s with permitHolders := s.permitHolders.filter (· != i), permitQueue := rest } : State).grantPermit q := by
  unfold State.returnPermit
  by_cases h : i ∈ s.permitHolders
  · right
    cases hq : s.permitQueue with
    | nil => left; simp [h]
    | cons q rest => right; exact ⟨q, rest, h, rfl, by simp [h]⟩
  · left; simp [h]

/-- A permit asked for: one held or waited for is not asked for again; a free one is granted; else the station waits. -/
theorem State.askPermit_cases (s : State) (i : StationId) (a : Area) :
    let s1 := s.updSt i (fun x => { x with activity := .permitWait a })
    ((i ∈ s.permitHolders ∨ i ∈ s.permitQueue) ∧ s.askPermit i a = s1) ∨
    (i ∉ s.permitHolders ∧ i ∉ s.permitQueue ∧ s.permitHolders.length < 2 ∧ s.askPermit i a = s1.grantPermit i) ∨
    (i ∉ s.permitHolders ∧ i ∉ s.permitQueue ∧ 2 ≤ s.permitHolders.length ∧
      s.askPermit i a = { s1 with permitQueue := s.permitQueue ++ [i] }) := by
  intro s1
  unfold State.askPermit
  by_cases h1 : i ∈ s.permitHolders
  · left; simp [h1, s1]
  · by_cases h2 : i ∈ s.permitQueue
    · left; simp [h2, s1]
    · right
      by_cases h3 : s.permitHolders.length < 2
      · left; simp [h1, h2, h3, Config.permits, s1]
      · right; simp [h1, h2, h3, Config.permits, s1]; omega

/-! ## The photometer (R141, R143) -/

/-- The photometer released: nothing when the station does not hold it; else it is free, or granted to the queue's head. -/
theorem State.releasePhotometer_cases (s : State) (i : StationId) :
    (s.photometer ≠ some i ∧ s.releasePhotometer i = s) ∨
    (s.photometer = some i ∧ s.photometerQueue = [] ∧ s.releasePhotometer i = { s with photometer := none }) ∨
    ∃ q rest, s.photometer = some i ∧ s.photometerQueue = q :: rest ∧
      s.releasePhotometer i = ({ s with photometerQueue := rest } : State).grantPhotometer q := by
  unfold State.releasePhotometer
  by_cases h : s.photometer = some i
  · right
    cases hq : s.photometerQueue with
    | nil => left; simp [h]
    | cons q rest => right; exact ⟨q, rest, h, rfl, by simp [h]⟩
  · left; simp [h]

/-- The photometer asked for: held or waited for already, granted when free, else the station joins the queue. -/
theorem State.askPhotometer_cases (s : State) (i : StationId) :
    ((s.photometer = some i ∨ i ∈ s.photometerQueue) ∧ s.askPhotometer i = s) ∨
    (s.photometer = none ∧ i ∉ s.photometerQueue ∧ s.askPhotometer i = s.grantPhotometer i) ∨
    (s.photometer ≠ none ∧ s.photometer ≠ some i ∧ i ∉ s.photometerQueue ∧
      s.askPhotometer i = { s with photometerQueue := s.photometerQueue ++ [i] }) := by
  unfold State.askPhotometer
  by_cases h1 : s.photometer = some i
  · left; simp [h1]
  · by_cases h2 : i ∈ s.photometerQueue
    · left; simp [h2]
    · right
      cases h3 : s.photometer with
      | none => left; simp [h2]
      | some k => right; rw [h3] at h1; simp [h2, h1]

/-- A grant of the photometer: its station in CALIBRATING, its calibration in flight, nothing else (R143). -/
theorem State.grantPhotometer_spec (s : State) (i : StationId) :
    s.grantPhotometer i = { s with photometer := some i, stations := (s.grantPhotometer i).stations,
                                   cals := (s.grantPhotometer i).cals } ∧
      ((s.grantPhotometer i).st i).state = .calibrating ∧
      (∀ k, k ≠ i → (s.grantPhotometer i).st k = s.st k ∧ (s.grantPhotometer i).cal k = s.cal k) ∧
      { (s.grantPhotometer i).cal i with flight := none } = { s.cal i with flight := none } := by
  refine ⟨rfl, by simp [State.grantPhotometer, State.st, State.updSt], ?_, by cases i <;> rfl⟩
  intro k hk
  cases i <;> cases k <;> first | exact ⟨rfl, rfl⟩ | exact absurd rfl hk

/-! ## The dispatcher (R64, R65) -/

/-- A job's end: at once when the dispatcher waits for no completion task, and in its turn otherwise. -/
theorem State.endJob_cases (s : State) (a : Addr) (o : TicketOutcome) :
    (s.dispatcherWaits = false ∧ s.endJob a o = s.finishJob a o) ∨
    (s.dispatcherWaits = true ∧ s.endJob a o =
      { s.updJob a (fun j => { j with ending := some o }) with endQueue := s.endQueue ++ [.ending a] }) := by
  unfold State.endJob; cases h : s.dispatcherWaits <;> simp

/-- The doze timer of a station that is idle and runs none is loaded (R72). -/
theorem State.dozeIfIdle_cases (s : State) (i : StationId) :
    (s.idle i = true ∧ (s.st i).dozeTimer = none ∧
      s.dozeIfIdle i = s.updSt i (fun x => { x with dozeTimer := some s.timing.dozeDelay })) ∨
    ((s.idle i = false ∨ (s.st i).dozeTimer ≠ none) ∧ s.dozeIfIdle i = s) := by
  unfold State.dozeIfIdle
  cases h : s.idle i <;> cases hd : (s.st i).dozeTimer <;> simp

/-- The ending event: the job finished, its station's doze timer perhaps loaded, its completion task added. -/
theorem State.finishJob_spec {s : State} {a : Addr} {j : Job} (o : TicketOutcome) (h : s.job a = some j) :
    ∃ u : State, s.finishJob a o = u.addTask (.completion a) ∧
      u.jobs = s.jobs.map (fun k => if k.slotAddr = a then k.finished o else k) ∧
      { u with stations := s.stations, jobs := s.jobs } = s ∧
      ∀ i, u.st i = { s.st i with dozeTimer := (u.st i).dozeTimer } := by
  unfold State.finishJob
  rw [h]
  dsimp only
  split
  · rename_i q _
    rcases State.dozeIfIdle_cases (s.updJob a (fun k => k.finished o)) q with ⟨_, _, hd⟩ | ⟨_, hd⟩
    · refine ⟨_, congrArg (State.addTask · (.completion a)) hd, rfl, rfl, ?_⟩
      intro i; cases q <;> cases i <;> rfl
    · exact ⟨_, congrArg (State.addTask · (.completion a)) hd, rfl, rfl, fun _ => rfl⟩
  · exact ⟨_, rfl, rfl, rfl, fun _ => rfl⟩

/-- A return: made when the intake list has room, and left pending otherwise. -/
theorem State.returnJob_cases (s : State) (j : Job) :
    (s.roomForReturn = true ∧ s.returnJob j = s.makeReturn j) ∨
    (s.roomForReturn = false ∧ s.returnJob j = s.updJob j.slotAddr (fun j => { j with returnPending := true })) := by
  unfold State.returnJob; cases h : s.roomForReturn <;> simp

end Sys2Proof.Machine
end

