-- ==== Sys2Proof/WellFormed.lean ====
section
/-! DEFINITION. Which terms of `Instr` stand for a command: the data of a read has a length that some request of
its kind asks for, and a FULL report carries one reading for each emitter. -/

namespace Sys2Proof

/-- The lengths of the reads: R17 and R33 (slot), R40 (kind peek), R41 (claim), R20 (ticket), R104 (tone image),
R23 (page entry), R98 with R24 (row); R145 for the readings of a FULL. -/
def Instr.wf : Instr → Bool
  | .slotReadDone d => d.length == 16 || d.length == 4
  | .kindPeekDone d => d.length == 16
  | .claimReadDone d => d.length == 16
  | .ticketHeadReadDone d => d.length == 16
  | .ticketRestReadDone d => d.length == 16 || d.length == 192
  | .toneLoad d => d.length == 512
  | .pageEntryReadDone d => d.length == 32
  | .rowFetchDone d => decide (1 ≤ d.length) && decide (d.length ≤ 16384)
  | .fullMeasurementReport _ r => r.length == Config.emitters
  | .powerOnReset | .softReset | .portEn _ | .scanEn _ | .intEn _ | .parkEn _ | .wait _ => true
  | .scanivlWrite _ _ | .look | .attnRead | .registerWrite _ _ _ | .scanTimerExpiry => true
  | .claimWriteDone | .stockSet | .supplySet | .calRequest | .stationPark | .stationWake => true
  | .stationReset | .timingSet | .serialSet | .emitterRead | .stationQuery => true
  | .outputWriteDone | .completionWriteDone | .doneWriteDone => true
  | .loadDecision _ | .passEndReadingDone _ | .boundaryReadingDone _ | .bandReadingDone _ => true
  | .dozeTimerExpiry _ | .holdTimerExpiry _ | .wakeTimerExpiry _ | .loadTimerExpiry _ => true
  | .registrationFound _ _ | .registrationFailed _ _ | .jam _ | .headFault _ | .sheetStacked _ => true
  | .moveComplete _ | .settleTimerExpiry _ | .quickMeasurementReport _ _ | .lineEnd _ => true
  | .busGrant | .busyReleased | .grantWithdrawn | .transferTimeout => true

end Sys2Proof
end

