-- ==== Sys2Proof/Laws/PerInstr.lean ====
section
/-! SUPPORT. The per-command family Lengths: a well-formed command carries data of a length that some request asks for. -/

namespace Sys2Proof

/-- The bytes a command brings with it from shared memory. -/
def Instr.data : Instr → List Byte
  | .slotReadDone d => d
  | .kindPeekDone d => d
  | .claimReadDone d => d
  | .ticketHeadReadDone d => d
  | .ticketRestReadDone d => d
  | .toneLoad d => d
  | .pageEntryReadDone d => d
  | .rowFetchDone d => d
  | .powerOnReset => []
  | .softReset => []
  | .portEn _ => []
  | .scanEn _ => []
  | .intEn _ => []
  | .parkEn _ => []
  | .wait _ => []
  | .scanivlWrite _ _ => []
  | .look => []
  | .attnRead => []
  | .registerWrite _ _ _ => []
  | .scanTimerExpiry => []
  | .claimWriteDone => []
  | .stockSet => []
  | .supplySet => []
  | .calRequest => []
  | .stationPark => []
  | .stationWake => []
  | .stationReset => []
  | .timingSet => []
  | .serialSet => []
  | .emitterRead => []
  | .stationQuery => []
  | .outputWriteDone => []
  | .completionWriteDone => []
  | .doneWriteDone => []
  | .loadDecision _ => []
  | .passEndReadingDone _ => []
  | .boundaryReadingDone _ => []
  | .bandReadingDone _ => []
  | .dozeTimerExpiry _ => []
  | .holdTimerExpiry _ => []
  | .wakeTimerExpiry _ => []
  | .loadTimerExpiry _ => []
  | .registrationFound _ _ => []
  | .registrationFailed _ _ => []
  | .jam _ => []
  | .headFault _ => []
  | .sheetStacked _ => []
  | .moveComplete _ => []
  | .settleTimerExpiry _ => []
  | .fullMeasurementReport _ _ => []
  | .quickMeasurementReport _ _ => []
  | .lineEnd _ => []
  | .busGrant => []
  | .busyReleased => []
  | .grantWithdrawn => []
  | .transferTimeout => []

end Sys2Proof

namespace Sys2Proof.Laws.Lengths

/-- The data of a well-formed command is empty, or has a length the FM4 reads: 4, 16, 32, 192, 512 bytes or a row (R17,
R20, R23, R98, R104). -/
def Statement (i : Instr) : Prop :=
  i.wf = true → i.data.length ∈ [0, 4, 16, 32, 192, 512] ∨ (∃ d, i = .rowFetchDone d ∧ 1 ≤ d.length ∧ d.length ≤ 16384)

/-- A command that brings no data. -/
theorem of_no_data {i : Instr} (h : i.data = []) : Statement i := fun _ => .inl (by simp [h])

theorem powerOnReset : Statement .powerOnReset := of_no_data rfl
theorem softReset : Statement .softReset := of_no_data rfl
theorem portEn (v : Bool) : Statement (.portEn v) := of_no_data rfl
theorem scanEn (v : Bool) : Statement (.scanEn v) := of_no_data rfl
theorem intEn (v : Bool) : Statement (.intEn v) := of_no_data rfl
theorem parkEn (v : Bool) : Statement (.parkEn v) := of_no_data rfl
theorem wait (v : BitVec 4) : Statement (.wait v) := of_no_data rfl
theorem scanivlWrite (value : Word) (lanes : BitVec 4) : Statement (.scanivlWrite value lanes) := of_no_data rfl
theorem look : Statement .look := of_no_data rfl
theorem attnRead : Statement .attnRead := of_no_data rfl
theorem registerWrite (reg : PlainReg) (value : Word) (lanes : BitVec 4) : Statement (.registerWrite reg value lanes) := of_no_data rfl
theorem scanTimerExpiry : Statement .scanTimerExpiry := of_no_data rfl
theorem slotReadDone (data : List Byte) : Statement (.slotReadDone data) := fun h =>
  .inl (by simp [Instr.wf, Instr.data] at h ⊢; omega)
theorem kindPeekDone (data : List Byte) : Statement (.kindPeekDone data) := fun h =>
  .inl (by simp [Instr.wf, Instr.data] at h ⊢; omega)
theorem claimReadDone (data : List Byte) : Statement (.claimReadDone data) := fun h =>
  .inl (by simp [Instr.wf, Instr.data] at h ⊢; omega)
theorem claimWriteDone : Statement .claimWriteDone := of_no_data rfl
theorem ticketHeadReadDone (data : List Byte) : Statement (.ticketHeadReadDone data) := fun h =>
  .inl (by simp [Instr.wf, Instr.data] at h ⊢; omega)
theorem ticketRestReadDone (data : List Byte) : Statement (.ticketRestReadDone data) := fun h =>
  .inl (by simp [Instr.wf, Instr.data] at h ⊢; omega)
theorem toneLoad (data : List Byte) : Statement (.toneLoad data) := fun h =>
  .inl (by simp [Instr.wf, Instr.data] at h ⊢; omega)
theorem stockSet : Statement .stockSet := of_no_data rfl
theorem supplySet : Statement .supplySet := of_no_data rfl
theorem calRequest : Statement .calRequest := of_no_data rfl
theorem stationPark : Statement .stationPark := of_no_data rfl
theorem stationWake : Statement .stationWake := of_no_data rfl
theorem stationReset : Statement .stationReset := of_no_data rfl
theorem timingSet : Statement .timingSet := of_no_data rfl
theorem serialSet : Statement .serialSet := of_no_data rfl
theorem emitterRead : Statement .emitterRead := of_no_data rfl
theorem stationQuery : Statement .stationQuery := of_no_data rfl
theorem outputWriteDone : Statement .outputWriteDone := of_no_data rfl
theorem completionWriteDone : Statement .completionWriteDone := of_no_data rfl
theorem doneWriteDone : Statement .doneWriteDone := of_no_data rfl
theorem loadDecision (stop : Word) : Statement (.loadDecision stop) := of_no_data rfl
theorem passEndReadingDone (stop : Word) : Statement (.passEndReadingDone stop) := of_no_data rfl
theorem boundaryReadingDone (stop : Word) : Statement (.boundaryReadingDone stop) := of_no_data rfl
theorem bandReadingDone (stop : Word) : Statement (.bandReadingDone stop) := of_no_data rfl
theorem dozeTimerExpiry (st : StationId) : Statement (.dozeTimerExpiry st) := of_no_data rfl
theorem holdTimerExpiry (st : StationId) : Statement (.holdTimerExpiry st) := of_no_data rfl
theorem wakeTimerExpiry (st : StationId) : Statement (.wakeTimerExpiry st) := of_no_data rfl
theorem loadTimerExpiry (st : StationId) : Statement (.loadTimerExpiry st) := of_no_data rfl
theorem registrationFound (st : StationId) (feed : Nat) : Statement (.registrationFound st feed) := of_no_data rfl
theorem registrationFailed (st : StationId) (feed : Nat) : Statement (.registrationFailed st feed) := of_no_data rfl
theorem jam (st : StationId) : Statement (.jam st) := of_no_data rfl
theorem headFault (st : StationId) : Statement (.headFault st) := of_no_data rfl
theorem sheetStacked (st : StationId) : Statement (.sheetStacked st) := of_no_data rfl
theorem moveComplete (st : StationId) : Statement (.moveComplete st) := of_no_data rfl
theorem settleTimerExpiry (st : StationId) : Statement (.settleTimerExpiry st) := of_no_data rfl
theorem fullMeasurementReport (st : StationId) (readings : List Nat) : Statement (.fullMeasurementReport st readings) := of_no_data rfl
theorem quickMeasurementReport (st : StationId) (q : Nat) : Statement (.quickMeasurementReport st q) := of_no_data rfl
theorem pageEntryReadDone (data : List Byte) : Statement (.pageEntryReadDone data) := fun h =>
  .inl (by simp [Instr.wf, Instr.data] at h ⊢; omega)
theorem rowFetchDone (data : List Byte) : Statement (.rowFetchDone data) := fun h =>
  .inr ⟨data, rfl, by simpa [Instr.wf] using h⟩
theorem lineEnd (st : StationId) : Statement (.lineEnd st) := of_no_data rfl
theorem busGrant : Statement .busGrant := of_no_data rfl
theorem busyReleased : Statement .busyReleased := of_no_data rfl
theorem grantWithdrawn : Statement .grantWithdrawn := of_no_data rfl
theorem transferTimeout : Statement .transferTimeout := of_no_data rfl

end Sys2Proof.Laws.Lengths
end

