-- ==== Sys2Proof/Laws/Window.lean ====
section
/-! SUPPORT. The register window's side of State, and that no shared operation of the stations, the dispatcher, the
calibration unit, the scanner or the writer changes it: for each operation one lemma. The exceptions are the ALERT count,
which rises where a station enters FAULTED, and the operations of the commands that write these fields themselves. -/

set_option linter.unusedSimpArgs false
set_option linter.unreachableTactic false
set_option linter.unusedTactic false

namespace Sys2Proof.Machine

/-- What the host sees or sets through the register window, the tone tables and the timing parameters, and the command
queue. -/
structure Window where
  ctrl : Ctrl
  portErr : Bool
  lostDone : Bool
  brdBase : Addr
  brdSlots : Nat
  scanIvl : Nat
  doneCount : Nat
  alertCount : Nat
  readData : Word
  timing : Timing
  tones : List (List Nat)
  pending : List Instr

/-- The register window's side of a state. -/
def State.window (s : State) : Window :=
  { ctrl := s.ctrl, portErr := s.portErr, lostDone := s.lostDone, brdBase := s.brdBase, brdSlots := s.brdSlots, scanIvl := s.scanIvl, doneCount := s.doneCount, alertCount := s.alertCount, readData := s.readData, timing := s.timing, tones := s.tones, pending := s.pending }

theorem State.window_ctrl {s t : State} (h : t.window = s.window) : t.ctrl = s.ctrl := congrArg Window.ctrl h
theorem State.window_portErr {s t : State} (h : t.window = s.window) : t.portErr = s.portErr := congrArg Window.portErr h
theorem State.window_lostDone {s t : State} (h : t.window = s.window) : t.lostDone = s.lostDone := congrArg Window.lostDone h
theorem State.window_brdBase {s t : State} (h : t.window = s.window) : t.brdBase = s.brdBase := congrArg Window.brdBase h
theorem State.window_brdSlots {s t : State} (h : t.window = s.window) : t.brdSlots = s.brdSlots := congrArg Window.brdSlots h
theorem State.window_scanIvl {s t : State} (h : t.window = s.window) : t.scanIvl = s.scanIvl := congrArg Window.scanIvl h
theorem State.window_doneCount {s t : State} (h : t.window = s.window) : t.doneCount = s.doneCount := congrArg Window.doneCount h
theorem State.window_alertCount {s t : State} (h : t.window = s.window) : t.alertCount = s.alertCount := congrArg Window.alertCount h
theorem State.window_readData {s t : State} (h : t.window = s.window) : t.readData = s.readData := congrArg Window.readData h
theorem State.window_timing {s t : State} (h : t.window = s.window) : t.timing = s.timing := congrArg Window.timing h
theorem State.window_tones {s t : State} (h : t.window = s.window) : t.tones = s.tones := congrArg Window.tones h
theorem State.window_pending {s t : State} (h : t.window = s.window) : t.pending = s.pending := congrArg Window.pending h

/-- An update of any of the other fields. -/
theorem State.window_with (s : State) (x_port : Port) (x_scanTimer : Option Nat) (x_passPending : Bool) (x_pass : Option Pass) (x_held : List HeldSlot) (x_tasks : List Task) (x_waiters : List Task) (x_plan : List PlannedWrite) (x_jobs : List Job) (x_endQueue : List DispatchEvent) (x_serial : Word) (x_staging : List (Option Nat)) (x_stations : PerStation Station) (x_cals : PerStation CalUnit) (x_permitHolders : List StationId) (x_permitQueue : List StationId) (x_photometer : Option StationId) (x_photometerQueue : List StationId) (x_choices : Nat) :
    State.window { s with port := x_port, scanTimer := x_scanTimer, passPending := x_passPending, pass := x_pass, held := x_held, tasks := x_tasks, waiters := x_waiters, plan := x_plan, jobs := x_jobs, endQueue := x_endQueue, serial := x_serial, staging := x_staging, stations := x_stations, cals := x_cals, permitHolders := x_permitHolders, permitQueue := x_permitQueue, photometer := x_photometer, photometerQueue := x_photometerQueue, choices := x_choices } = s.window := rfl

theorem State.updSt_window (s : State) (i : StationId) (f : Station → Station) : (s.updSt i f).window = s.window := rfl

theorem State.updCal_window (s : State) (i : StationId) (f : CalUnit → CalUnit) : (s.updCal i f).window = s.window := rfl

theorem State.updSheet_window (s : State) (i : StationId) (f : Sheet → Sheet) :
    (s.updSheet i f).window = s.window := by
  unfold State.updSheet
  repeat' (first | split | simp only [State.updSt_window, State.window_with])

theorem State.updEntry_window (s : State) (i : StationId) (f : FrameEntry → FrameEntry) :
    (s.updEntry i f).window = s.window := by
  unfold State.updEntry
  repeat' (first | split | simp only [State.updSheet_window, State.window_with])

theorem State.updJob_window (s : State) (a : Addr) (f : Job → Job) : (s.updJob a f).window = s.window := rfl

theorem State.request_window (s : State) (r : Request) : (s.request r).window = s.window := rfl

theorem State.requestRead_window (s : State) (p : Purpose) (a : Addr) (n : Nat) :
    (s.requestRead p a n).window = s.window := by
  unfold State.requestRead
  repeat' (first | split | simp only [State.request_window, State.window_with])

theorem State.requestWrite_window (s : State) (p : Purpose) (a : Addr) (d : List Byte) :
    (s.requestWrite p a d).window = s.window := by
  unfold State.requestWrite
  repeat' (first | split | simp only [State.request_window, State.window_with])

theorem State.endRequest_window (s : State) : (s.endRequest).window = s.window := rfl

theorem State.endDiscarded_window (s : State) : (s.endDiscarded).window = s.window := rfl

theorem State.withdraw_window (s : State) (p : Request → Bool) :
    (s.withdraw p).window = s.window := by
  unfold State.withdraw
  repeat' (first | split | simp only [State.window_with])

theorem State.join_window (s : State) : (s.join).window = s.window := rfl

theorem State.stageTransfer_window (s : State) (r : Request) : (s.stageTransfer r).window = s.window := by
  unfold State.stageTransfer
  repeat' (first | split | simp only [State.window_with])

theorem State.transferEnds_window (s : State) : (s.transferEnds).window = s.window := by
  unfold State.transferEnds
  repeat' (first | split | simp only [State.join_window, State.endDiscarded_window, State.stageTransfer_window, State.window_with])

theorem State.askStop_window (s : State) (i : StationId) (p : Purpose) :
    (s.askStop i p).window = s.window := by
  unfold State.askStop
  repeat' (first | split | simp only [State.requestRead_window, State.window_with])

theorem State.seeStop_window (s : State) (i : StationId) :
    (s.seeStop i).window = s.window := by
  unfold State.seeStop
  repeat' (first | split | simp only [State.updJob_window, State.window_with])

theorem State.emittersOff_window (s : State) (i : StationId) :
    (s.emittersOff i).window = s.window := by
  unfold State.emittersOff
  repeat' (first | split | simp only [State.updSt_window, State.window_with])

theorem State.startLine_window (s : State) (i : StationId) (a : Area) (j : Nat) :
    (s.startLine i a j).window = s.window := by
  unfold State.startLine
  repeat' (first | split | simp only [State.updSt_window, State.updEntry_window, State.askStop_window,
    State.window_with])

theorem State.grantPermit_window (s : State) (i : StationId) :
    (s.grantPermit i).window = s.window := by
  unfold State.grantPermit
  repeat' (first | split | simp only [State.updSt_window, State.startLine_window, State.window_with])

theorem State.askPermit_window (s : State) (i : StationId) (a : Area) :
    (s.askPermit i a).window = s.window := by
  unfold State.askPermit
  repeat' (first | split | simp only [State.updSt_window, State.grantPermit_window, State.window_with])

theorem State.leavePermitQueue_window (s : State) (i : StationId) : (s.leavePermitQueue i).window = s.window := rfl

theorem State.returnPermit_window (s : State) (i : StationId) :
    (s.returnPermit i).window = s.window := by
  unfold State.returnPermit
  repeat' (first | split | simp only [State.grantPermit_window, State.window_with])

theorem State.grantPhotometer_window (s : State) (i : StationId) :
    (s.grantPhotometer i).window = s.window := by
  unfold State.grantPhotometer
  repeat' (first | split | simp only [State.updSt_window, State.updCal_window, State.window_with])

theorem State.askPhotometer_window (s : State) (i : StationId) :
    (s.askPhotometer i).window = s.window := by
  unfold State.askPhotometer
  repeat' (first | split | simp only [State.grantPhotometer_window, State.window_with])

theorem State.leavePhotometerQueue_window (s : State) (i : StationId) : (s.leavePhotometerQueue i).window = s.window := rfl

theorem State.releasePhotometer_window (s : State) (i : StationId) :
    (s.releasePhotometer i).window = s.window := by
  unfold State.releasePhotometer
  repeat' (first | split | simp only [State.grantPhotometer_window, State.window_with])

theorem State.abortCalibration_window (s : State) (i : StationId) :
    (s.abortCalibration i).window = s.window := by
  unfold State.abortCalibration
  repeat' (first | split | simp only [State.updSt_window, State.updCal_window, State.releasePhotometer_window,
    State.window_with])

theorem State.beginWake_window (s : State) (i : StationId) :
    (s.beginWake i).window = s.window := by
  unfold State.beginWake
  repeat' (first | split | simp only [State.updSt_window, State.window_with])

theorem State.dozeIfIdle_window (s : State) (i : StationId) :
    (s.dozeIfIdle i).window = s.window := by
  unfold State.dozeIfIdle
  repeat' (first | split | simp only [State.updSt_window, State.window_with])

theorem State.issueWrite_window (s : State) :
    (s.issueWrite).window = s.window := by
  unfold State.issueWrite
  repeat' (first | split | simp only [State.requestWrite_window, State.window_with])

theorem State.beginTask_window (s : State) :
    (s.beginTask).window = s.window := by
  unfold State.beginTask
  repeat' (first | split | simp only [State.issueWrite_window, State.window_with])

theorem State.addTask_window (s : State) (t : Task) :
    (s.addTask t).window = s.window := by
  unfold State.addTask
  repeat' (first | split | simp only [State.beginTask_window, State.window_with])

theorem State.finishJob_window (s : State) (a : Addr) (outcome : TicketOutcome) :
    (s.finishJob a outcome).window = s.window := by
  unfold State.finishJob
  repeat' (first | split | simp only [State.updJob_window, State.dozeIfIdle_window, State.addTask_window,
    State.window_with])

theorem State.endJob_window (s : State) (a : Addr) (outcome : TicketOutcome) :
    (s.endJob a outcome).window = s.window := by
  unfold State.endJob
  repeat' (first | split | simp only [State.updJob_window, State.finishJob_window, State.window_with])

theorem State.testStock_window (s : State) (j : Job) :
    (s.testStock j).window = s.window := by
  unfold State.testStock
  repeat' (first | split | simp only [State.endJob_window, State.window_with])

theorem State.testAllStock_window (s : State) : s.testAllStock.window = s.window := by
  unfold State.testAllStock
  generalize s.intake = l
  induction l generalizing s with
  | nil => rfl
  | cons j l ih => rw [List.foldl_cons, ih, State.testStock_window]

theorem State.makeReturn_window (s : State) (j : Job) :
    (s.makeReturn j).window = s.window := by
  unfold State.makeReturn
  repeat' (first | split | simp only [State.updJob_window, State.withdraw_window, State.dozeIfIdle_window,
    State.testStock_window, State.window_with])

theorem State.returnJob_window (s : State) (j : Job) :
    (s.returnJob j).window = s.window := by
  unfold State.returnJob
  repeat' (first | split | simp only [State.updJob_window, State.makeReturn_window, State.window_with])

theorem State.beginLoad_window (s : State) (i : StationId) (j : Job) (window : Nat × Nat) :
    (s.beginLoad i j window).window = s.window := by
  unfold State.beginLoad
  repeat' (first | split | simp only [State.updSt_window, State.updJob_window, State.window_with])

theorem State.decideLoad_window (s : State) (i : StationId) (j : Job) :
    (s.decideLoad i j).window = s.window := by
  unfold State.decideLoad
  repeat' (first | split | simp only [State.updJob_window, State.endJob_window, State.returnJob_window,
    State.beginLoad_window, State.window_with])

theorem State.loadDecision_window (s : State) (i : StationId) (stop : Bool) :
    (s.loadDecision i stop).window = s.window := by
  unfold State.loadDecision
  repeat' (first | split | simp only [State.updJob_window, State.endJob_window, State.decideLoad_window,
    State.window_with])

theorem State.runDecision_window (s : State) (i : StationId) :
    (s.runDecision i).window = s.window := by
  unfold State.runDecision
  repeat' (first | split | simp only [State.askStop_window, State.loadDecision_window, State.window_with])

theorem State.offer_window (s : State) (i : StationId) :
    (s.offer i).window = s.window := by
  unfold State.offer
  repeat' (first | split | simp only [State.runDecision_window, State.window_with])

theorem State.readyActions_window (s : State) (i : StationId) :
    (s.readyActions i).window = s.window := by
  unfold State.readyActions
  repeat' (first | split | simp only [State.updSt_window, State.askPhotometer_window, State.dozeIfIdle_window,
    State.offer_window, State.window_with])

theorem State.attach_window (s : State) (i : StationId) (j : Job) :
    (s.attach i j).window = s.window := by
  unfold State.attach
  repeat' (first | split | simp only [State.updSt_window, State.updJob_window, State.beginWake_window,
    State.readyActions_window, State.window_with])

theorem State.handover_window (s : State) (i : StationId) :
    (s.handover i).window = s.window := by
  unfold State.handover
  repeat' (first | split | simp only [State.updSt_window, State.updJob_window, State.endJob_window,
    State.window_with])

theorem State.stackedEvent_window (s : State) (i : StationId) :
    (s.stackedEvent i).window = s.window := by
  unfold State.stackedEvent
  repeat' (first | split | simp only [State.readyActions_window, State.handover_window, State.window_with])

theorem State.updPass_window (s : State) (f : Pass → Pass) :
    (s.updPass f).window = s.window := by
  unfold State.updPass
  repeat' (first | split | simp only [State.window_with])

theorem State.passEndReadings_window (s : State) : s.passEndReadings.window = s.window := by
  unfold State.passEndReadings
  generalize allStations = l
  induction l generalizing s with
  | nil => rfl
  | cons i l ih =>
    rw [List.foldl_cons, ih]
    split
    · exact State.askStop_window _ _ _
    · rfl

theorem State.loadScanTimer_window (s : State) :
    (s.loadScanTimer).window = s.window := by
  unfold State.loadScanTimer
  repeat' (first | split | simp only [State.window_with])

theorem State.startPass_window (s : State) :
    (s.startPass).window = s.window := by
  unfold State.startPass
  repeat' (first | split | simp only [State.requestRead_window, State.passEndReadings_window,
    State.loadScanTimer_window, State.window_with])

theorem State.endPass_window (s : State) :
    (s.endPass).window = s.window := by
  unfold State.endPass
  repeat' (first | split | simp only [State.passEndReadings_window, State.loadScanTimer_window,
    State.startPass_window, State.window_with])

theorem State.requestClaim_window (s : State) (c : Candidate) :
    (s.requestClaim c).window = s.window := by
  unfold State.requestClaim
  repeat' (first | split | simp only [State.request_window, State.window_with])

theorem State.nextCandidate_window (s : State) :
    (s.nextCandidate).window = s.window := by
  unfold State.nextCandidate
  repeat' (first | split | simp only [State.requestRead_window, State.endPass_window, State.requestClaim_window,
    State.window_with])

theorem State.addTicket_window (s : State) (outcome : TicketOutcome) (reason : Reason) (length : Nat) :
    (s.addTicket outcome reason length).window = s.window := by
  unfold State.addTicket
  repeat' (first | split | simp only [State.addTask_window, State.nextCandidate_window, State.window_with])

theorem State.dispatchStep_window {s t : State} (h : s.dispatchStep = some t) : t.window = s.window := by
  unfold State.dispatchStep at h
  split at h
  · cases h; simp only [State.readyActions_window, State.handover_window, State.window_with]
  · cases h
    split <;> simp only [State.finishJob_window, State.window_with]
  · split at h
    · cases h; exact State.makeReturn_window _ _
    · split at h
      · cases h; exact State.attach_window _ _ _
      · cases h; exact State.addTicket_window _ _ _ _
      · cases h

theorem settleDispatch_window (n : Nat) (s : State) : (settleDispatch n s).window = s.window := by
  induction n generalizing s with
  | zero => rfl
  | succ n ih =>
    unfold settleDispatch
    split
    · rw [ih]; exact State.dispatchStep_window (by assumption)
    · rfl

theorem State.settle_window (s : State) : s.settle.window = s.window := settleDispatch_window _ _

theorem State.giveUpPlace_window (s : State) :
    (s.giveUpPlace).window = s.window := by
  unfold State.giveUpPlace
  repeat' (first | split | simp only [State.settle_window, State.updPass_window, State.window_with])

theorem State.skipCandidate_window (s : State) :
    (s.skipCandidate).window = s.window := by
  unfold State.skipCandidate
  repeat' (first | split | simp only [State.nextCandidate_window, State.giveUpPlace_window, State.window_with])

theorem State.endTicket_window (s : State) (outcome : TicketOutcome) (reason : Reason) (length : Nat) :
    (s.endTicket outcome reason length).window = s.window := by
  unfold State.endTicket
  repeat' (first | split | simp only [State.addTicket_window, State.updPass_window, State.giveUpPlace_window,
    State.window_with])

theorem State.readHeld_window (s : State) (p : Pass) (l : List Addr) :
    (s.readHeld p l).window = s.window := by
  unfold State.readHeld
  repeat' (first | split | simp only [State.requestRead_window, State.nextCandidate_window, State.window_with])

theorem State.nextSlotRead_window (s : State) :
    (s.nextSlotRead).window = s.window := by
  unfold State.nextSlotRead
  repeat' (first | split | simp only [State.requestRead_window, State.readHeld_window, State.window_with])

theorem State.examineHeld_window (s : State) (a : Addr) (stop : Nat) :
    (s.examineHeld a stop).window = s.window := by
  unfold State.examineHeld
  repeat' (first | split | simp only [State.updJob_window, State.endJob_window, State.settle_window,
    State.window_with])

theorem State.takeSlot_window (s : State) (d : List Byte) :
    (s.takeSlot d).window = s.window := by
  unfold State.takeSlot
  repeat' (first | split | simp only [State.updPass_window, State.examineHeld_window, State.window_with])

theorem State.admitJob_window (s : State) (j : Job) :
    (s.admitJob j).window = s.window := by
  unfold State.admitJob
  repeat' (first | split | simp only [State.testStock_window, State.settle_window, State.updPass_window,
    State.giveUpPlace_window, State.window_with])

theorem State.requestRow_window (s : State) (i : StationId) (m : Mapping) (b : BandBuffer) :
    (s.requestRow i m b).window = s.window := by
  unfold State.requestRow
  repeat' (first | split | simp only [State.requestRead_window, State.window_with])

theorem State.beginNextBand_window (s : State) (i : StationId) :
    (s.beginNextBand i).window = s.window := by
  unfold State.beginNextBand
  repeat' (first | split | simp only [State.updSt_window, State.requestRow_window, State.window_with])

theorem State.beginBands_window (s : State) (i : StationId) :
    (s.beginBands i).window = s.window := by
  unfold State.beginBands
  repeat' (first | split | simp only [State.beginNextBand_window, State.window_with])

theorem State.endMapping_window (s : State) (i : StationId) :
    (s.endMapping i).window = s.window := by
  unfold State.endMapping
  repeat' (first | split | simp only [State.updSt_window, State.withdraw_window, State.window_with])

theorem State.position_window (s : State) (i : StationId) (a : Area) (x : Int) (y : Nat) :
    (s.position i a x y).window = s.window := by
  unfold State.position
  repeat' (first | split | simp only [State.updSt_window, State.window_with])

theorem State.positionFrame_window (s : State) (i : StationId) (a : Area) (j : Job) (sh : Sheet) (p : Nat) :
    (s.positionFrame i a j sh p).window = s.window := by
  unfold State.positionFrame
  repeat' (first | split | simp only [State.position_window, State.window_with])

theorem State.indexDecision_window (s : State) (i : StationId) (j : Job) (sh : Sheet) :
    (s.indexDecision i j sh).window = s.window := by
  unfold State.indexDecision
  repeat' (first | split | simp only [State.updSheet_window, State.positionFrame_window, State.window_with])

theorem State.nextArea_window (s : State) (i : StationId) :
    (s.nextArea i).window = s.window := by
  unfold State.nextArea
  repeat' (first | split | simp only [State.updSt_window, State.requestRead_window, State.position_window,
    State.indexDecision_window, State.window_with])

theorem State.boundaryDecision_window (s : State) (i : StationId) :
    (s.boundaryDecision i).window = s.window := by
  unfold State.boundaryDecision
  repeat' (first | split | simp only [State.updSt_window, State.askPhotometer_window, State.nextArea_window,
    State.window_with])

theorem State.boundary_window (s : State) (i : StationId) :
    (s.boundary i).window = s.window := by
  unfold State.boundary
  repeat' (first | split | simp only [State.updSt_window, State.askStop_window, State.boundaryDecision_window,
    State.window_with])

theorem State.openFrame_window (s : State) (i : StationId) (n : Nat) (key : List Byte) (status : FrameStatus) :
    (s.openFrame i n key status).window = s.window := by
  unfold State.openFrame
  repeat' (first | split | simp only [State.updSheet_window, State.window_with])

theorem State.beginFrame_window (s : State) (i : StationId) (n : Nat) (e : PageEntry) :
    (s.beginFrame i n e).window = s.window := by
  unfold State.beginFrame
  repeat' (first | split | simp only [State.updSt_window, State.beginBands_window, State.positionFrame_window,
    State.openFrame_window, State.window_with])

theorem State.voidUnread_window (s : State) (i : StationId) (n : Nat) :
    (s.voidUnread i n).window = s.window := by
  unfold State.voidUnread
  repeat' (first | split | simp only [State.positionFrame_window, State.openFrame_window, State.window_with])

theorem State.voidBeforeExposure_window (s : State) (i : StationId) :
    (s.voidBeforeExposure i).window = s.window := by
  unfold State.voidBeforeExposure
  repeat' (first | split | simp only [State.updSt_window, State.updEntry_window, State.askPermit_window,
    State.endMapping_window, State.window_with])

theorem State.abortFrame_window (s : State) (i : StationId) (status : FrameStatus) :
    (s.abortFrame i status).window = s.window := by
  unfold State.abortFrame
  repeat' (first | split | simp only [State.updSt_window, State.updEntry_window, State.endMapping_window,
    State.window_with])

theorem State.frameEndEvent_window (s : State) (i : StationId) :
    (s.frameEndEvent i).window = s.window := by
  unfold State.frameEndEvent
  repeat' (first | split | simp only [State.updCal_window, State.window_with])

theorem State.endExposure_window (s : State) (i : StationId) (next : StationState) :
    (s.endExposure i next).window = s.window := by
  unfold State.endExposure
  repeat' (first | split | simp only [State.updSt_window, State.returnPermit_window, State.window_with])

theorem State.endFrame_window (s : State) (i : StationId) :
    (s.endFrame i).window = s.window := by
  unfold State.endFrame
  repeat' (first | split | simp only [State.updSheet_window, State.endMapping_window, State.frameEndEvent_window,
    State.endExposure_window, State.window_with])

theorem State.holdLine_window (s : State) (i : StationId) (b : Nat) :
    (s.holdLine i b).window = s.window := by
  unfold State.holdLine
  repeat' (first | split | simp only [State.updSt_window, State.updEntry_window, State.window_with])

theorem State.bandBoundary_window (s : State) (i : StationId) (b : Nat) :
    (s.bandBoundary i b).window = s.window := by
  unfold State.bandBoundary
  repeat' (first | split | simp only [State.updSt_window, State.seeStop_window, State.startLine_window,
    State.beginBands_window, State.abortFrame_window, State.holdLine_window, State.window_with])

theorem State.pageFrameEnd_window (s : State) (i : StationId) :
    (s.pageFrameEnd i).window = s.window := by
  unfold State.pageFrameEnd
  repeat' (first | split | simp only [State.seeStop_window, State.boundaryDecision_window, State.boundary_window,
    State.endFrame_window, State.window_with])

theorem State.bandFull_window (s : State) (i : StationId) (b : Nat) :
    (s.bandFull i b).window = s.window := by
  unfold State.bandFull
  repeat' (first | split | simp only [State.startLine_window, State.askPermit_window, State.window_with])

theorem State.takeRow_window (s : State) (i : StationId) (d : List Byte) :
    (s.takeRow i d).window = s.window := by
  unfold State.takeRow
  repeat' (first | split | simp only [State.updSt_window, State.requestRow_window, State.beginBands_window,
    State.bandFull_window, State.window_with])

theorem State.readFault_window (s : State) (i : StationId) :
    (s.readFault i).window = s.window := by
  unfold State.readFault
  repeat' (first | split | simp only [State.updSt_window, State.voidBeforeExposure_window, State.abortFrame_window,
    State.window_with])

theorem State.loseSheet_window (s : State) (i : StationId) :
    (s.loseSheet i).window = s.window := by
  unfold State.loseSheet
  repeat' (first | split | simp only [State.updSt_window, State.updJob_window, State.endJob_window,
    State.window_with])

theorem State.dropWork_window (s : State) (i : StationId) :
    (s.dropWork i).window = s.window := by
  unfold State.dropWork
  repeat' (first | split | simp only [State.updJob_window, State.returnJob_window, State.handover_window,
    State.loseSheet_window, State.window_with])

theorem State.leaveAll_window (s : State) (i : StationId) :
    (s.leaveAll i).window = s.window := by
  unfold State.leaveAll
  repeat' (first | split | simp only [State.withdraw_window, State.leavePermitQueue_window,
    State.returnPermit_window, State.leavePhotometerQueue_window, State.abortCalibration_window, State.window_with])

theorem State.takePeek_window (s : State) (data : List Byte) :
    (s.takePeek data).window = s.window := by
  unfold State.takePeek
  repeat' (first | split | simp only [State.updPass_window, State.requestClaim_window, State.skipCandidate_window,
    State.window_with])

theorem State.lockWrite_window (s : State) (data : List Byte) :
    (s.lockWrite data).window = s.window := by
  unfold State.lockWrite
  repeat' (first | split | simp only [State.updPass_window, State.window_with])

theorem State.takeClaim_window (s : State) :
    (s.takeClaim).window = s.window := by
  unfold State.takeClaim
  repeat' (first | split | simp only [State.requestRead_window, State.updPass_window, State.window_with])

theorem State.takeTicketHead_window (s : State) (data : List Byte) :
    (s.takeTicketHead data).window = s.window := by
  unfold State.takeTicketHead
  repeat' (first | split | simp only [State.requestRead_window, State.updPass_window, State.endTicket_window,
    State.window_with])

theorem State.takeFiche_window (s : State) (c : Candidate) (ticket : List Byte) :
    (s.takeFiche c ticket).window = s.window := by
  unfold State.takeFiche
  repeat' (first | split | simp only [State.nextCandidate_window, State.endTicket_window, State.admitJob_window,
    State.window_with])

theorem State.takeService_window (s : State) (v : Service) :
    (s.takeService v).window = s.window := by
  unfold State.takeService
  repeat' (first | split | simp only [State.requestRead_window, State.updPass_window, State.endTicket_window,
    State.window_with])

theorem State.takeTicket_window (s : State) (head data : List Byte) :
    (s.takeTicket head data).window = s.window := by
  unfold State.takeTicket
  repeat' (first | split | simp only [State.takeFiche_window, State.takeService_window, State.window_with])

theorem State.endService_window (s : State) (clamped : Bool) :
    (s.endService clamped).window = s.window := by
  unfold State.endService
  repeat' (first | split | simp only [State.endTicket_window, State.window_with])

theorem State.refuseService_window (s : State) :
    (s.refuseService).window = s.window := by
  unfold State.refuseService
  repeat' (first | split | simp only [State.endTicket_window, State.window_with])

theorem State.supplyChanged_window (s : State) (i : StationId) :
    (s.supplyChanged i).window = s.window := by
  unfold State.supplyChanged
  repeat' (first | split | simp only [State.updJob_window, State.runDecision_window, State.window_with])

theorem State.dueMarkSet_window (s : State) (i : StationId) :
    (s.dueMarkSet i).window = s.window := by
  unfold State.dueMarkSet
  repeat' (first | split | simp only [State.updEntry_window, State.beginWake_window, State.readyActions_window,
    State.window_with])

theorem State.parkStation_window (s : State) (i : StationId) :
    (s.parkStation i).window = s.window := by
  unfold State.parkStation
  repeat' (first | split | simp only [State.updSt_window, State.updCal_window, State.leavePhotometerQueue_window,
    State.window_with])

theorem State.keepJob_window (s : State) (i : StationId) :
    (s.keepJob i).window = s.window := by
  unfold State.keepJob
  repeat' (first | split | simp only [State.updJob_window, State.window_with])

theorem State.placeReset_window (s : State) (i : StationId) :
    (s.placeReset i).window = s.window := by
  unfold State.placeReset
  repeat' (first | split | simp only [State.updSt_window, State.updCal_window, State.window_with])

theorem State.resetStation_window (s : State) (i : StationId) :
    (s.resetStation i).window = s.window := by
  unfold State.resetStation
  repeat' (first | split | simp only [State.readyActions_window, State.settle_window, State.dropWork_window,
    State.leaveAll_window, State.keepJob_window, State.placeReset_window, State.window_with])

theorem State.endReset_window (s : State) (a : Option Addr) : (s.endReset a).window = s.window := by
  unfold State.endReset
  repeat' (first | split | simp only [State.endService_window, State.updPass_window, State.giveUpPlace_window,
    State.window_with])

theorem foldl_window (f : State → StationId → State) (h : ∀ s i, (f s i).window = s.window) (l : List StationId)
    (s : State) : (l.foldl f s).window = s.window := by
  induction l generalizing s with
  | nil => rfl
  | cons i l ih => rw [List.foldl_cons, ih, h]

theorem State.dozeDelaySet_window (s : State) : s.dozeDelaySet.window = s.window := by
  unfold State.dozeDelaySet
  split
  · exact foldl_window _ (fun _ _ => State.updSt_window _ _ _) _ _
  · exact foldl_window _ State.dozeIfIdle_window _ _

theorem State.inSomeOrder_window (s : State) (l : List StationId) (f : State → StationId → State)
    (h : ∀ s i, (f s i).window = s.window) : (s.inSomeOrder l f).window = s.window := by
  unfold State.inSomeOrder
  rw [foldl_window f h]
  rfl

theorem State.writeOutput_window (s : State) (v : Service) (pieces : List (List Byte)) :
    (s.writeOutput v pieces).window = s.window := by
  unfold State.writeOutput
  repeat' (first | split | simp only [State.requestWrite_window, State.updPass_window, State.endTicket_window,
    State.window_with])

theorem State.nextOutput_window (s : State) :
    (s.nextOutput).window = s.window := by
  unfold State.nextOutput
  repeat' (first | split | simp only [State.requestWrite_window, State.updPass_window, State.endTicket_window,
    State.window_with])

theorem State.afterRejection_window (s : State) (a : Addr) (i : StationId) (n : Nat) :
    (s.afterRejection a i n).window = s.window := by
  unfold State.afterRejection
  repeat' (first | split | simp only [State.nextArea_window, State.window_with])

theorem State.taskJoined_window (s : State) (t : Task) :
    (s.taskJoined t).window = s.window := by
  unfold State.taskJoined
  repeat' (first | split | simp only [State.stackedEvent_window, State.settle_window, State.nextCandidate_window,
    State.window_with])

theorem State.taskEnded_window (s : State) (t : Task) :
    (s.taskEnded t).window = s.window := by
  unfold State.taskEnded
  repeat' (first | split | simp only [State.afterRejection_window, State.window_with])

theorem State.leaveTask_window (s : State) :
    (s.leaveTask).window = s.window := by
  unfold State.leaveTask
  repeat' (first | split | simp only [State.beginTask_window, State.taskJoined_window, State.taskEnded_window,
    State.window_with])

theorem State.countField_window (s : State) (w : PlannedWrite) :
    (s.countField w).window = s.window := by
  unfold State.countField
  repeat' (first | split | simp only [State.updJob_window, State.window_with])

theorem State.nextWrite_window (s : State) :
    (s.nextWrite).window = s.window := by
  unfold State.nextWrite
  repeat' (first | split | simp only [State.issueWrite_window, State.leaveTask_window, State.countField_window,
    State.window_with])

theorem State.dropHeld_window (s : State) :
    (s.dropHeld).window = s.window := by
  unfold State.dropHeld
  repeat' (first | split | simp only [State.window_with])

theorem State.decisionRead_window (s : State) (i : StationId) (stop : Bool) :
    (s.decisionRead i stop).window = s.window := by
  unfold State.decisionRead
  repeat' (first | split | simp only [State.loadDecision_window, State.settle_window, State.window_with])

theorem State.passEndRead_window (s : State) (i : StationId) (stop : Bool) :
    (s.passEndRead i stop).window = s.window := by
  unfold State.passEndRead
  repeat' (first | split | simp only [State.updJob_window, State.endJob_window, State.settle_window,
    State.window_with])

theorem State.boundaryRead_window (s : State) (i : StationId) (stop : Bool) :
    (s.boundaryRead i stop).window = s.window := by
  unfold State.boundaryRead
  repeat' (first | split | simp only [State.seeStop_window, State.boundaryDecision_window, State.window_with])

theorem State.bandRead_window (s : State) (i : StationId) (stop : Bool) :
    (s.bandRead i stop).window = s.window := by
  unfold State.bandRead
  repeat' (first | split | simp only [State.updSt_window, State.seeStop_window, State.abortFrame_window,
    State.window_with])

theorem State.wakeEnds_window (s : State) (i : StationId) :
    (s.wakeEnds i).window = s.window := by
  unfold State.wakeEnds
  repeat' (first | split | simp only [State.updSt_window, State.readyActions_window, State.settle_window,
    State.keepJob_window, State.window_with])

theorem State.stackSheet_window (s : State) (i : StationId) (j : Job) (sh : Sheet) :
    (s.stackSheet i j sh).window = s.window := by
  unfold State.stackSheet
  repeat' (first | split | simp only [State.updSt_window, State.addTask_window, State.stackedEvent_window,
    State.settle_window, State.window_with])

theorem State.completeQuick_window (s : State) (i : StationId) (f : Calibration) (q : Nat) :
    (s.completeQuick i f q).window = s.window := by
  unfold State.completeQuick
  repeat' (first | split | simp only [State.updSt_window, State.updCal_window, State.releasePhotometer_window,
    State.readyActions_window, State.settle_window, State.boundaryDecision_window, State.window_with])

theorem State.reachPage_window (s : State) (i : StationId) :
    (s.reachPage i).window = s.window := by
  unfold State.reachPage
  repeat' (first | split | simp only [State.updJob_window, State.window_with])

theorem State.rejectPage_window (s : State) (i : StationId) (j : Job) :
    (s.rejectPage i j).window = s.window := by
  unfold State.rejectPage
  repeat' (first | split | simp only [State.updSt_window, State.updJob_window, State.addTask_window,
    State.window_with])

theorem State.takeEntry_window (s : State) (i : StationId) (data : List Byte) :
    (s.takeEntry i data).window = s.window := by
  unfold State.takeEntry
  repeat' (first | split | simp only [State.beginFrame_window, State.reachPage_window, State.rejectPage_window,
    State.window_with])

theorem State.beginSettle_window (s : State) (i : StationId) (f : Calibration) :
    (s.beginSettle i f).window = s.window := by
  unfold State.beginSettle
  repeat' (first | split | simp only [State.updSt_window, State.updCal_window, State.window_with])

theorem State.positioned_window (s : State) (i : StationId) (a : Area) :
    (s.positioned i a).window = s.window := by
  unfold State.positioned
  repeat' (first | split | simp only [State.updSt_window, State.askPermit_window, State.window_with])

theorem State.moveEnds_window (s : State) (i : StationId) :
    (s.moveEnds i).window = s.window := by
  unfold State.moveEnds
  repeat' (first | split | simp only [State.startLine_window, State.beginSettle_window, State.positioned_window,
    State.window_with])

theorem State.countSaturated_window (s : State) (i : StationId) :
    (s.countSaturated i).window = s.window := by
  unfold State.countSaturated
  repeat' (first | split | simp only [State.updEntry_window, State.window_with])

theorem State.titleLineEnd_window (s : State) (i : StationId) (job : Job) (k j : Nat) :
    (s.titleLineEnd i job k j).window = s.window := by
  unfold State.titleLineEnd
  repeat' (first | split | simp only [State.updSt_window, State.updSheet_window, State.startLine_window,
    State.boundary_window, State.endExposure_window, State.window_with])

theorem State.pageLineEnd_window (s : State) (i : StationId) (job : Job) (j : Nat) :
    (s.pageLineEnd i job j).window = s.window := by
  unfold State.pageLineEnd
  repeat' (first | split | simp only [State.startLine_window, State.bandBoundary_window, State.pageFrameEnd_window,
    State.window_with])

theorem State.voidLineEnd_window (s : State) (i : StationId) (job : Job) (j : Nat) :
    (s.voidLineEnd i job j).window = s.window := by
  unfold State.voidLineEnd
  repeat' (first | split | simp only [State.startLine_window, State.boundary_window, State.endFrame_window,
    State.window_with])

theorem State.indexLineEnd_window (s : State) (i : StationId) (job : Job) (j : Nat) :
    (s.indexLineEnd i job j).window = s.window := by
  unfold State.indexLineEnd
  repeat' (first | split | simp only [State.updSt_window, State.updSheet_window, State.startLine_window,
    State.frameEndEvent_window, State.endExposure_window, State.window_with])

theorem State.endLine_window (s : State) (i : StationId) (job : Job) (a : Area) (j : Nat) :
    (s.endLine i job a j).window = s.window := by
  unfold State.endLine
  repeat' (first | split | simp only [State.countSaturated_window, State.titleLineEnd_window,
    State.pageLineEnd_window, State.voidLineEnd_window, State.indexLineEnd_window, State.window_with])

end Sys2Proof.Machine
end

