-- ==== Sys2Proof/Tests/Slice0.lean ====
section
/-! SUPPORT. Tests: ill-formed commands refused; worked figures of the manual; one or two small tests of each command; and
for every obligation with hypotheses a concrete state and operands that meet all of them (`witness_…`). The expected values
are the manual's, by the rule named at each test. -/

namespace Sys2Proof.Tests

open Sys2Proof.Machine

-- Each test is checked in its turn: many at once would each take a thread.
set_option Elab.async false

/-! ## Small states -/

/-- `n` zero bytes. -/
def zeros (n : Nat) : List Byte := List.replicate n 0

/-- A slot's first 16 bytes: POSTED, post number 7, ticket at 0x2000, no stop. -/
def postedSlot : List Byte := [1, 0, 0, 0, 7, 0, 0, 0, 0, 0x20, 0, 0, 0, 0, 0, 0]
/-- A slot's first 16 bytes: TAKEN, with a stop word of 5. -/
def stoppedSlot : List Byte := [2, 0, 0, 0, 7, 0, 0, 0, 0, 0x20, 0, 0, 5, 0, 0, 0]

/-- `s` with a read of `n` bytes of purpose `p` in service, PORT_EN 1. -/
def serving (p : Purpose) (n : Nat) (s : State) : State :=
  { s with ctrl := { s.ctrl with portEn := true },
           port := { Port.idle with list := [readRequest p 0x1000 n], master := .tenure } }

theorem serving_serves (p : Purpose) (n : Nat) (s : State) : (serving p n s).serves p n := ⟨rfl, _, rfl, rfl, rfl⟩

def candA : Candidate := { slot := 0, addr := 0x1000, post := 7, ticket := 0x2000 }
def candB : Candidate := { slot := 1, addr := 0x1040, post := 9, ticket := 0x3000 }

/-- A pass over two slots from 0x1000. -/
def passAt (ph : ScanPhase) (cands : List Candidate) (cur : Option Candidate) : Pass :=
  { base := 0x1000, slots := 2, phase := ph, candidates := cands, current := cur, place := false }

/-- `s` with a pass in progress. -/
def inPass (p : Pass) (s : State) : State := { s with pass := some p }

/-- A layout of 2 by 2 positions of 100 by 128 dots, T 0. -/
def layA : Layout :=
  { rows := 1, cols := 2, titleMag := 0, titleLines := 0, w := 1120, h := 640, pitchX := 1120, pitchY := 0, x0 := 2000,
    y0 := 2000, t := 0, title := zeros 144 }

def expoA : Exposure :=
  { stock := 5, tone := 0, allowance := 1, gain := 256, textLevel := 1023, lineTicks := 400, margin := 0 }

/-- A job of two pages attached to S0. -/
def jobA : Job :=
  { slot := 0, slotAddr := 0x1000, post := 7, ticket := 0x2000, layout := layA, ew := 224, lines := 128, frames := 1,
    indexCap := 9, expo := expoA, clamped := false, mask := 0, bufAddr := 0, bufSize := 0, pageCount := 2, nextPage := 0,
    planned := 2, state := .attached, station := some .s0, boundTo := none, lastStation := some .s0,
    returnPending := false, stopSeen := false, sheets := [],
    counts := { exposed := 0, failedRead := 0, rejected := 0, notExposed := 0, lost := 0 }, totalHolds := 0,
    totalSaturated := 0, framesInJob := 0, snapshot := none, kept := [], fieldsWritten := 0, lostSheet := none,
    ending := none, outcome := none }

/-- The sheet of `jobA`. -/
def sheetA : Sheet :=
  { serial := 42, index := 0, offset := 912, dead := 0, attempt := 1, titleDone := true, nextPos := 0, map := [],
    planned := 2, openEntry := none }

/-- The entry of page 0 in flight. -/
def entryA : FrameEntry :=
  { row := 0, col := 0, page := some 0, key := spaceKey, status := .ok, streak := false, aged := false, held := false,
    saturated := 0, holds := 0 }

/-- A station in READY carrying stock 5. -/
def ready : Station := { Station.reset with state := .ready, powered := true, stock := 5, supply := 3 }
/-- A station with `sheetA`, in state `st` and doing `a`. -/
def open' (st : StationState) (a : Activity) : Station := { ready with state := st, activity := a, sheet := some sheetA }
/-- A valid table with no DEAD emitter and no mark. -/
def calA : CalUnit := { CalUnit.reset with valid := true, trims := List.replicate 2048 1024 }

/-- The reset state with station S0, its calibration unit and the jobs as given. -/
def atS0 (x : Station) (c : CalUnit) (jobs : List Job) : State :=
  { State.reset with stations := { State.reset.stations with s0 := x }, cals := { State.reset.cals with s0 := c },
                     jobs := jobs }

/-- The service `k` for S0 with selector `sel`. -/
def svc (k : ServiceKind) (sel : Nat) (size : Nat) : Service :=
  { kind := k, station := .s0, selector := sel, p1 := 5, p2 := 1024, p3 := 100, p4 := 0, bufAddr := 0x4000, bufSize := size }

/-- `s` with `svc k sel size` ready to execute. -/
def withSvc (k : ServiceKind) (sel : Nat) (size : Nat) (s : State) : State :=
  inPass (passAt (.service (svc k sel size)) [] (some candA)) s

theorem withSvc_at (k : ServiceKind) (sel size : Nat) (s : State) :
    (withSvc k sel size s).atService (passAt (.service (svc k sel size)) [] (some candA)) candA (svc k sel size) :=
  ⟨rfl, rfl, rfl⟩

/-- The next state of a command, as a test reads it. -/
def after (c : Instr) (s : State) : State :=
  match exec c s with
  | .next t => t
  | _ => s

/-! ## Ill-formed commands (R17, R20, R23, R33, R40, R41, R98, R104, R145) -/

theorem test_wf_slot_read : (Instr.slotReadDone (zeros 15)).wf = false := by decide +kernel
theorem test_wf_kind_peek : (Instr.kindPeekDone (zeros 4)).wf = false := by decide +kernel
theorem test_wf_claim_read : (Instr.claimReadDone (zeros 17)).wf = false := by decide +kernel
theorem test_wf_ticket_head : (Instr.ticketHeadReadDone (zeros 32)).wf = false := by decide +kernel
theorem test_wf_ticket_rest : (Instr.ticketRestReadDone (zeros 191)).wf = false := by decide +kernel
theorem test_wf_tone_load : (Instr.toneLoad (zeros 511)).wf = false := by decide +kernel
theorem test_wf_page_entry : (Instr.pageEntryReadDone (zeros 48)).wf = false := by decide +kernel
theorem test_wf_row_fetch_empty : (Instr.rowFetchDone []).wf = false := by decide +kernel
theorem test_wf_row_fetch_long : (Instr.rowFetchDone (zeros 16385)).wf = false := by
  decide +kernel
theorem test_wf_full_report : (Instr.fullMeasurementReport .s0 [500]).wf = false := by decide +kernel
theorem test_wf_slot_read_ok : (Instr.slotReadDone (zeros 16)).wf = true ∧ (Instr.slotReadDone (zeros 4)).wf = true := by
  decide +kernel
theorem test_wf_look : Instr.look.wf = true := by decide +kernel

/-! ## Decoding: no row of the table has bits -/

theorem test_no_word_spells_a_command : decodeTableWord 8 0xA5 = none := by decide +kernel
theorem test_with_fetch_word : State.reset.withFetchWord 8 0xA5 = State.reset := rfl

/-! ## The manual's worked figures -/

/-- The cheque layout of The Fiche Sheet's worked example. -/
def cheque : Layout :=
  { rows := 10, cols := 10, titleMag := 20, titleLines := 2, w := 9000, h := 12500, pitchX := 9500, pitchY := 13000,
    x0 := 4250, y0 := 14000, t := 10000, title := zeros 144 }

theorem test_cheque_accepted : cheque.check = .none ∧ cheque.ew = 1800 ∧ cheque.lines = 2500 ∧ cheque.frames = 99 ∧
    cheque.indexCap = 1246 := by decide +kernel
theorem test_cheque_positions : cheque.left 42 = 23250 ∧ cheque.top 42 = 66000 ∧ cheque.left 99 = 89750 ∧
    cheque.top 99 = 131000 := by decide +kernel
theorem test_eleventh_column_refused : ({ cheque with cols := 11 } : Layout).check = .layoutFit := by decide +kernel
/-- The densest grid, and the same grid with a title. -/
theorem test_densest_grid : ({ cheque with
    rows := 16, cols := 24, w := 4205, pitchX := 4205, h := 9000, pitchY := 9000, x0 := 2000, y0 := 2000, t := 0 } : Layout).check = .none := by decide +kernel
theorem test_titled_grid_refused : ({ cheque with
    rows := 16, cols := 24, w := 4205, pitchX := 4205, h := 8810, pitchY := 8810, x0 := 2000, y0 := 5000, t := 3000 } : Layout).check = .layoutIndex := by decide +kernel
theorem test_crowded_title : ({ cheque with t := 3000, y0 := 5000, titleMag := 12, titleLines := 3 } : Layout).check = .titleFit ∧
    ({ cheque with t := 3000, y0 := 5000, titleMag := 12, titleLines := 2 } : Layout).check = .none := by decide +kernel
theorem test_cheque_title : titleTop cheque = 580 ∧ titleLeft cheque = 6260 := by decide +kernel

/-- A statement page of 1,700 by 2,200 pixels on the cheque frame. -/
def statementPage : PageEntry :=
  { image := 0x10000, width := 1700, height := 2200, rowPitch := 1700, format := 1, rotation := 0, key := spaceKey }
theorem test_statement_page : let m := makeMapping 0 statementPage 1800 2500 255
    m.step = 61896 ∧ m.uw = 1799 ∧ m.uh = 2329 ∧ m.left = 0 ∧ m.top = 85 := by decide +kernel
theorem test_statement_bands : let m := makeMapping 0 statementPage 1800 2500 255
    m.fetchList 0 = [] ∧ m.fetchList 1 = List.range 40 ∧ (m.fetchList 3).head? = some 101 ∧
      (m.fetchList 3).length = 60 ∧ (m.fetchList 37).getLast? = some 2198 ∧ m.fetchList 38 = [] := by decide +kernel
/-- A rotated cheque face: the sampled rows run from 1 to 699. -/
theorem test_rotated_cheque : let m := makeMapping 0 { statementPage with width := 1600, height := 700, rotation := 90 } 1800 2500 255
    m.step = 41944 ∧ m.uw = 1093 ∧ m.uh = 2499 ∧ m.left = 353 ∧ m.top = 0 ∧ m.source 353 0 = (0, 699) ∧
      (m.source 1445 0).2 = 1 := by decide +kernel

theorem test_nominal_dot : filmStage 780 800 = 998 ∧ trimStage 998 1130 = 1101 ∧ rawDwell 780 800 1130 1024 300 = 1290 ∧
    rawDwell 780 800 1130 1100 300 = 1386 := by decide +kernel
theorem test_saturated_dot : rawDwell 1020 512 1800 1100 600 = 9030 ∧ drivenDwell 9030 (dMax 1000) = 960 ∧
    saturates 9030 (dMax 1000) = true ∧ effectiveTrim 2000 1200 = 2047 := by decide +kernel
theorem test_faint_dots : drivenDwell (rawDwell 0 1024 1024 1024 64) 1960 = 0 ∧
    drivenDwell (rawDwell 4 1024 1024 1024 64) 1960 = 4 ∧ rawDwell 20 1024 1024 1024 64 = 5 := by decide +kernel
theorem test_weak_emitter : rawDwell 780 800 2047 1024 300 = 2338 ∧ rawDwell 780 800 1024 1024 300 = 1170 := by decide +kernel
theorem test_full_readings : readingTrim 650 = 1575 ∧ readingTrim 870 = 1177 ∧ readingTrim 1130 = 906 ∧ readingTrim 500 = 2047 ∧
    readingTrim 2300 = 512 ∧ readingStatus 399 = .dead ∧ readingStatus 499 = .weak ∧ readingStatus 500 = .ok := by
  decide +kernel
theorem test_quick_ratio : quickRatio 1870000 2010000 = 930 ∧ quickFactor 1870000 2010000 = 1101 := by decide +kernel

/-- DEAD emitters 125 and 1,922 and frames 1,800 dots wide: offset 122, one DEAD emitter. -/
theorem test_window_example : chooseWindow
    (List.replicate 125 .ok ++ [.dead] ++ List.replicate 1796 .ok ++ [.dead] ++ List.replicate 125 .ok) 1800 = (122, 1) := by
  decide +kernel
theorem test_head_place : headForFrame 4250 122 = 3640 := by decide +kernel
theorem test_tag_line : tagLine 1 3 42 = "SHEET 01/03 SERIAL 0000000042".toList.map (fun c => BitVec.ofNat 8 c.toNat) := by
  decide +kernel
theorem test_glyph_four : glyph 0x34 = some [0x02, 0x06, 0x0A, 0x12, 0x1F, 0x02, 0x02] := by decide +kernel

/-! ## One small test of each command -/

theorem test_power_on_reset : (after .powerOnReset { State.reset with doneCount := 3, serial := 9 }).doneCount = 0 := by
  decide +kernel
theorem test_soft_reset_abandons_a_sheet :
    let t := after .softReset (atS0 (open' .exposing .idle) calA [jobA])
    (t.st .s0).cause = .abandoned ∧ t.alertCount = 1 ∧ t.jobs = [] := by decide +kernel
theorem test_port_en : (after (.portEn true) { State.reset with
    port := { Port.idle with list := [readRequest .slotRead 0 16] } }).port.master = .requesting := by decide +kernel
theorem test_scan_en : (after (.scanEn true) { State.reset with scanIvl := 250 }).scanTimer = some 250 := by decide +kernel
theorem test_int_en : (after (.intEn true) { State.reset with doneCount := 1 }).irq = true := by decide +kernel
theorem test_park_en : (after (.parkEn false) { State.reset with
    ctrl := { Ctrl.clear with parkEn := true }, port := { Port.idle with master := .parked } }).port.master = .idle := by
  decide +kernel
theorem test_wait : (after (.wait 9) State.reset).readRegister 0x04 = 0x90 := by decide +kernel
theorem test_scanivl_lanes : (after (.scanivlWrite 0xABCDEF99 1) { State.reset with scanIvl := 0x1234 }).scanIvl = 0x1299 := by
  decide +kernel
theorem test_look : ((after .look { State.reset with
    ctrl := { Ctrl.clear with scanEn := true }, brdBase := 0x1000, brdSlots := 2 }).port.list.map (·.addr)) = [0x1000] := by
  decide +kernel
theorem test_attn_read : let t := after .attnRead { State.reset with doneCount := 3, alertCount := 2 }
    t.readData = 0x20003 ∧ t.doneCount = 0 := by decide +kernel
theorem test_brdbase_write : (after (.registerWrite .brdBase 0x10007F 15) State.reset).brdBase = 0x100040 := by decide +kernel
theorem test_brdslots_write : (after (.registerWrite .brdSlots 100 15) State.reset).brdSlots = 64 := by decide +kernel
theorem test_scan_timer_expiry : (after .scanTimerExpiry { State.reset with
    ctrl := { Ctrl.clear with scanEn := true }, scanTimer := some 250, brdSlots := 1 }).pass.isSome = true := by decide +kernel
theorem test_slot_read_candidate :
    ((after (.slotReadDone postedSlot) (serving .slotRead 16 (inPass (passAt (.slotRead 0) [] none) State.reset))).pass.map
      (·.candidates)) = some [candA] := by decide +kernel
theorem test_slot_read_not_posted :
    ((after (.slotReadDone (zeros 16)) (serving .slotRead 16 (inPass (passAt (.slotRead 0) [] none) State.reset))).pass.map
      (·.candidates)) = some [] := by decide +kernel
theorem test_kind_peek_service_is_claimed :
    ((after (.kindPeekDone ([0x10, 0] ++ zeros 14))
      (serving .kindPeek 16 (inPass (passAt .kindPeek [] (some candA)) State.reset))).pass.map (·.phase)) = some .claim := by
  decide +kernel
theorem test_claim_posted_writes :
    (after (.claimReadDone postedSlot) (serving .claim 16 (inPass (passAt .claim [] (some candA)) State.reset))).port.lockedWrite
      = true := by decide +kernel
theorem test_claim_other_skips :
    (after (.claimReadDone (zeros 16)) (serving .claim 16 (inPass (passAt .claim [] (some candA)) State.reset))).pass = none := by
  decide +kernel

/-- `s` with the claim's write under the lock in service. -/
def lockedClaim (s : State) : State :=
  let t := serving .claim 16 s
  { t with port := { t.port with lockedWrite := true } }

theorem test_claim_write_holds :
    (after .claimWriteDone (lockedClaim (inPass (passAt .claim [] (some candA)) State.reset))).held =
      [{ slot := 0, addr := 0x1000 }] := by decide +kernel
theorem test_ticket_head_service :
    ((after (.ticketHeadReadDone ([0x11, 0] ++ zeros 14))
      (serving .ticketHead 16 (inPass (passAt .ticketHead [] (some candA)) State.reset))).port.list.map (·.len)) = [16] := by
  decide +kernel
theorem test_ticket_head_unknown_kind :
    (after (.ticketHeadReadDone ([0x1B, 0] ++ zeros 14))
      (serving .ticketHead 16 (inPass (passAt .ticketHead [] (some candA)) State.reset))).tasks =
      [.ticket 0x1000 .refusedTicket .kind 0] := by decide +kernel

/-- A fiche ticket's first 16 bytes: 2 pages; and its other 192: the layout of `layA`, stock 0, gain 256, line 4 µs. -/
def ficheHead : List Byte := [1, 0, 0, 0, 2, 0, 0, 0] ++ zeros 8
def ficheRest : List Byte :=
  [1, 2, 0, 0] ++ leBytes 4 1120 ++ leBytes 4 640 ++ leBytes 4 1120 ++ leBytes 4 0 ++ leBytes 4 2000 ++ leBytes 4 2000 ++
    leBytes 4 0 ++ zeros 144 ++ [0, 0, 0, 1] ++ leBytes 2 256 ++ leBytes 2 1023 ++ leBytes 4 4000 ++ leBytes 2 0 ++ [0, 0]

theorem test_fiche_joins :
    ((after (.ticketRestReadDone ficheRest) (serving .ticketRest 192
      (inPass (passAt (.ticketRest ficheHead) [] (some candA)) State.reset))).jobs.map (fun j => (j.ew, j.state))) =
      [(224, .queued)] := by decide +kernel
theorem test_fiche_no_pages_refused :
    (after (.ticketRestReadDone ficheRest) (serving .ticketRest 192
      (inPass (passAt (.ticketRest ([1, 0] ++ zeros 14)) [] (some candA)) State.reset))).tasks =
      [.ticket 0x1000 .refusedTicket .pageCount 0] := by decide +kernel
theorem test_tone_load :
    let t := after (.toneLoad (List.replicate 512 0xFF)) (serving .toneImage 512
      (inPass (passAt (.toneImage (svc .toneLoad 2 0)) [] (some candA)) State.reset))
    toneEntry t.tones 2 7 = 1023 ∧ toneEntry t.tones 1 7 = 28 ∧ t.staging = [] ∧
      t.tasks = [.ticket 0x1000 .doneClamped .none 0] := by
  decide +kernel
theorem test_stock_set :
    let t := after .stockSet (withSvc .stockSet 0 0 State.reset)
    (t.st .s0).stock = 5 ∧ (t.st .s0).supply = 100 ∧ (t.st .s1).stock = 0 := by decide +kernel
theorem test_stock_set_refused_with_a_sheet :
    (after .stockSet (withSvc .stockSet 0 0 (atS0 (open' .sheetOpen .idle) calA [jobA]))).tasks =
      [.ticket 0x1000 .refusedState .none 0] := by decide +kernel
theorem test_supply_set : ((after .supplySet (withSvc .supplySet 0 0 State.reset)).st .s0).supply = 5 := by decide +kernel
theorem test_cal_request : ((after .calRequest (withSvc .calRequest 2 0 State.reset)).cal .s0).fullDue = true := by decide +kernel
theorem test_station_park :
    let t := after .stationPark (withSvc .stationPark 0 0 (atS0 ready calA []))
    (t.st .s0).state = .parked ∧ (t.st .s0).powered = false ∧ (t.cal .s0).valid = false := by decide +kernel
theorem test_station_wake : ((after .stationWake (withSvc .stationWake 0 0 State.reset)).st .s0).wakeTimer = some 500 := by
  decide +kernel
theorem test_station_reset_of_a_fault :
    ((after .stationReset (withSvc .stationReset 0 0 (atS0 { ready with state := .faulted, cause := .jam } calA []))).st .s0).state
      = .ready := by decide +kernel
/-- p1 to p4 are 5, 1024, 100, 0: the first and the last are brought into range. -/
theorem test_timing_set :
    let t := after .timingSet (withSvc .timingSet 0 0 State.reset)
    t.timing = { quickInterval := 10, fullInterval := 1024, dozeDelay := 100, trimHold := 10 } ∧
      t.tasks = [.ticket 0x1000 .doneClamped .none 0] := by decide +kernel
theorem test_serial_set : (after .serialSet (withSvc .serialSet 0 0 State.reset)).serial = 5 := by decide +kernel
theorem test_emitter_read_header :
    ((after .emitterRead (withSvc .emitterRead 0 17 State.reset)).port.list.map (·.data)) =
      [[0, 0, 0, 4, 0, 0, 0, 0, 0, 0, 0, 0, 0, 0, 0, 0]] := by decide +kernel
theorem test_station_query :
    ((after .stationQuery (withSvc .stationQuery 0 32 State.reset)).port.list.map (fun r => (r.addr, r.data.take 4))) =
      [(0x4000, [0, 0, 0, 1])] := by decide +kernel
theorem test_output_write_ends :
    (after .outputWriteDone (serving .output 32 (inPass (passAt (.output [(0x4000, zeros 32)] 32) [] (some candA)) State.reset))).tasks
      = [.ticket 0x1000 .doneOk .none 32] := by decide +kernel

/-- `s` with the writer at the last write of `k`, that write being `w`. -/
def writing (w : PlannedWrite) (k : Task) (p : Purpose) (s : State) : State :=
  { serving p w.data.length s with tasks := [k], plan := [w] }

theorem test_completion_write_goes_on :
    let t := after .completionWriteDone { serving .completionWrite 4 State.reset with
      tasks := [.ticket 0x1000 .doneOk .none 0], plan := [progressWrite 0x1000 0, doneWrite 0x1000] }
    t.plan = [doneWrite 0x1000] ∧ t.port.list.map (·.purpose) = [.doneWrite] := by decide +kernel
theorem test_done_write :
    let t := after .doneWriteDone (writing (doneWrite 0x1000) (.ticket 0x1000 .doneOk .none 0) .doneWrite
      { State.reset with held := [{ slot := 0, addr := 0x1000 }], doneCount := 65535 })
    t.doneCount = 65535 ∧ t.held = [] ∧ t.tasks = [] := by decide +kernel
theorem test_load_begins :
    let t := after (.loadDecision 0) (serving (.decision .s0) 4 (atS0 ready calA [{ jobA with ew := 2040 }]))
    (t.st .s0).state = .loading ∧ (t.st .s0).supply = 2 ∧ ((t.st .s0).sheet.map (·.offset)) = some 4 := by decide +kernel
theorem test_load_decision_stop :
    (after (.loadDecision 1) (serving (.decision .s0) 4 (atS0 ready calA [jobA]))).jobs.map (·.outcome) = [some .stopped] := by
  decide +kernel
theorem test_pass_end_reading :
    (after (.passEndReadingDone 7) (serving (.passEnd .s0) 4 (atS0 ready calA [jobA]))).stopSeen .s0 = true := by decide +kernel
theorem test_boundary_reading_reads_the_next_entry :
    (after (.boundaryReadingDone 0) (serving (.boundary .s0) 4 (atS0 (open' .sheetOpen .boundaryReading) calA [jobA]))).port.list.map
      (fun r => (r.addr, r.len)) = [(0x20D0, 32)] := by decide +kernel
theorem test_band_reading :
    ((after (.bandReadingDone 7) (serving (.band .s0) 4 (atS0 (open' .exposing (.line .page 3)) calA [jobA]))).st .s0).bandReading
      = some true := by decide +kernel
theorem test_doze :
    let t := after (.dozeTimerExpiry .s0) (atS0 { ready with dozeTimer := some 30 } calA [])
    (t.st .s0).state = .dozing ∧ (t.st .s0).holdTimer = some 600 := by decide +kernel
theorem test_hold :
    let t := after (.holdTimerExpiry .s0) (atS0 { ready with state := .dozing, holdTimer := some 600 } calA [])
    (t.cal .s0).quickRequired = true ∧ (t.st .s0).state = .dozing := by decide +kernel
theorem test_wake :
    let t := after (.wakeTimerExpiry .s0)
      (atS0 { Station.reset with state := .waking, wakeTimer := some 500, wakeFromParked := true } CalUnit.reset [])
    (t.st .s0).powered = true ∧ (t.st .s0).state = .calibrating ∧ t.photometer = some .s0 := by decide +kernel
theorem test_load_timer :
    let t := after (.loadTimerExpiry .s0)
      (atS0 { open' .loading .idle with loadTimer := some 4000, feeds := 1 } calA [jobA])
    (t.st .s0).transport = .feed 2 ∧ (t.st .s0).supply = 2 := by decide +kernel
theorem test_registration_found :
    let t := after (.registrationFound .s0 1)
      (atS0 { open' .loading .idle with loadTimer := some 4000, feeds := 1 } calA [jobA])
    (t.st .s0).state = .sheetOpen ∧ t.port.list.map (·.addr) = [0x100C] := by decide +kernel
theorem test_registration_of_an_earlier_feed : ((after (.registrationFailed .s0 0)
      (atS0 { open' .loading .idle with loadTimer := some 4000, feeds := 1 } calA [jobA])).st .s0).feeds = 1 := by decide +kernel
theorem test_jam :
    let t := after (.jam .s0) (atS0 ready calA [])
    (t.st .s0).cause = .jam ∧ t.alertCount = 1 := by decide +kernel
theorem test_jam_with_a_sheet :
    let t := after (.jam .s0) (atS0 (open' .exposing .idle) calA [{ jobA with state := .sheetActive }])
    (t.st .s0).sheet = none ∧ t.jobs.map (·.outcome) = [some .sheetLost] ∧ t.tasks = [.completion 0x1000] := by decide +kernel
theorem test_head_fault : ((after (.headFault .s0) (atS0 ready calA [])).st .s0).cause = .head := by decide +kernel
theorem test_head_fault_ignored_parked : (after (.headFault .s0) State.reset).alertCount = 0 := by decide +kernel
theorem test_sheet_stacked :
    let t := after (.sheetStacked .s0)
      (atS0 (open' .closing .idle) calA [{ jobA with state := .sheetActive, nextPage := 2, pageCount := 2 }])
    (t.st .s0).sheet = none ∧ t.jobs.map (·.outcome) = [some .doneWithVoids] ∧ t.tasks.length = 2 := by decide +kernel
theorem test_move_complete_takes_a_permit :
    let t := after (.moveComplete .s0)
      (atS0 { open' .sheetOpen (.positioning .index) with moveOut := true } calA [jobA])
    (t.st .s0).state = .exposing ∧ t.permitHolders = [.s0] := by decide +kernel
theorem test_move_complete_waits_for_a_permit :
    let t := after (.moveComplete .s0)
      { atS0 { open' .sheetOpen (.positioning .index) with moveOut := true } calA [jobA] with permitHolders := [.s1, .s2] }
    (t.st .s0).state = .sheetOpen ∧ t.permitQueue = [.s0] := by decide +kernel

/-- A calibration of kind `k` in phase `p` that answers a QUICK due. -/
def calFlight (k : CalKind) (p : CalPhase) : Calibration :=
  { kind := k, phase := p, answersQuickRequired := false, answersQuickDue := true, answersFullDue := false }
/-- S0 calibrating with the photometer. -/
def calibratingS0 (x : Station) (k : CalKind) (p : CalPhase) : State :=
  { atS0 { x with state := .calibrating } { calA with flight := some (calFlight k p), quickDue := true, liveSum := 2010000 } []
    with photometer := some .s0 }

theorem test_settle : ((after (.settleTimerExpiry .s0) (calibratingS0 { ready with settleTimer := some 20 } .quick .settling)).cal
    .s0).flight = some (calFlight .quick .measuring) := by decide +kernel
theorem test_full_report :
    let t := after (.fullMeasurementReport .s0 (0 :: List.replicate 2047 1130)) (calibratingS0 ready .full .measuring)
    (t.st .s0).state = .ready ∧ (t.cal .s0).dead = 1 ∧ (t.cal .s0).trims[1]? = some 906 ∧ t.photometer = none := by
  decide +kernel
theorem test_quick_report :
    let t := after (.quickMeasurementReport .s0 1870000) (calibratingS0 ready .quick .measuring)
    (t.cal .s0).h = 1101 ∧ (t.cal .s0).quickDue = false ∧ (t.st .s0).state = .ready := by decide +kernel

/-- A page entry of `w` by `h` pixels, GRAY8, its rows `w` bytes apart, from 0x10000. -/
def pageBytes (w h : Nat) : List Byte :=
  leBytes 4 0x10000 ++ leBytes 2 w ++ leBytes 2 h ++ leBytes 4 w ++ leBytes 2 1 ++ leBytes 2 0 ++ spaceKey

theorem test_page_entry_begins_a_frame :
    let t := after (.pageEntryReadDone (pageBytes 56 32))
      (serving (.pageEntry .s0) 32 (atS0 (open' .sheetOpen .entryRead) calA [jobA]))
    (t.st .s0).activity = .positioning .page ∧ (t.st .s0).head = .at (2000 - 5 * 912) ∧
      t.port.list.map (fun r => (r.addr, r.len)) = [(0x10000, 56)] := by decide +kernel
theorem test_page_entry_rejected :
    let t := after (.pageEntryReadDone (pageBytes 0 32))
      (serving (.pageEntry .s0) 32 (atS0 (open' .sheetOpen .entryRead) calA [jobA]))
    (t.st .s0).activity = .rejecting ∧ t.tasks = [.rejection 0x1000 0x2000 .s0 0] ∧
      t.jobs.map (·.counts.rejected) = [1] := by decide +kernel

/-- The mapping of an image of 56 by 32 pixels on `jobA`'s frame: four dots a pixel, all of the frame used. -/
def mapA : Mapping := makeMapping 0 (readPageEntry (pageBytes 56 32)) 224 128 0
/-- Band 0 with row 15 still to fetch. -/
def lastRow : BandBuffer := { mapA.beginBand 0 with rows := [15] }

theorem test_last_row_fills_the_band :
    let t := after (.rowFetchDone (List.replicate 56 9)) (serving (.row .s0) 56
      (atS0 { open' .sheetOpen (.positioning .page) with mapping := some { mapA with nextBand := 1 }, bufA := lastRow } calA [jobA]))
    (t.st .s0).bufA.state = .full ∧ ((t.st .s0).bufA.line 60).getLast? = some 9 ∧ ((t.st .s0).bufA.line 59).head? = some 0 ∧
      (t.st .s0).bufB.band = 1 ∧ t.port.list.length = 1 := by decide +kernel

theorem test_line_end_next_line : ((after (.lineEnd .s0) (atS0 (open' .exposing (.line .voidPass 5)) calA [jobA])).st .s0).activity
    = .line .voidPass 6 := by decide +kernel
theorem test_line_end_of_the_index :
    let t := after (.lineEnd .s0)
      { atS0 (open' .exposing (.line .index 127)) calA [jobA] with permitHolders := [.s0] }
    (t.st .s0).state = .closing ∧ (t.st .s0).transport = .carry ∧ t.permitHolders = [] ∧ (t.cal .s0).sinceFull = 1 := by
  decide +kernel
theorem test_bus_grant : (after .busGrant { State.reset with port := { Port.idle with
    list := [readRequest .slotRead 0 16], master := .requesting } }).port.master = .granted := by decide +kernel
theorem test_busy_released : (after .busyReleased { State.reset with port := { Port.idle with
    list := [readRequest .slotRead 0 16], master := .granted } }).port.master = .tenure := by decide +kernel
theorem test_grant_withdrawn : (after .grantWithdrawn (serving .slotRead 16 State.reset)).port.grantLost = true := by
  decide +kernel
theorem test_timeout_of_the_done_write :
    let t := after .transferTimeout (writing (doneWrite 0x1000) (.ticket 0x1000 .doneOk .none 0)
      .doneWrite State.reset)
    t.portErr = true ∧ t.lostDone = true ∧ t.alertCount = 1 ∧ t.doneCount = 0 := by decide +kernel
theorem test_transfers : ((readRequest .slotRead 0x1002 4).transfers.map (fun x => (x.addr, x.lanes))) =
    [(0x1000, [false, false, true, true]), (0x1004, [true, true, false, false])] := by decide +kernel

/-! ## Witnesses: for each obligation with hypotheses, a state and operands that meet them -/

/-- No event waits, no job of the intake list and no return: the dispatcher is at rest. -/
theorem rest_of {s : State} (h : s.endQueue = []) (hj : s.jobs.all (fun j => j.state != .queued && !j.returnPending) = true) :
    s.atRest := by
  have all := List.all_eq_true.1 hj
  have hi : s.intake = [] := List.filter_eq_nil_iff.2 (fun j m => by have := all j m; simp_all)
  refine (State.atRest_iff s).2 ⟨.inl h, .inl (List.find?_eq_none.2 (fun j m => by have := all j m; simp_all)), ?_⟩
  simp [State.nextMatch, State.oldestFit, hi]
theorem calm_of {s : State} (h : s.endQueue = []) (hj : s.jobs.all (fun j => j.state != .queued && !j.returnPending) = true) :
    s.calm := rest_of h hj

/-- What a check of the dispatcher's next step shows. -/
theorem rest_check {s : State} (h : s.dispatchStep.isNone = true) : s.atRest := by
  simpa [State.atRest] using h
theorem calm_check {s : State} (h : ({ s with pass := none } : State).dispatchStep.isNone = true) : s.calm := rest_check h

theorem witness_StepRunsTheFrontCommand : ({ State.reset with pending := [.look, .attnRead] } : State).pending = .look :: [.attnRead] ∧
    State.reset.pending = [] := ⟨rfl, rfl⟩
/-- A word transfer that ends: the first of four, the last of four, a locked write's only one, and that of a request that
has been withdrawn, with the bus kept, parked, and lost. -/
theorem witness_StepRunsTheFrontCommand_transfers : let s (k : Nat) (locked : Bool) : State :=
      let u := serving .slotRead 16 State.reset
      { u with port := { u.port with transfer := k, lockedWrite := locked } }
    let d (park lost : Bool) (l : List Request) : State := { State.reset with
        ctrl := { Ctrl.clear with portEn := true, parkEn := park },
        port := { Port.idle with list := l, master := .tenure, grantLost := lost,
                                 discarding := some (readRequest (.row .s0) 0x2000 8) } }
    let r := readRequest .slotRead 0x1000 16
    (∀ k b, (s k b).pending = [] ∧ (s k b).serving = some r) ∧ (r.addr.toNat % 4 + r.len + 3) / 4 = 4 ∧
      0 + 1 < 4 ∧ 4 ≤ 3 + 1 ∧ 1 ≤ 0 + 1 ∧
    (∀ p g l, (d p g l).pending = [] ∧ (d p g l).settled ∧ (d p g l).port.master = .tenure ∧
      (d p g l).port.discarding = some (readRequest (.row .s0) 0x2000 8) ∧ (d p g l).port.grantLost = g ∧
      (d p g l).ctrl.portEn = true ∧ (d p g l).port.list = l) ∧
    State.reset.port.master ≠ .tenure := by
  refine ⟨fun _ _ => ⟨rfl, rfl⟩, by decide +kernel, by decide, by decide, by decide,
    fun _ _ _ => ⟨rfl, ⟨rfl, rfl⟩, rfl, rfl, rfl, rfl, rfl⟩, by decide +kernel⟩
theorem test_transfer_ends_under_the_wait_that_stands :
    (match step { serving .slotRead 16 State.reset with ctrl := { Ctrl.clear with portEn := true, wait := 9 } } with
      | .next t => (t.port.transfer, t.port.transferWait, t.port.list.length)
      | _ => (0, 0, 0)) = (1, 9, 1) := by decide +kernel
theorem test_image_transfer_stages_two_entries : let s := serving .toneImage 512 State.reset
    (s.serving.any (·.purpose == .toneImage) = true) ∧
      (match step s with
        | .next t => (t.staging, t.port.transfer, (after .softReset t).staging)
        | _ => ([], 0, [])) = ([none, none], 1, []) := by decide +kernel
theorem test_withdrawn_transfer_is_discarded :
    let t := after (.headFault .s0) (serving (.row .s0) 8 (atS0 (open' .exposing .idle) calA []))
    let u := after (.rowFetchDone (zeros 8)) t
    t.port.list = [] ∧ t.port.master = .tenure ∧ t.port.discarding.isSome = true ∧ u.port.master = .idle ∧
      u.port.discarding = none := by decide +kernel

/-- A state with two commands waiting, S0 exposing with a permit and S1 waiting for one, S2 calibrating with S3 waiting. -/
def busy : State :=
  { State.reset with
    brdBase := 0x10040, brdSlots := 64, scanIvl := 65535, doneCount := 65535, alertCount := 255,
    stations := ⟨open' .exposing (.line .voidPass 0), open' .sheetOpen (.permitWait .page),
                 { ready with state := .calibrating }, ready⟩,
    permitHolders := [.s0, .s3], permitQueue := [.s1], photometer := some .s2, photometerQueue := [.s3],
    pending := [.intEn true, .look] }

theorem witness_SoftResetState : let s (m : Mastership) : State := { busy with port := { Port.idle with list := [readRequest .slotRead 0x1000 16], master := m } }
    (s .tenure).port.master = .tenure ∧ (s .parked).port.master ≠ .tenure ∧ (busy.st .s0).sheet.isSome = true ∧
      (busy.st .s3).sheet = none ∧ (busy.st .s3).powered = true ∧ (busy.cal .s3).valid = false ∧
      (State.reset.st .s3).state = .parked := by decide +kernel
theorem witness_StepKeepsRanges : busy.rangesHold ∧ ∃ t, step busy = .next t :=
  ⟨by unfold State.rangesHold; decide +kernel, _, rfl⟩
theorem witness_StepKeepsSettled : busy.settled ∧ ∃ t, step busy = .next t := ⟨⟨rfl, rfl⟩, _, rfl⟩
theorem witness_StepKeepsPermits : busy.permitsHold ∧ ∃ t, step busy = .next t := by
  refine ⟨⟨by decide +kernel, by decide +kernel, fun _ => rfl, ?_⟩, _, rfl⟩
  intro i; cases i <;> decide +kernel
theorem witness_StepKeepsPhotometer : busy.photometerHolds ∧ ∃ t, step busy = .next t := by
  refine ⟨⟨by decide +kernel, fun _ => by decide +kernel, ?_⟩, _, rfl⟩
  intro i; cases i <;> decide +kernel

/-- The reset state with CTRL and the port as given. -/
def portAt (en park : Bool) (m : Mastership) (l : List Request) : State :=
  { State.reset with ctrl := { Ctrl.clear with portEn := en, parkEn := park }, port := { Port.idle with list := l, master := m } }
def aRead : Request := readRequest .slotRead 0x1000 16

theorem witness_CtrlWrites :
    ((portAt true true .requesting [aRead]).settled ∧ (portAt true true .requesting [aRead]).ctrl.portEn = true) ∧
    ((portAt false false .idle [aRead]).settled ∧ (portAt false false .idle [aRead]).ctrl.portEn = false ∧
      (portAt false false .idle [aRead]).port.master = .idle) ∧
    ((portAt false false .tenure [aRead]).settled ∧ (portAt false false .tenure [aRead]).ctrl.portEn = false ∧
      (portAt false false .tenure [aRead]).port.master = .tenure) ∧
    ((portAt true false .idle []).settled ∧ (portAt true false .idle []).ctrl.parkEn = false) ∧
    ((portAt true true .parked []).settled ∧ (portAt true true .parked []).ctrl.parkEn = true) := by
  and_intros <;> rfl
theorem witness_RegisterWindowAccess : busy.settled ∧ 3 < 4 := ⟨⟨rfl, rfl⟩, by decide⟩

/-- Scanning enabled, over two slots from 0x1000, the scan timer running. -/
def scanReady : State :=
  { State.reset with ctrl := { Ctrl.clear with scanEn := true }, brdBase := 0x1000, brdSlots := 1, scanTimer := some 250 }

theorem witness_PassStarts :
    (State.reset.settled ∧ State.reset.ctrl.scanEn = false) ∧
    (let s := inPass (passAt .claim [] (some candA)) scanReady; s.settled ∧ s.ctrl.scanEn = true ∧ s.pass ≠ none) ∧
    (scanReady.settled ∧ scanReady.ctrl.scanEn = true ∧ scanReady.pass = none ∧ scanReady.brdSlots ≠ 0 ∧
      scanReady.scanTimer ≠ none) ∧
    (let s := { atS0 ready calA [{ jobA with state := .supplyWait }] with
        ctrl := { Ctrl.clear with scanEn := true }, scanTimer := some 250 };
      s.settled ∧ s.ctrl.scanEn = true ∧ s.pass = none ∧ s.brdSlots = 0 ∧ s.scanTimer ≠ none ∧
        ∃ j, s.passEndReads .s0 j) := by
  refine ⟨⟨⟨rfl, rfl⟩, rfl⟩, ⟨⟨rfl, rfl⟩, rfl, nofun⟩, ⟨⟨rfl, rfl⟩, rfl, rfl, by decide, nofun⟩, ⟨rfl, rfl⟩, rfl, rfl, rfl,
    nofun, { jobA with state := .supplyWait }, rfl, rfl, rfl, rfl, rfl, rfl, .inl rfl⟩
theorem witness_SlotReadPhase_ends : let p := passAt (.slotRead 1) [] none
    let s (pending : Bool) := serving .slotRead 16 (inPass p { State.reset with passPending := pending, brdSlots := 1 })
    ∀ b, (s b).serves .slotRead 16 ∧ (s b).pass = some p ∧ p.phase = .slotRead 1 ∧ p.slots ≤ 1 + 1 ∧
      (s b).unreachedHeld p = [] ∧ (s b).isHeld (slotAddress p.base 1) = false ∧ slotState (zeros 16) ≠ 1 ∧
      p.candidates = [] ∧ (s b).brdSlots = 1 ∧ (s b).passPending = b := by
  refine fun b => ⟨serving_serves _ _ _, rfl, rfl, by decide, rfl, rfl, by decide +kernel, rfl, rfl, rfl⟩
theorem witness_SlotReadPhase_again : let p := passAt (.slotRead 1) [] none
    let s : State := { serving .slotRead 16 (inPass p { State.reset with passPending := true, brdSlots := 1 }) with
      ctrl := { Ctrl.clear with portEn := true, scanEn := true } }
    s.serves .slotRead 16 ∧ s.pass = some p ∧ s.passPending = true ∧ s.ctrl.scanEn = true := ⟨⟨rfl, _, rfl, rfl, rfl⟩, rfl, rfl, rfl⟩

theorem witness_SlotReadPhase_next : let p := passAt (.slotRead 0) [] none
    let s := serving .slotRead 16 (inPass p State.reset)
    s.serves .slotRead 16 ∧ postedSlot.length = 16 ∧ s.pass = some p ∧ p.phase = .slotRead 0 ∧ 0 + 1 < p.slots ∧
      s.isHeld (slotAddress p.base 0) = false := by
  and_intros <;> first | exact serving_serves _ _ _ | decide +kernel
theorem witness_SlotReadPhase_last : let p := passAt (.slotRead 1) [candB, candA] none
    let s := serving .slotRead 16 (inPass p State.reset)
    s.serves .slotRead 16 ∧ (zeros 16).length = 16 ∧ s.pass = some p ∧ p.phase = .slotRead 1 ∧ p.slots ≤ 1 + 1 ∧
      s.unreachedHeld p = [] ∧ s.isHeld (slotAddress p.base 1) = false ∧ slotState (zeros 16) ≠ 1 ∧
      sortCandidates p.candidates = candA :: [candB] := by
  and_intros <;> first | exact serving_serves _ _ _ | decide +kernel

/-- `jobA` waiting in the intake list. -/
def queuedA : Job := { jobA with state := .queued, station := none, lastStation := none }
/-- `n` queued jobs of slots from 0x2000 on. -/
def queued (n : Nat) : List Job := (List.range n).map (fun k => { queuedA with slotAddr := BitVec.ofNat 32 (0x2000 + 64 * k) })

theorem witness_HeldStopEndsTheJob : let p := passAt (.slotRead 0) [] none
    let s := serving .slotRead 16 (inPass p { State.reset with jobs := [queuedA], held := [{ slot := 0, addr := 0x1000 }] })
    s.serves .slotRead 16 ∧ stoppedSlot.length = 16 ∧ s.pass = some p ∧ p.phase = .slotRead 0 ∧ 0 + 1 < p.slots ∧
      s.isHeld (slotAddress p.base 0) = true ∧ s.job (slotAddress p.base 0) = some queuedA ∧ queuedA.state = .queued ∧
      queuedA.station = none ∧ queuedA.ending = none ∧ s.listRoom 1 ∧
      ({ s with jobs := s.jobsWith queuedA.slotAddr (fun k => Job.finished { k with stopSeen := true } .stopped) } :
        State).atRest ∧
      field stoppedSlot 0x0C 4 ≠ 0 ∧ field postedSlot 0x0C 4 = 0 := by
  and_intros <;> first | exact serving_serves _ _ _ | exact rest_of rfl (by decide +kernel) | decide +kernel

theorem witness_KindPeekDecides : let p := passAt .kindPeek [candB] (some candA)
    let s := serving .kindPeek 16 (inPass p { State.reset with jobs := queued 8 })
    s.serves .kindPeek 16 ∧ (zeros 16).length = 16 ∧ s.pass = some p ∧ p.current = some candA ∧ p.place = false ∧
      field (zeros 16) 0 2 ≠ 1 ∧ field (1 :: zeros 15) 0 2 = 1 ∧ p.candidates = candB :: [] ∧ 8 ≤ s.intakeCount := by
  and_intros <;> first | exact serving_serves _ _ _ | decide +kernel

theorem witness_ClaimSequence_read : let p := passAt .claim [candB] (some candA)
    let s := serving .claim 16 (inPass p State.reset)
    s.serves .claim 16 ∧ postedSlot.length = 16 ∧ s.port.lockedWrite = false ∧ s.pass = some p ∧ p.current = some candA ∧
      slotState postedSlot = 1 ∧ slotState (zeros 16) ≠ 1 ∧ s.calm ∧ p.candidates = candB :: [] ∧ s.intakeCount < 8 := by
  and_intros <;> first | exact serving_serves _ _ _ | exact calm_of rfl rfl | decide +kernel
theorem witness_ClaimSequence_write : let p := passAt .claim [candB] (some candA)
    let s := lockedClaim (inPass p State.reset)
    s.serves .claim 16 ∧ s.port.lockedWrite = true ∧ s.pass = some p ∧ p.current = some candA :=
  ⟨⟨rfl, _, rfl, rfl, rfl⟩, rfl, rfl, rfl⟩

theorem witness_TicketHeadDecides : let p := { passAt .ticketHead [] (some candA) with place := true }
    let q := passAt .ticketHead [] (some candA)
    let s := serving .ticketHead 16 (inPass p State.reset)
    let u := serving .ticketHead 16 (inPass q State.reset)
    (s.serves .ticketHead 16 ∧ ficheHead.length = 16 ∧ s.pass = some p ∧ p.current = some candA ∧ s.calm ∧
      field ficheHead 0 2 = 1 ∧ p.place = true) ∧
    (u.serves .ticketHead 16 ∧ u.pass = some q ∧ q.current = some candA ∧ u.calm ∧
      (0x10 ≤ field (0x10 :: zeros 15) 0 2 ∧ field (0x10 :: zeros 15) 0 2 ≤ 0x1A) ∧
      (0x10 ≤ field (0x1A :: zeros 15) 0 2 ∧ field (0x1A :: zeros 15) 0 2 ≤ 0x1A) ∧
      (field ficheHead 0 2 = 1 ∧ q.place = false) ∧
      (field (0x1B :: zeros 15) 0 2 ≠ 1 ∧ (field (0x1B :: zeros 15) 0 2 < 0x10 ∨ 0x1A < field (0x1B :: zeros 15) 0 2)) ∧
      (field (0x0F :: zeros 15) 0 2 ≠ 1 ∧ (field (0x0F :: zeros 15) 0 2 < 0x10 ∨ 0x1A < field (0x0F :: zeros 15) 0 2))) := by
  and_intros <;> first | exact serving_serves _ _ _ | exact calm_of rfl rfl | decide +kernel
/-- The fiche ticket's rest with a layout of frames 2,040 dots wide. -/
def wideRest : List Byte :=
  [1, 2, 0, 0] ++ leBytes 4 10200 ++ leBytes 4 640 ++ leBytes 4 10200 ++ leBytes 4 0 ++ leBytes 4 2000 ++ leBytes 4 2000 ++
    leBytes 4 0 ++ zeros 144 ++ [0, 0, 0, 1] ++ leBytes 2 256 ++ leBytes 2 1023 ++ leBytes 4 4000 ++ leBytes 2 0 ++ [0, 0]
/-- The rest of the wide fiche ticket read with S0 free as `x`, its calibration unit `c`, carrying stock 0. -/
def attaching (x : Station) (c : CalUnit) (queue : List StationId) : State :=
  serving .ticketRest 192 (inPass { passAt (.ticketRest ficheHead) [] (some candA) with place := true }
    { atS0 { x with stock := 0 } c [] with photometerQueue := queue })

theorem witness_TicketRestDecides_fiche : let p := { passAt (.ticketRest ficheHead) [] (some candA) with place := true }
    let job := makeJob candA (ficheHead ++ wideRest)
    (∀ x c q, (attaching x c q).serves .ticketRest 192 ∧ (attaching x c q).pass = some p ∧
      (attaching x c q).job candA.addr = none ∧ (attaching x c q).calm ∧ (attaching x c q).listRoom 1 ∧
      (attaching x c q).stopOutstanding .s0 = false) ∧
    wideRest.length = 192 ∧ p.phase = .ticketRest ficheHead ∧ p.current = some candA ∧ field ficheHead 0 2 = 1 ∧
    ficheCheck (ficheHead ++ zeros 192) ≠ .none ∧ ficheCheck (ficheHead ++ wideRest) = .none ∧
    (attaching Station.reset calA []).stockCarried job = true ∧
    (∀ i, (attaching Station.reset calA []).free i = false) ∧
    ({ attaching Station.reset calA [] with stations :=
      ⟨ready, { ready with stock := 6 }, { ready with stock := 7 }, { ready with stock := 8 }⟩ } : State).stockCarried job = false := by
  refine ⟨fun x c q => ⟨serving_serves _ _ _, rfl, rfl, calm_of rfl rfl, ⟨Nat.le_of_ble_eq_true rfl, rfl⟩, rfl⟩,
    by decide +kernel, rfl, rfl, by decide +kernel, by decide +kernel, by decide +kernel, by decide +kernel, ?_,
    by decide +kernel⟩
  intro i; cases i <;> rfl
theorem witness_TicketRestDecides_attach : let job := makeJob candA (ficheHead ++ wideRest)
    (let s := attaching { ready with state := .dozing } CalUnit.reset [];
      s.free .s0 = true ∧ s.fitsJob .s0 job = true ∧ (s.st .s0).state = .dozing) ∧
    (let s := attaching { ready with state := .calibrating } CalUnit.reset [];
      s.free .s0 = true ∧ s.fitsJob .s0 job = true ∧ (s.st .s0).state = .calibrating) ∧
    (let s := attaching ready CalUnit.reset [.s0];
      s.free .s0 = true ∧ s.fitsJob .s0 job = true ∧ (s.st .s0).state = .ready ∧ (s.st .s0).stacked = none ∧
        (s.cal .s0).marked = true ∧ .s0 ∈ s.photometerQueue) ∧
    (let s := attaching ready calA [];
      s.free .s0 = true ∧ s.fitsJob .s0 job = true ∧ (s.st .s0).state = .ready ∧ (s.st .s0).stacked = none ∧
        s.mayDecide .s0 = true) := by decide +kernel
theorem test_attach_runs_the_first_load_decision :
    let t := after (.ticketRestReadDone wideRest) (attaching ready calA [])
    t.jobs.map (fun j => (j.state, j.station)) = [(.attached, some .s0)] ∧
      t.port.list.map (fun r => (r.purpose, r.addr, r.len)) = [(.decision .s0, 0x100C, 4)] := by decide +kernel
/-- The head of a service ticket of kind `k` with selector `sel`. -/
def svcHead (k sel : Byte) : List Byte := [k, 0, 0, sel] ++ zeros 12
theorem witness_TicketRestDecides_service : let p (h : List Byte) := passAt (.ticketRest h) [] (some candA)
    let s (h : List Byte) := serving .ticketRest 16 (inPass (p h) State.reset)
    (∀ h, (s h).serves .ticketRest 16 ∧ (s h).pass = some (p h) ∧ (p h).phase = .ticketRest h ∧ (p h).current = some candA ∧
      (s h).calm) ∧ (zeros 16).length = 16 ∧
    serviceKindOf (field (svcHead 0x11 0) 0 2) = some .stockSet ∧
    (serviceKindOf (field (svcHead 0x13 2) 0 2) = some .calRequest ∧ field (svcHead 0x13 2 ++ zeros 16) 3 1 = 2) ∧
    (serviceKindOf (field (svcHead 0x13 3) 0 2) = some .calRequest ∧ field (svcHead 0x13 3 ++ zeros 16) 3 1 ≠ 1 ∧
      field (svcHead 0x13 3 ++ zeros 16) 3 1 ≠ 2) ∧
    (serviceKindOf (field (svcHead 0x10 3) 0 2) = some .toneLoad ∧ field (svcHead 0x10 3 ++ zeros 16) 3 1 ≤ 3) ∧
    (serviceKindOf (field (svcHead 0x10 4) 0 2) = some .toneLoad ∧ 3 < field (svcHead 0x10 4 ++ zeros 16) 3 1) := by
  refine ⟨fun h => ⟨serving_serves _ _ _, rfl, rfl, rfl, calm_of rfl rfl⟩, ?_⟩
  and_intros <;> decide +kernel

theorem no_job {s : State} {i : StationId} {P : Job → Prop} (h : s.attached i = none) : ∀ j, s.attached i = some j → P j :=
  fun j hj => by simp [h] at hj

/-- `jobA` with a sheet at its station. -/
def activeA : Job := { jobA with state := .sheetActive }

theorem witness_ToneLoadReplaces : let v := svc .toneLoad 0 0
    let p := passAt (.toneImage v) [] (some candA)
    let s := serving .toneImage 512 (inPass p State.reset)
    let u := serving .toneImage 512 (inPass p (atS0 (open' .exposing (.line .page 0)) calA [activeA]))
    (s.serves .toneImage 512 ∧ (zeros 512).length = 512 ∧ s.pass = some p ∧ p.phase = .toneImage v ∧ p.current = some candA ∧
      s.calm ∧ ∀ i, (s.st i).state = .exposing → ∀ j, s.attached i = some j → j.expo.tone ≠ v.selector) ∧
    (u.serves .toneImage 512 ∧ u.pass = some p ∧ u.calm ∧
      ∃ i j, (u.st i).state = .exposing ∧ u.attached i = some j ∧ j.expo.tone = v.selector) := by
  refine ⟨⟨serving_serves _ _ _, by decide +kernel, rfl, rfl, rfl, calm_of rfl rfl, ?_⟩, serving_serves _ _ _, rfl,
    calm_of rfl (by decide +kernel), .s0, activeA, rfl, rfl, rfl⟩
  intro i; cases i <;> exact fun h => absurd h (by decide +kernel)

theorem witness_StockAndSupplySet_plain : let s (k : ServiceKind) := withSvc k 0 0 (atS0 ready calA [jobA])
    (∀ k f, (s k).settled ∧ ((s k).updSt .s0 f).calm ∧
      (s k).atService (passAt (.service (svc k 0 0)) [] (some candA)) candA (svc k 0 0) ∧
      ((s k).st (svc k 0 0).station).stockLegal = true ∧
      ((s k).jobs.map (·.slotAddr)).Nodup ∧ ∀ j, (s k).attached (svc k 0 0).station = some j → j.state ≠ .supplyWait) ∧
    (svc .stockSet 0 0).kind = .stockSet ∧ (svc .supplySet 0 0).kind = .supplySet ∧
    ∀ k ∈ (s .stockSet).jobs, k.state ≠ .queued := by
  refine ⟨fun k f => ⟨⟨rfl, rfl⟩, calm_of rfl rfl, withSvc_at _ _ _ _, rfl, by simp [withSvc, inPass, atS0], ?_⟩, rfl, rfl,
    by decide +kernel⟩
  intro j h; cases h; decide
/-- S0 carries stock 7 alone, and a STOCK_SET of 5 there leaves the queued job of stock 7 without it. -/
theorem witness_StockAndSupplySet_noStock : let j := { queuedA with expo := { expoA with stock := 7 } }
    let s := withSvc .stockSet 0 0 (atS0 { ready with stock := 7, supply := 0 } calA [j])
    let m := s.updSt .s0 (fun x => { x with stock := 5, speed := 1024, supply := 100 })
    s.settled ∧ (s.st .s0).stockLegal = true ∧ (∀ j, s.attached .s0 = some j → j.state ≠ .supplyWait) ∧
      j.state = .queued ∧ j.ending = none ∧ j.station = none ∧ m.stockCarried j = false ∧ s.listRoom 2 ∧
      (s.jobs.map (·.slotAddr)).Nodup ∧
      ({ m with jobs := s.jobsWith j.slotAddr (·.finished .noStock) } : State).calm :=
  ⟨⟨rfl, rfl⟩, by decide +kernel, no_job (by decide +kernel), rfl, rfl, rfl, by decide +kernel, ⟨by decide +kernel, rfl⟩,
    by decide +kernel, calm_of rfl (by decide +kernel)⟩
theorem witness_StockAndSupplySet_attaches : let s := withSvc .supplySet 0 0 (atS0 { ready with state := .dozing, supply := 0 } CalUnit.reset [queuedA])
    s.settled ∧ s.calm ∧ (s.st .s0).state = .dozing ∧ (s.st .s0).sheet = none ∧ s.attached .s0 = none ∧
      1 ≤ (svc .supplySet 0 0).p1.toNat ∧ s.jobs = [] ++ queuedA :: [] ∧ queuedA.state = .queued ∧ queuedA.ending = none ∧
      queuedA.returnPending = false ∧ (s.jobs.map (·.slotAddr)).Nodup ∧ s.fitsJob .s0 queuedA = true :=
  ⟨⟨rfl, rfl⟩, calm_check (by decide +kernel), rfl, rfl, by decide +kernel, by decide +kernel, rfl, rfl, rfl, rfl,
    by decide +kernel, by decide +kernel⟩
theorem witness_StockAndSupplySet_waiting : let j := { jobA with state := .supplyWait }
    let s := withSvc .supplySet 0 0 (atS0 { ready with supply := 0 } calA [j])
    s.settled ∧ s.calm ∧ s.attached .s0 = some j ∧ (s.st .s0).stockLegal = true ∧ j.state = .supplyWait ∧ j.ending = none ∧
      j.stopSeen = false ∧ s.stopOutstanding .s0 = false ∧ (s.jobs.map (·.slotAddr)).Nodup ∧ s.mayDecide .s0 = true :=
  ⟨⟨rfl, rfl⟩, calm_of rfl rfl, rfl, rfl, rfl, rfl, rfl, rfl, by decide +kernel, by decide +kernel⟩

theorem witness_CalRequestMarks : let s (x : Station) (ph : Option StationId) : State :=
      { withSvc .calRequest 2 0 (atS0 x calA []) with photometer := ph }
    (∀ x ph, (s x ph).settled ∧ (s x ph).calm ∧
      (s x ph).atService (passAt (.service (svc .calRequest 2 0)) [] (some candA)) candA (svc .calRequest 2 0)) ∧
    (((s Station.reset none).st .s0).state ≠ .faulted ∧ ((s Station.reset none).st .s0).state ≠ .ready ∧
      ((s Station.reset none).st .s0).state ≠ .dozing) ∧
    ((s { ready with state := .dozing } none).st .s0).state = .dozing ∧
    (((s ready (some .s1)).st .s0).state = .ready ∧ ((s ready (some .s1)).st .s0).stacked = none ∧
      .s0 ∉ (s ready (some .s1)).photometerQueue ∧ (s ready (some .s1)).photometer ≠ some .s0 ∧
      (s ready (some .s1)).photometer ≠ none) ∧
    (((s ready none).st .s0).state = .ready ∧ .s0 ∉ (s ready none).photometerQueue ∧ (s ready none).photometer = none) := by
  refine ⟨fun x ph => ⟨⟨rfl, rfl⟩, calm_of rfl rfl, rfl, rfl, rfl⟩, ?_⟩
  and_intros <;> decide +kernel

theorem witness_StationParkAndWake : let s (k : ServiceKind) (x : Station) := withSvc k 0 0 (atS0 x calA [])
    (∀ k x, (s k x).settled ∧ (s k x).calm ∧
      (s k x).atService (passAt (.service (svc k 0 0)) [] (some candA)) candA (svc k 0 0)) ∧
    ((s .stationPark { ready with state := .dozing }).st .s0).state = .dozing ∧
    (((s .stationPark ready).st .s0).state = .ready ∧ (s .stationPark ready).attached .s0 = none) ∧
    ((s .stationPark { ready with state := .faulted }).st .s0).state = .faulted ∧
    ((s .stationWake Station.reset).st .s0).state = .parked ∧
    ((s .stationWake { ready with state := .dozing }).st .s0).state = .dozing ∧
    ((s .stationWake { ready with state := .waking }).st .s0).state = .waking ∧
    ((s .stationWake ready).st .s0).state = .ready := by
  refine ⟨fun k x => ⟨⟨rfl, rfl⟩, calm_of rfl rfl, rfl, rfl, rfl⟩, ?_⟩
  and_intros <;> rfl

theorem witness_StationResetActs_bare : let s (x : Station) (c : CalUnit) (ph : Option StationId) : State :=
      { withSvc .stationReset 0 0 (atS0 x c []) with photometer := ph }
    let f := { ready with state := .faulted, cause := .jam }
    let due := { calA with quickDue := true }
    (∀ x c ph, (s x c ph).settled ∧
      (s x c ph).atService (passAt (.service (svc .stationReset 0 0)) [] (some candA)) candA (svc .stationReset 0 0)) ∧
    (∀ m : State, m.endQueue = [] → m.jobs = [] → m.calm) ∧
    ((s Station.reset calA none).unencumbered .s0 ∧ ((s Station.reset calA none).st .s0).powered = false) ∧
    ((s f calA none).unencumbered .s0 ∧ ((s f calA none).st .s0).powered = true ∧ ((s f calA none).cal .s0).marked = false) ∧
    ((s f due none).unencumbered .s0 ∧ (s f due (some .s1)).unencumbered .s0 ∧ ((s f due none).cal .s0).valid = true ∧
      ((s f due none).cal .s0).marked = true ∧ (s f due none).photometer = none ∧
      (s f due (some .s1)).photometer ≠ none ∧ (s f due (some .s1)).photometer ≠ some .s0) := by
  refine ⟨fun x c ph => ⟨⟨rfl, rfl⟩, rfl, rfl, rfl⟩, fun m h h' => calm_of h (by rw [h']; rfl), ?_⟩
  unfold State.unencumbered
  and_intros <;> decide +kernel
/-- A STATION_RESET of S0 as `x`, with `jobA` attached and no sheet, `n` jobs queued and a place held. -/
def resetJob (x : Station) (place : Bool) (n : Nat) : State :=
  inPass { passAt (.service (svc .stationReset 0 0)) [] (some candA) with place := place }
    (atS0 { x with stock := 5 } calA (jobA :: queued n))
/-- The job of `s`'s S0 back in the intake list. -/
def returnedA (s : State) : List Job :=
  s.jobsWith jobA.slotAddr (fun k => { k with station := none, returnPending := false, state := .queued })
theorem witness_StationResetActs_job :
    let p (b : Bool) := { passAt (.service (svc .stationReset 0 0)) [] (some candA) with place := b }
    let off := resetJob Station.reset false 0
    let on := resetJob { ready with supply := 0 } false 0
    let taken (x : Station) := resetJob x false 8
    (∀ x b n, (resetJob x b n).settled ∧ (resetJob x b n).atService (p b) candA (svc .stationReset 0 0) ∧
      (resetJob x b n).attached .s0 = some jobA ∧ ((resetJob x b n).cal .s0).flight = none ∧
      .ending jobA.slotAddr ∉ (resetJob x b n).endQueue) ∧
    (∀ n, n ∈ [0, 8] → ∀ k ∈ (resetJob ready false n).jobs, k.station = some .s0 ∨ k.slotAddr = jobA.slotAddr → k = jobA) ∧
    (off.roomForReturn = true ∧ off.stockCarried jobA = true ∧ (off.st .s0).powered = false ∧
      ({ off.updSt .s0 (fun x => { x.cleared.timersStopped with state := .parked, cause := .none, powered := false }) with
          jobs := returnedA off } : State).calm) ∧
    (on.roomForReturn = true ∧ on.stockCarried jobA = true ∧ (on.st .s0).powered = true ∧ (on.cal .s0).marked = false ∧
      ({ on.updSt .s0 (fun x => { x.cleared.timersStopped with state := .ready, cause := .none, dozeTimer := some 30 }) with
          jobs := returnedA on } : State).calm) ∧
    ((taken ready).roomForReturn = false ∧ 8 ≤ (taken Station.reset).intakeCount ∧ (taken ready).calm ∧
      (taken Station.reset).calm ∧ jobA.stopSeen = false) := by
  refine ⟨fun x b n => ⟨⟨rfl, rfl⟩, ⟨rfl, rfl, rfl⟩, rfl, rfl, nofun⟩, ?_⟩
  and_intros <;> first | exact calm_check (by decide +kernel) | decide +kernel
/-- S0 holds a permit in state `x`, S1 holds the other, and S2 waits for one, positioned for its index frame, before S3. -/
def awaited (x : Station) (s : State) : State :=
  { s with stations := { s.stations with s0 := x, s2 := open' .sheetOpen (.permitWait .index) }, permitHolders := [.s1, .s0],
           permitQueue := [.s2, .s3] }
theorem awaited_permit (x : Station) (s : State) : (awaited x s).permitAwaited .s0 .s2 .index [.s3] :=
  ⟨by simp [awaited], by simp [awaited], rfl, rfl⟩
theorem witness_StationResetActs_permit :
    let s := awaited (open' .exposing (.line .page 0)) (withSvc .stationReset 0 0 (atS0 ready calA [activeA]))
    s.settled ∧ s.atService (passAt (.service (svc .stationReset 0 0)) [] (some candA)) candA (svc .stationReset 0 0) ∧
      (s.cal .s0).flight = none ∧ s.permitAwaited .s0 .s2 .index [.s3] :=
  ⟨⟨rfl, rfl⟩, ⟨rfl, rfl, rfl⟩, rfl, awaited_permit _ _⟩
theorem test_returned_permit_goes_to_the_waiting_head :
    let t := after (.jam .s0) (awaited (open' .exposing (.line .page 0)) (atS0 ready calA [activeA]))
    t.permitHolders = [.s1, .s2] ∧ t.permitQueue = [.s3] ∧ (t.st .s2).activity = .line .index 0 := by decide +kernel
theorem witness_StationResetActs_sheet :
    let s : State := { withSvc .stationReset 0 0 (atS0 (open' .exposing (.line .page 0)) calA [activeA]) with permitHolders := [.s0] }
    let w : State := { s with tasks := List.replicate 16 (.completion 0x1040), waiters := [.completion 0x1080] }
    s.settled ∧ s.attached .s0 = some activeA ∧ (s.st .s0).sheet = some sheetA ∧ (s.st .s0).stacked = none ∧
      (∀ k ∈ s.jobs, k.station = some .s0 → k.slotAddr = activeA.slotAddr) ∧ (s.cal .s0).flight = none ∧
      s.permitQueue = [] ∧ s.listRoom 2 ∧ (s.cal .s0).marked = false ∧ w.settled ∧ w.dispatcherWaits = true ∧ w.endQueue = [] ∧
      ({ s.updSt .s0 (fun x => { x.cleared with state := if x.powered then .ready else .parked }) with
          jobs := s.jobsWith activeA.slotAddr (fun k => (k.loseSheet sheetA).finished .sheetLost) } : State).calm ∧
      ({ w.updSt .s0 (fun x => { x.cleared with state := if x.powered then .ready else .parked }) with
        jobs := s.jobsWith activeA.slotAddr (fun k => { k.loseSheet sheetA with ending := some .sheetLost }),
        endQueue := [.ending activeA.slotAddr] } : State).calm := by
  refine ⟨⟨rfl, rfl⟩, rfl, rfl, rfl, by decide +kernel, rfl, rfl, ⟨by decide +kernel, rfl⟩, by decide +kernel, ⟨rfl, rfl⟩,
    rfl, rfl, calm_check (by decide +kernel), calm_check (by decide +kernel)⟩

theorem witness_TimingAndSerialSet : let s (k : ServiceKind) := withSvc k 0 0 (atS0 ready calA [])
    (∀ k, (s k).settled ∧ (s k).calm ∧ (s k).atService (passAt (.service (svc k 0 0)) [] (some candA)) candA (svc k 0 0)) ∧
    ∀ i, ((s .timingSet).cal i).sinceQuick < 10 ∧ ((s .timingSet).cal i).sinceFull < 500 := by
  refine ⟨fun k => ⟨⟨rfl, rfl⟩, calm_of rfl rfl, rfl, rfl, rfl⟩, ?_⟩
  intro i; cases i <;> decide +kernel
/-- A TIMING_SET that takes the quick interval to 10 at S0, in state `st` with 10 frames since its QUICK. -/
def dueAt (st : StationState) (ph : Option StationId) : State :=
  { withSvc .timingSet 0 0 (atS0 { ready with state := st } { calA with sinceQuick := 10 } []) with photometer := ph }
theorem witness_TimingAndSerialSet_due :
    (∀ st ph, (dueAt st ph).settled ∧ (dueAt st ph).calm ∧ ((dueAt st ph).st .s0).state = st ∧
      (dueAt st ph).atService (passAt (.service (svc .timingSet 0 0)) [] (some candA)) candA (svc .timingSet 0 0) ∧
      ((dueAt st ph).cal .s0).quickDue = false ∧ max 10 (min 2000 (svc .timingSet 0 0).p1.toNat) ≤ ((dueAt st ph).cal .s0).sinceQuick ∧
      ((dueAt st ph).st .s0).stacked = none ∧ .s0 ∉ (dueAt st ph).photometerQueue ∧
      ∀ k, k ≠ .s0 → ((dueAt st ph).st k).state ≠ .ready) ∧
    (dueAt .ready (some .s1)).photometer ≠ none ∧ (dueAt .ready (some .s1)).photometer ≠ some .s0 ∧
    (dueAt .ready none).photometer = none := by
  refine ⟨fun st ph => ⟨⟨rfl, rfl⟩, calm_of rfl rfl, rfl, ⟨rfl, rfl, rfl⟩, rfl,
    (by decide +kernel : max 10 (min 2000 (svc .timingSet 0 0).p1.toNat) ≤ 10), rfl, nofun, ?_⟩, nofun,
    by decide +kernel, rfl⟩
  intro k hk; cases k <;> first | exact absurd rfl hk | nofun
theorem test_timing_set_wakes_a_dozing_station :
    ((after .timingSet (dueAt .dozing none)).st .s0).wakeTimer = some 50 ∧
      (after .timingSet (dueAt .ready none)).photometer = some .s0 := by decide +kernel

theorem witness_ReportServicesWrite : let s (k : ServiceKind) (n : Nat) := withSvc k 0 n (atS0 ready calA [])
    let p (l : List (Addr × List Byte)) := passAt (.output l 32) [] (some candA)
    let u (l : List (Addr × List Byte)) := serving .output 32 (inPass (p l) State.reset)
    (∀ k n, (s k n).settled ∧ (s k n).calm ∧
      (s k n).atService (passAt (.service (svc k 0 n)) [] (some candA)) candA (svc k 0 n)) ∧
    (32 ≤ (svc .stationQuery 0 32).bufSize ∧ (svc .stationQuery 0 31).bufSize < 32 ∧ (svc .emitterRead 0 15).bufSize < 16 ∧
      16 ≤ (svc .emitterRead 0 16).bufSize) ∧
    (∀ l, (u l).serves .output 32 ∧ (u l).calm ∧ (u l).pass = some (p l) ∧ (p l).current = some candA) ∧
    (p [(0x4000, zeros 16), (0x4010, [0, 4])]).phase = .output ((0x4000, zeros 16) :: (0x4010, [0, 4]) :: []) 32 ∧
    (p [(0x4000, zeros 32)]).phase = .output [(0x4000, zeros 32)] 32 :=
  ⟨fun k n => ⟨⟨rfl, rfl⟩, calm_of rfl rfl, rfl, rfl, rfl⟩, by decide, fun l => ⟨serving_serves _ _ _, calm_of rfl rfl, rfl, rfl⟩,
    rfl, rfl⟩

theorem witness_EmitterReportCounts : (State.reset.cal .s0).trims.length = 2048 ∧ (State.reset.cal .s0).statuses.length = 2048 := by
  decide +kernel
/-- A station with `jobA` in SHEET_ACTIVE, its sheet 42 with one entry, a permit and QUICK due (R31). -/
theorem test_station_record :
    let x := { open' .exposing (.line .page 0) with sheet := some { sheetA with map := [entryA] } }
    ({ atS0 x { calA with quickDue := true } [activeA] with permitHolders := [.s0] } : State).stationRecord .s0 =
      [0, 7, 0, 0x38, 5, 0, 0, 4, 3, 0, 0, 4, 0, 0, 0, 0, 0, 4, 0, 1, 1, 0, 0, 0, 42, 0, 0, 0, 0, 0, 0, 0] := by
  decide +kernel

theorem witness_ServicesRefused : let s (k : ServiceKind) (x : Station) (jobs : List Job) := withSvc k 0 0 (atS0 x calA jobs)
    (∀ k x, (s k x [activeA]).settled ∧ (s k x [activeA]).calm ∧
      (s k x [activeA]).atService (passAt (.service (svc k 0 0)) [] (some candA)) candA (svc k 0 0)) ∧
    ((s .stockSet (open' .calibrating .idle) [activeA]).st .s0).state = .calibrating ∧
    ((s .stockSet (open' .calibrating .idle) [activeA]).st .s0).sheet ≠ none ∧
    ((s .supplySet (open' .closing .idle) [activeA]).st .s0).state = .closing ∧
    ((s .calRequest { ready with state := .faulted } []).st .s0).state = .faulted ∧
    ((s .stationPark { ready with state := .waking } []).st .s0).state = .waking ∧
    (((s .stationPark ready [jobA]).st .s0).state = .ready ∧ (s .stationPark ready [jobA]).attached .s0 ≠ none) ∧
    ((s .stationWake { ready with state := .faulted } []).st .s0).state = .faulted := by
  refine ⟨fun k x => ⟨⟨rfl, rfl⟩, calm_of rfl rfl, rfl, rfl, rfl⟩, ?_⟩
  and_intros <;> first | rfl | decide +kernel

/-! ### The completion writer and the dispatcher -/

/-- A release task of `jobA`'s slot with one frame. -/
def releaseA : Task := .release 0x1000 0x2000 .s0 0 42 [entryA]

/-- A write of the writer in service, with the plan, the list and the waiters as given. -/
def writer (p : Purpose) (n : Nat) (plan : List PlannedWrite) (tasks waiters : List Task) (s : State) : State :=
  { serving p n s with plan := plan, tasks := tasks, waiters := waiters }

theorem writer_serves (p : Purpose) (n : Nat) (plan : List PlannedWrite) (tasks waiters : List Task) (s : State) :
    (writer p n plan tasks waiters s).serves p n := ⟨rfl, _, rfl, rfl, rfl⟩

theorem witness_CompletionWriteGoesOn_next : let w := releaseWrite 0x2000 0 .exposed none
    let s := writer .completionWrite 12 [w, progressWrite 0x1000 1] [releaseA] [] State.reset
    s.serves .completionWrite 12 ∧ s.plan = w :: progressWrite 0x1000 1 :: [] ∧ s.tasks = releaseA :: [] :=
  ⟨writer_serves _ _ _ _ _ _, rfl, rfl⟩
theorem witness_CompletionWriteGoesOn_leave : let w := progressWrite 0x1000 1
    let k : Task := .rejection 0x1000 0x2000 .s0 0
    let s (ts ws : List Task) := writer .completionWrite 4 [w] ts ws State.reset
    (∀ ts ws, (s ts ws).serves .completionWrite 4 ∧ (s ts ws).plan = [w]) ∧ w.kind ≠ .release ∧
      ((s [releaseA] []).tasks = [releaseA] ∧ (s [releaseA] []).waiters = []) ∧
      ((s [releaseA, k] []).taskWrites k = releaseWrite 0x2000 0 .rejected none :: [] ∧
        (releaseWrite 0x2000 0 .rejected none).kind ≠ .done) ∧
      (s [releaseA, k] [k]).waiters = .rejection 0x1000 0x2000 .s0 0 :: [] :=
  ⟨fun _ _ => ⟨writer_serves _ _ _ _ _ _, rfl⟩, by decide, ⟨rfl, rfl⟩, ⟨rfl, by decide⟩, rfl⟩
theorem witness_CompletionWriteGoesOn_rejection : let w := releaseWrite 0x2000 0 .rejected none
    let j := { activeA with nextPage := 1 }
    let s := writer .completionWrite 12 [w] [.rejection 0x1000 0x2000 .s0 0] [] (atS0 (open' .sheetOpen .rejecting) calA [j])
    s.serves .completionWrite 12 ∧ s.plan = [w] ∧ w.kind = .release ∧ s.tasks = [.rejection j.slotAddr 0x2000 .s0 0] ∧
      s.waiters = [] ∧ s.attached .s0 = some j ∧ (s.st .s0).activity = .rejecting ∧ j.nextPage = 0 + 1 ∧
      (s.st .s0).sheet = some sheetA ∧ sheetA.titleDone = true ∧ sheetA.nextPos < j.frames ∧ j.nextPage < j.pageCount ∧
      j.stopSeen = false :=
  ⟨writer_serves _ _ _ _ _ _, rfl, rfl, rfl, rfl, rfl, rfl, rfl, rfl, rfl, by decide, by decide, rfl⟩

theorem witness_DoneWriteCounts : let s (k : Task) := writer .doneWrite 4 [doneWrite 0x1000] [k, releaseA] [] State.reset
    (∀ k, (s k).serves .doneWrite 4 ∧ (s k).waiters = [] ∧ (s k).tasks = k :: [releaseA]) ∧
    (Task.completion 0x1000 = .completion 0x1000) ∧ ∃ o r len, Task.ticket 0x1000 .doneOk .none 7 = .ticket 0x1000 o r len :=
  ⟨fun _ => ⟨writer_serves _ _ _ _ _ _, rfl, rfl⟩, rfl, _, _, _, rfl⟩
theorem witness_CompletionWritesEveryRelease : jobA.bufSize < 64 ∧ 64 ≤ ({ jobA with bufSize := 64 } : Job).bufSize ∧
    entryA.key.length = 16 := by decide +kernel

/-- `jobA` with frames as wide as the head, which leaves one window. -/
def wideA : Job := { jobA with ew := 2048 }
/-- A load decision's reading in service at S0. -/
def deciding (x : Station) (j : Job) : State := serving (.decision .s0) 4 (atS0 x calA [j])

theorem witness_LoadBegins : let s := deciding ready wideA
    s.serves (.decision .s0) 4 ∧ s.atRest ∧ s.attached .s0 = some wideA ∧ (wideA.state = .attached ∨ wideA.state = .supplyWait) ∧
      wideA.ending = none ∧ wideA.stopSeen = false ∧ s.mayDecide .s0 = true ∧ (s.st .s0).stock = wideA.expo.stock ∧
      wideA.sheets.length < 16 ∧ (chooseWindow (s.cal .s0).statuses wideA.ew).2 ≤ wideA.expo.allowance ∧
      0 < (s.st .s0).supply ∧ (s.jobs.map (·.slotAddr)).Nodup :=
  ⟨serving_serves _ _ _, rest_of rfl rfl, rfl, .inl rfl, rfl, rfl, by decide +kernel, rfl, by decide, by decide +kernel,
    by decide +kernel, by decide +kernel⟩
theorem witness_LoadDecisionChecks_ends : let s (x : Station) (j : Job) := deciding x j
    let e : SheetEntry := { serial := 1, station := .s0, ended := some .closed, planned := 1, offset := 0, dead := 0, used := 1 }
    let full := { wideA with sheets := List.replicate 16 e }
    let bound := { wideA with boundTo := some .s0 }
    (∀ x j, (s x j).serves (.decision .s0) 4 ∧ (s x j).listRoom 1 ∧ ((s x j).jobs.map (·.slotAddr)).Nodup) ∧
    (∀ j ∈ [wideA, full, bound], ∀ o seen, ({ s ready j with
        jobs := (s ready j).jobsWith j.slotAddr (fun k => Job.finished { k with stopSeen := k.stopSeen || seen } o) } :
      State).atRest) ∧
    (s ready wideA).mayDecide .s0 = true ∧
    (¬((s { ready with stock := 6 } bound).st .s0).stock = bound.expo.stock ∧ bound.boundTo ≠ none) ∧
    (((s ready full).st .s0).stock = full.expo.stock ∧ 16 ≤ full.sheets.length) ∧
    (((s { ready with supply := 0 } wideA).st .s0).supply = 0 ∧ (s { ready with supply := 0 } wideA).atRest ∧
      (chooseWindow ((s { ready with supply := 0 } wideA).cal .s0).statuses wideA.ew).2 ≤ wideA.expo.allowance) := by
  refine ⟨fun x j => ⟨serving_serves _ _ _, ⟨Nat.le_of_ble_eq_true rfl, rfl⟩, by simp [deciding, serving, atS0]⟩, ?_, ?_⟩
  · intro j hj o seen
    simp only [List.mem_cons, List.not_mem_nil, or_false] at hj
    rcases hj with rfl | rfl | rfl <;> exact rest_of rfl rfl
  · and_intros <;> first | exact rest_of rfl rfl | decide +kernel
/-- S0 carries stock 6, S1 stock 5, and S0's load decision of an unbound job of stock 5 with `n` jobs queued. -/
def returning (n : Nat) : State :=
  let s := serving (.decision .s0) 4 (atS0 { ready with stock := 6, supply := 0 } calA (wideA :: queued n))
  { s with stations := { s.stations with s1 := { Station.reset with stock := 5 } } }
/-- Two DEAD emitters against an allowance of 1. -/
theorem witness_LoadDecisionChecks_unfit :
    wideA.expo.allowance < (chooseWindow (List.replicate 2046 .ok ++ [.dead, .dead]) wideA.ew).2 := by decide +kernel
theorem witness_LoadDecisionChecks_returns :
    (∀ n, n ∈ [0, 8] → (returning n).serves (.decision .s0) 4 ∧ (returning n).attached .s0 = some wideA ∧
      (returning n).mayDecide .s0 = true ∧ ((returning n).st .s0).stock ≠ wideA.expo.stock ∧
      (returning n).stockCarried wideA = true ∧ ((returning n).jobs.map (·.slotAddr)).Nodup ∧
      (∀ k ∈ (returning n).jobs, k.station = some .s0 → k = wideA) ∧
      ∀ r ∈ (returning n).port.list.tail, ofControl .s0 r = false) ∧
    wideA.state = .attached ∧ wideA.ending = none ∧ wideA.stopSeen = false ∧ wideA.boundTo = none ∧
    ((returning 8).roomForReturn = false ∧ (returning 8).atRest) ∧
    ((returning 0).roomForReturn = true ∧ ({ returning 0 with
      jobs := (returning 0).jobsWith wideA.slotAddr (fun k => { k with
        station := none, returnPending := false, state := .queued }) } : State).atRest) := by
  refine ⟨fun n hn => ?_, rfl, rfl, rfl, rfl, ⟨by decide +kernel, rest_check (by decide +kernel)⟩, by decide +kernel,
    rest_check (by decide +kernel)⟩
  simp only [List.mem_cons, List.not_mem_nil, or_false] at hn
  rcases hn with rfl | rfl <;> exact ⟨⟨rfl, _, rfl, rfl, rfl⟩, rfl, by decide +kernel, by decide +kernel, by decide +kernel,
    by decide +kernel, by decide +kernel, by decide +kernel⟩

theorem witness_PassEndReading : let s (j : Job) := serving (.passEnd .s0) 4 (atS0 ready calA [j])
    ((s jobA).serves (.passEnd .s0) 4 ∧ (s jobA).attached .s0 = some jobA ∧ jobA.ending = none ∧ jobA.state = .attached) ∧
    (let j := { jobA with state := .supplyWait };
      (s j).attached .s0 = some j ∧ j.state = .supplyWait ∧ (s j).listRoom 1 ∧ ({ s j with
        jobs := (s j).jobsWith j.slotAddr (fun k => Job.finished { k with stopSeen := true } .stopped) } : State).atRest) :=
  ⟨⟨serving_serves _ _ _, rfl, rfl, rfl⟩, rfl, rfl, ⟨by decide +kernel, rfl⟩, rest_of rfl (by decide +kernel)⟩
/-- A page in flight and a stacked page on the two jobs of S0 and S1. -/
def accounted : State :=
  let entry := { entryA with page := some 1 }
  let j := { activeA with nextPage := 2, counts := { activeA.counts with exposed := 1 } }
  let k := { activeA with slotAddr := 0x1040, station := some .s1, nextPage := 1 }
  let x := { open' .exposing (.line .page 0) with sheet := some { sheetA with openEntry := some entry } }
  let y := { ready with stacked := some { sheetA with map := [entryA] } }
  { atS0 x calA [j, k] with
    stations := { State.reset.stations with s0 := x, s1 := y }, permitHolders := [.s0], pending := [.jam .s0] }
theorem witness_PageCountsAddUp :
    (let j := { activeA with
      nextPage := 2, counts := { activeA.counts with exposed := 1 },
      lostSheet := some { index := 0, serial := 42, map := [], inFlight := some entryA } };
    j.nextPage ≤ j.pageCount ∧ j.counts.total + (match j.lostSheet with
      | some l => ((l.map ++ l.inFlight.toList).filter (·.page.isSome)).length
      | none => 0) = j.nextPage) ∧
    accounted.pagesAccounted ∧ accounted.photometerHolds ∧ ∃ t, step accounted = .next t := by
  refine ⟨by decide +kernel, ⟨by decide +kernel, by decide +kernel, ?_, ?_, by decide +kernel, ?_⟩,
    ⟨by decide +kernel, fun h => absurd rfl h, ?_⟩, _, rfl⟩
  · intro i
    unfold State.stationAgrees Station.coherent
    cases i <;> decide +kernel
  · unfold State.jobAccounts; decide +kernel
  · exact fun a h => absurd h (by simp [accounted, atS0, State.reset])
  · intro i; cases i <;> decide +kernel

/-! ### The stations and the open sheet -/

theorem witness_DozeAndHoldTimers : let d := atS0 { ready with dozeTimer := some 30 } calA []
    let h := atS0 { ready with state := .dozing, holdTimer := some 600 } calA []
    (d.settled ∧ (d.st .s0).dozeTimer ≠ none ∧ (d.st .s0).state = .ready ∧ (d.st .s0).holdTimer = none) ∧
    (h.settled ∧ (h.st .s0).holdTimer ≠ none ∧ (h.st .s0).state = .dozing ∧ (h.st .s0).dozeTimer = none) := by
  and_intros <;> decide +kernel

theorem witness_WakeEndsInReady : let s (c : CalUnit) (ph : Option StationId) : State :=
      { atS0 { Station.reset with state := .waking, wakeTimer := some 500, wakeFromParked := true } c [] with photometer := ph }
    (∀ c ph, (s c ph).settled ∧ ((s c ph).st .s0).wakeTimer ≠ none ∧ ((s c ph).st .s0).state = .waking ∧
      (s c ph).attached .s0 = none ∧ ((s c ph).st .s0).sheet = none ∧ ((s c ph).st .s0).stacked = none ∧
      ((s c ph).st .s0).dozeTimer = none ∧ .s0 ∉ (s c ph).photometerQueue) ∧
    (∀ n : State, n.endQueue = [] → n.jobs = [] → n.atRest) ∧
    (((s calA none).cal .s0).marked = false ∧ (s calA none).photometer ≠ some .s0) ∧
    (((s CalUnit.reset (some .s1)).cal .s0).marked = true ∧ (s CalUnit.reset (some .s1)).photometer ≠ none ∧
      (s CalUnit.reset (some .s1)).photometer ≠ some .s0) ∧
    (((s CalUnit.reset none).cal .s0).marked = true ∧ (s CalUnit.reset none).photometer = none) := by
  refine ⟨fun c ph => ⟨⟨rfl, rfl⟩, nofun, rfl, rfl, rfl, rfl, rfl, nofun⟩, fun n h h' => rest_of h (by rw [h']; rfl), ?_⟩
  and_intros <;> decide +kernel

/-- S0 loading `sheetA` with its first feed and `n` sheets left. -/
def loadingA (n : Nat) : Station := { open' .loading .idle with loadTimer := some 4000, feeds := 1, supply := n }

theorem witness_SecondFeed : let s := atS0 (loadingA 1) calA [activeA]
    s.settled ∧ (s.st .s0).state = .loading ∧ (s.st .s0).loadTimer ≠ none ∧ (s.st .s0).sheet = some sheetA ∧
      sheetA.attempt = 1 ∧ 1 ≤ (s.st .s0).supply ∧ 0 ≠ (s.st .s0).feeds := by
  and_intros <;> decide +kernel
theorem witness_RegistrationOpensTheSheet : let s := atS0 (loadingA 1) calA [activeA]
    s.settled ∧ (s.st .s0).state = .loading ∧ s.attached .s0 = some activeA ∧ activeA.stopSeen = false ∧
      s.stopOutstanding .s0 = false := by
  and_intros <;> decide +kernel

theorem witness_FaultReports_bare : let s := atS0 { ready with state := .waking } calA []
    let p := atS0 { ready with state := .faulted } calA []
    (s.settled ∧ s.atRest ∧ (s.st .s0).state ≠ .parked ∧ (s.st .s0).state ≠ .faulted ∧ s.unencumbered .s0) ∧
    (p.settled ∧ (p.st .s0).state = .faulted ∧ (p.st .s1).state = .parked) := by
  refine ⟨⟨⟨rfl, rfl⟩, rest_of rfl rfl, by decide +kernel, by decide +kernel, ?_⟩, ⟨rfl, rfl⟩, rfl, rfl⟩
  unfold State.unencumbered
  and_intros <;> decide +kernel
/-- S0 calibrates; nobody waits, and S1 waits in READY. -/
theorem witness_FaultReports_calibrating : let s (q : List StationId) : State :=
      let u := { atS0 { ready with state := .calibrating } { calA with flight := some (calFlight .quick .measuring) } [] with
        photometer := some .s0, photometerQueue := q }
      { u with stations := { u.stations with s1 := ready } }
    ∀ q ∈ [[], [.s1]], (s q).settled ∧ ((s q).st .s0).state = .calibrating ∧ (s q).atRest ∧
      ({ s q with cals := ((s q).updCal .s0 (fun u => { u with flight := none })).cals } : State).unencumbered .s0 ∧
      ((s q).cal .s0).flight = some (calFlight .quick .measuring) ∧ (s q).photometer = some .s0 ∧
      (s q).photometerQueue = q ∧ ((s q).st .s1).state = .ready := by
  intro s q hq
  simp only [List.mem_cons, List.not_mem_nil, or_false] at hq
  unfold State.unencumbered
  rcases hq with rfl | rfl <;> and_intros <;> first | exact rest_of rfl rfl | rfl | decide +kernel
/-- S0 with `jobA` attached and no sheet, `n` jobs queued. -/
def holding (n : Nat) : State := atS0 { ready with supply := 0 } calA (jobA :: queued n)
theorem witness_FaultReports_job : let m (s : State) (f : Job → Job) : State := { s with
        stations := (s.updSt .s0 (fun x => { x with state := .faulted, cause := .jam })).stations,
        jobs := s.jobsWith jobA.slotAddr f }
    (∀ n ∈ [0, 8], (holding n).settled ∧ ((holding n).st .s0).state ≠ .parked ∧ ((holding n).st .s0).state ≠ .faulted ∧
      (holding n).attached .s0 = some jobA ∧ ((holding n).st .s0).sheet = none ∧ ((holding n).st .s0).stacked = none ∧
      (∀ k ∈ (holding n).jobs, k.station = some .s0 ∨ k.slotAddr = jobA.slotAddr → k = jobA) ∧
      ((holding n).cal .s0).flight = none) ∧ jobA.ending = none ∧
    ((holding 0).roomForReturn = true ∧ (holding 0).stockCarried jobA = true ∧
      (m (holding 0) (fun k => { k with station := none, returnPending := false, state := .queued })).atRest) ∧
    ((holding 8).roomForReturn = false ∧ (m (holding 8) (fun k => { k with returnPending := true })).atRest) := by
  refine ⟨fun n hn => ?_, rfl, ⟨by decide +kernel, by decide +kernel, rest_check (by decide +kernel)⟩, by decide +kernel,
    rest_check (by decide +kernel)⟩
  simp only [List.mem_cons, List.not_mem_nil, or_false] at hn
  rcases hn with rfl | rfl <;> and_intros <;> first | rfl | decide +kernel
theorem witness_FaultReports_sheet : let s := atS0 (loadingA 0) calA [activeA]
    s.settled ∧ s.attached .s0 = some activeA ∧ (s.st .s0).sheet = some sheetA ∧ (s.st .s0).stacked = none ∧
      (∀ k ∈ s.jobs, k.station = some .s0 → k.slotAddr = activeA.slotAddr) ∧ (s.cal .s0).flight = none ∧ s.permitQueue = [] ∧
      s.listRoom 1 ∧ (s.st .s0).state ≠ .parked ∧ (s.st .s0).state ≠ .faulted ∧ (s.st .s0).state = .loading ∧
      (s.st .s0).loadTimer ≠ none ∧ (s.st .s0).supply = 0 ∧
      ({ s with jobs := s.jobsWith activeA.slotAddr (fun k => (k.loseSheet sheetA).finished .sheetLost) } : State).atRest :=
  ⟨⟨rfl, rfl⟩, rfl, rfl, rfl, by decide +kernel, rfl, rfl, ⟨by decide +kernel, rfl⟩, by decide +kernel, by decide +kernel, rfl,
    by decide +kernel, rfl, rest_of rfl (by decide +kernel)⟩

theorem witness_FaultReports_permit :
    let s := awaited (open' .exposing (.line .page 0)) (atS0 ready calA [activeA])
    s.settled ∧ (s.st .s0).state ≠ .parked ∧ (s.st .s0).state ≠ .faulted ∧ (s.cal .s0).flight = none ∧
      s.permitAwaited .s0 .s2 .index [.s3] :=
  ⟨⟨rfl, rfl⟩, nofun, nofun, rfl, awaited_permit _ _⟩

theorem witness_SheetStackedActs : let s (j : Job) := atS0 (open' .closing .idle) calA [j]
    let last := { activeA with nextPage := 2 }
    let stop := { activeA with stopSeen := true }
    (∀ j ∈ [activeA, last, stop], (s j).settled ∧ ((s j).st .s0).state = .closing ∧
      (s j).attached .s0 = some j ∧ ((s j).st .s0).sheet = some sheetA ∧ (s j).listRoom 2 ∧ (s j).listRoom 1 ∧
      (∀ k ∈ (s j).jobs, k.slotAddr = j.slotAddr ∨ k.station = some .s0 → k = j) ∧
      ∀ o, ({ s j with
        jobs := (s j).jobsWith j.slotAddr (fun k => (k.stackedSheet sheetA).finished o),
        stations := ((s j).updSt .s0 (fun x => { x with state := .ready, sheet := none })).stations } : State).atRest) ∧
    ({ s activeA with
        jobs := (s activeA).jobsWith activeA.slotAddr (fun k => { k.stackedSheet sheetA with state := .attached }) } : State).atRest ∧
    (activeA.stopSeen = false ∧ activeA.nextPage < activeA.pageCount ∧ activeA.ending = none ∧ activeA.returnPending = false ∧
      ((s activeA).cal .s0).marked = false ∧ .s0 ∉ (s activeA).photometerQueue ∧ (s activeA).stopOutstanding .s0 = false) ∧
    last.pageCount ≤ last.nextPage ∧ stop.stopSeen = true := by
  refine ⟨fun j hj => ?_, rest_of rfl (by decide +kernel), ?_⟩
  · simp only [List.mem_cons, List.not_mem_nil, or_false] at hj
    rcases hj with rfl | rfl | rfl <;>
    exact ⟨⟨rfl, rfl⟩, rfl, rfl, rfl, ⟨Nat.le_of_ble_eq_true rfl, rfl⟩, ⟨Nat.le_of_ble_eq_true rfl, rfl⟩, by decide +kernel,
      fun _ => rest_of rfl rfl⟩
  · and_intros <;> decide +kernel
/-- S0 doing `a` with band `band` FILLING in a buffer, `rows` still to fetch, the other buffer in state `other`. -/
def fetchingIn (inB : Bool) (a : Activity) (band : Nat) (rows : List Nat) (next : Nat) (other : BandState)
    (holders : List StationId) : State :=
  let b := { mapA.beginBand band with rows := rows }
  let o := { BandBuffer.empty with state := other }
  let x := { open' .sheetOpen a with
    mapping := some { mapA with nextBand := next }, bufA := if inB then o else b, bufB := if inB then b else o }
  { serving (.row .s0) 56 (atS0 x calA [activeA]) with permitHolders := holders }

/-- A boundary reading in service at S0, with the sheet as given. -/
def atBoundary (sh : Sheet) (c : CalUnit) (j : Job) : State :=
  serving (.boundary .s0) 4 (atS0 { open' .sheetOpen .boundaryReading with sheet := some sh } c [j])

theorem witness_BoundaryDecides_sheet :
    (∀ sh j, j.station = some .s0 → (atBoundary sh calA j).serves (.boundary .s0) 4 ∧
      ((atBoundary sh calA j).st .s0).activity = .boundaryReading ∧ (atBoundary sh calA j).attached .s0 = some j ∧
      ((atBoundary sh calA j).st .s0).sheet = some sh ∧ ((atBoundary sh calA j).cal .s0).quickDue = false) ∧
    ({ sheetA with titleDone := false } : Sheet).titleDone = false ∧
    (sheetA.titleDone = true ∧ activeA.stopSeen = false ∧ sheetA.nextPos < activeA.frames ∧ activeA.nextPage < activeA.pageCount) ∧
    ¬({ sheetA with nextPos := 1 } : Sheet).nextPos < activeA.frames := by
  refine ⟨fun sh j h => ⟨serving_serves _ _ _, rfl, by simp [atBoundary, serving, atS0, State.attached, h], rfl, rfl⟩, ?_⟩
  and_intros <;> decide +kernel
theorem witness_BoundaryDecides_quick : let s (ph : Option StationId) : State :=
      { atBoundary sheetA { calA with quickDue := true } activeA with photometer := ph }
    (∀ ph, (s ph).serves (.boundary .s0) 4 ∧ ((s ph).st .s0).activity = .boundaryReading ∧ ((s ph).st .s0).sheet ≠ none ∧
      ((s ph).cal .s0).quickDue = true ∧ ((s ph).cal .s0).valid = true ∧ .s0 ∉ (s ph).photometerQueue) ∧
    (s none).photometer = none ∧ (s (some .s1)).photometer ≠ none ∧ (s (some .s1)).photometer ≠ some .s0 :=
  ⟨fun _ => ⟨⟨rfl, _, rfl, rfl, rfl⟩, rfl, nofun, rfl, rfl, nofun⟩, rfl, nofun, by decide +kernel⟩

theorem witness_BandReading : let s (a : Activity) := serving (.band .s0) 4 (atS0 (open' .exposing a) calA [activeA])
    (∀ a, (s a).serves (.band .s0) 4 ∧ (s a).attached .s0 = some activeA ∧ ((s a).st .s0).sheet = some sheetA ∧
      ((s a).st .s0).activity = a) ∧ (7 : Word) ≠ 0 :=
  ⟨fun _ => ⟨serving_serves _ _ _, rfl, rfl, rfl⟩, by decide⟩

theorem witness_PageEntryDecides :
    let s := serving (.pageEntry .s0) 32 (atS0 (open' .sheetOpen .entryRead) calA [activeA])
    s.serves (.pageEntry .s0) 32 ∧ (pageBytes 56 32).length = 32 ∧ (pageBytes 0 32).length = 32 ∧
      s.attached .s0 = some activeA ∧ (s.st .s0).sheet = some sheetA ∧ s.listRoom 1 ∧
      (readPageEntry (pageBytes 0 32)).good = false ∧ (readPageEntry (pageBytes 56 32)).good = true ∧
      mapA.fetchList 0 = 0 :: (List.range 15).map (· + 1) ∧
      makeMapping activeA.nextPage (readPageEntry (pageBytes 56 32)) activeA.ew activeA.lines activeA.expo.margin = mapA ∧
      0 < activeA.lines :=
  ⟨serving_serves _ _ _, by decide +kernel, by decide +kernel, rfl, rfl, ⟨by decide +kernel, rfl⟩, by decide +kernel,
    by decide +kernel, by decide +kernel, by decide +kernel, by decide⟩

/-- An image of 9 by 8 pixels, which leaves band 0 and band 2 of a frame of 200 lines without a used line; on one of 64 lines
an image of one row 4,096 pixels wide, whose used area is empty. -/
theorem witness_PageEntryDecides_empty :
    let tall := { activeA with lines := 200 }
    let short := { activeA with lines := 64 }
    let s (j : Job) := serving (.pageEntry .s0) 32 (atS0 (open' .sheetOpen .entryRead) calA [j])
    let m (j : Job) (w h : Nat) := makeMapping j.nextPage (readPageEntry (pageBytes w h)) j.ew j.lines j.expo.margin
    (s tall).attached .s0 = some tall ∧ (s short).attached .s0 = some short ∧
      (readPageEntry (pageBytes 9 8)).good = true ∧ (readPageEntry (pageBytes 4096 1)).good = true ∧
      (m tall 9 8).fetchList 0 = [] ∧ (m tall 9 8).fetchList 1 = [0, 1, 2, 3, 4, 5, 6, 7] ∧ 64 < tall.lines ∧
      (m short 4096 1).fetchList 0 = [] ∧ short.lines ≤ 64 := by
  refine ⟨rfl, rfl, ?_⟩
  and_intros <;> decide +kernel
theorem test_a_band_without_rows_is_full_at_once :
    let t := after (.pageEntryReadDone (pageBytes 9 8))
      (serving (.pageEntry .s0) 32 (atS0 (open' .sheetOpen .entryRead) calA [{ activeA with lines := 200 }]))
    (t.st .s0).bufA.state = .full ∧ (t.st .s0).bufB.state = .filling ∧ (t.st .s0).bufB.band = 1 ∧
      t.port.list.map (·.purpose) = [.row .s0] := by decide +kernel

/-- In either buffer: a row to come; the next band following, and none; the film held for the band, and band 0 waited for
with a permit free and with none. -/
theorem witness_RowFetched : (∀ inB a band rows next o h y,
      let s := fetchingIn inB a band (y :: rows) next o h
      s.serves (.row .s0) 56 ∧ (List.replicate 56 (9 : Byte)).length = 56 ∧
      (s.st .s0).mapping = some { mapA with nextBand := next } ∧ (s.st .s0).activity = a ∧
      s.attached .s0 = some activeA ∧ s.permitQueue = [] ∧ s.permitHolders = h ∧
      ((if inB then (s.st .s0).bufB else (s.st .s0).bufA).rows = y :: rows) ∧
      ((if inB then (s.st .s0).bufB else (s.st .s0).bufA).band = band) ∧
      (if inB then (s.st .s0).bufA else (s.st .s0).bufB).state = o) ∧
    (mapA.beginBand 0).state = .filling ∧ (mapA.beginBand 1).state = .filling ∧
    (1 < bandCount mapA.lines ∧ 1 = 0 + 1) ∧ bandCount mapA.lines ≤ 2 ∧
    (∀ k, Activity.positioning .page ≠ .lineHold k) ∧ Activity.lineHold (1 - 1) = .lineHold 0 ∧
    activeA.stopSeen = false ∧ [StationId.s1].length < 2 ∧ 2 ≤ [StationId.s1, .s2].length := by
  refine ⟨fun inB a band rows next o h y => ?_, by decide +kernel, by decide +kernel, by decide +kernel, by decide +kernel, nofun,
    rfl, rfl, by decide, by decide⟩
  cases inB <;> exact ⟨⟨rfl, _, rfl, rfl, rfl⟩, by decide +kernel, rfl, rfl, rfl, rfl, rfl, rfl, rfl, rfl⟩
theorem test_band_held_in_the_other_buffer_ends_a_line_hold :
    let t := after (.rowFetchDone (List.replicate 56 9)) (fetchingIn true (.lineHold 0) 1 [31] 2 .free [.s0])
    (t.st .s0).activity = .line .page 64 ∧ (t.st .s0).bufB.state = .full ∧
      t.port.list.map (fun r => (r.purpose, r.addr)) = [(.band .s0, 0x100C)] := by decide +kernel

theorem witness_MoveCompleteActs : let s (st : StationState) (a : Activity) (h : List StationId) : State :=
      { atS0 { open' st a with moveOut := true } calA [activeA] with permitHolders := h }
    (∀ st a h, (s st a h).settled ∧ ((s st a h).st .s0).moveOut = true ∧ ((s st a h).st .s0).activity = a) ∧
    (State.reset.st .s0).moveOut = false ∧
    (((s .sheetOpen (.positioning .page) []).st .s0).state ≠ .calibrating ∧
      ((s .sheetOpen (.positioning .page) []).st .s0).bandIn .full 0 = false) ∧
    ((Area.index ≠ .page ∨ ((s .sheetOpen (.positioning .index) [.s1]).st .s0).bandIn .full 0 = true) ∧
      .s0 ∉ (s .sheetOpen (.positioning .index) [.s1]).permitHolders ∧ (s .sheetOpen (.positioning .index) [.s1]).permitHolders.length < 2) ∧
    (.s0 ∉ (s .sheetOpen (.positioning .index) [.s1, .s2]).permitHolders ∧
      2 ≤ (s .sheetOpen (.positioning .index) [.s1, .s2]).permitHolders.length) ∧
    ((s .exposing (.swathMove 9) []).st .s0).activity = .swathMove 9 ∧ ((s .exposing .returnMove []).st .s0).activity = .returnMove := by
  refine ⟨fun _ _ _ => ⟨⟨rfl, rfl⟩, rfl, rfl⟩, ?_⟩
  and_intros <;> first | exact .inl nofun | decide +kernel
theorem witness_MoveCompleteActs_photometer : let s := calibratingS0 { ready with moveOut := true } .quick .moving
    s.settled ∧ (s.st .s0).moveOut = true ∧ (s.st .s0).state = .calibrating ∧
      (s.cal .s0).flight = some (calFlight .quick .moving) ∧ (calFlight .quick .moving).phase = .moving :=
  ⟨⟨rfl, rfl⟩, rfl, rfl, rfl, rfl⟩

theorem witness_FrameProgress_lines : let titled := { activeA with layout := { layA with t := 3000 } }
    let s (a : Area) (k : Nat) := atS0 (open' .exposing (.line a k)) calA [titled]
    (∀ a k, (s a k).settled ∧ ((s a k).st .s0).state = .exposing ∧ (s a k).attached .s0 = some titled ∧
      ((s a k).st .s0).activity = .line a k) ∧
    598 + 1 < titled.layout.t / 5 ∧ 126 + 1 < titled.lines ∧ (62 + 1) % 64 ≠ 0 ∧ (64 + 1) % 64 ≠ 0 :=
  ⟨fun _ _ => ⟨⟨rfl, rfl⟩, rfl, rfl, rfl⟩, by decide, by decide, by decide, by decide⟩
/-- Band 0 in buffer A and band 1 in buffer B. -/
theorem witness_FrameProgress_dwells : let x := { open' .exposing (.line .page 0) with
        bufA := mapA.beginBand 0, bufB := mapA.beginBand 1 }
    let s := atS0 x calA [activeA]
    s.attached .s0 = some activeA ∧ (s.st .s0).sheet = some sheetA ∧ (s.cal .s0).trims.length = 2048 ∧
      (s.cal .s0).statuses.length = 2048 ∧ sheetA.offset + activeA.ew ≤ 2048 ∧ 2047 < 2048 ∧
      (x.bufA.state ≠ .free ∧ x.bufA.band = 63 / 64 ∧ (x.bufA.dots[63 % 64]?).map (·.length) = some activeA.ew) ∧
      (x.bufB.state ≠ .free ∧ x.bufB.band = 64 / 64 ∧ x.bufA.band ≠ 64 / 64 ∧
        (x.bufB.dots[64 % 64]?).map (·.length) = some activeA.ew) := by
  and_intros <;> decide +kernel
/-- S0 at line 127 of area `a`, the last of every area but a title swath, with `r` the band reading made. -/
def lineEnds (a : Area) (k : Nat) (r : Option Bool) (j : Job) (c : CalUnit) (l : List Request) (ph : Option StationId) :
    State :=
  { atS0 { open' .exposing (.line a k) with bandReading := r } c [j] with
    permitHolders := [.s0], port := { Port.idle with list := l }, photometer := ph }
theorem witness_FrameProgress_ends : let titled := { activeA with layout := { layA with t := 3000 } }
    let atEnd := { activeA with nextPage := 2 }
    let due := { calA with quickDue := true }
    let band := readRequest (.band .s0) 0x100C 4
    (∀ a k r j c ph, ∀ l ∈ [[], [aRead, band, aRead]], j.station = some .s0 → let s := lineEnds a k r j c l ph
      s.settled ∧ (s.st .s0).state = .exposing ∧ s.attached .s0 = some j ∧ (s.st .s0).sheet = some sheetA ∧
      s.permitQueue = [] ∧ (s.st .s0).activity = .line a k ∧ (s.st .s0).bandReading = r ∧ s.photometer = ph ∧
      .s0 ∉ s.photometerQueue ∧ s.port.list = l ∧ ∀ q ∈ s.port.list, q.purpose ≠ .row .s0) ∧
    (lineEnds .page 127 none activeA calA [] none).stopOutstanding .s0 = false ∧
    ([aRead, band, aRead] = [aRead] ++ band :: [aRead] ∧ ∀ q ∈ [aRead] ++ [aRead], isStopReading .s0 q = false) ∧
    (titled.layout.t / 5 ≤ 599 + 1 ∧ 8 < 9 ∧ 9 ≤ 9) ∧ activeA.lines ≤ 127 + 1 ∧ activeA.stopSeen = false ∧
    (calA.frameEnd Timing.reset).quickDue = false ∧ sheetA.titleDone = true ∧
    (sheetA.nextPos < activeA.frames ∧ activeA.nextPage < activeA.pageCount) ∧ ¬atEnd.nextPage < atEnd.pageCount ∧
    (due.frameEnd Timing.reset).quickDue = true ∧ (due.frameEnd Timing.reset).valid = true := by
  refine ⟨fun a k r j c ph l hl hj => ?_, by decide +kernel, by decide +kernel, by decide, by decide, rfl, by decide +kernel, rfl,
    by decide, by decide, rfl, rfl⟩
  simp only [List.mem_cons, List.not_mem_nil, or_false] at hl
  rcases hl with rfl | rfl <;>
  exact ⟨⟨rfl, rfl⟩, rfl, by simp [lineEnds, atS0, State.attached, hj], rfl, rfl, rfl, rfl, rfl, nofun, rfl, by
    simp only [lineEnds]; decide +kernel⟩

/-- The end of the index frame, of a page frame and of the strip with S2 waiting for the permit. -/
theorem witness_FrameProgress_permit : let titled := { activeA with layout := { layA with t := 3000 } }
    let s (a : Area) (k : Nat) := awaited (open' .exposing (.line a k)) (atS0 ready calA [titled])
    (∀ a k, (s a k).settled ∧ ((s a k).st .s0).state = .exposing ∧ (s a k).attached .s0 = some titled ∧
      ((s a k).st .s0).sheet = some sheetA ∧ ((s a k).st .s0).activity = .line a k ∧
      (s a k).permitAwaited .s0 .s2 .index [.s3]) ∧
    titled.lines ≤ 127 + 1 ∧ titled.layout.t / 5 ≤ 599 + 1 ∧ 9 ≤ 9 :=
  ⟨fun _ _ => ⟨⟨rfl, rfl⟩, rfl, rfl, rfl, rfl, awaited_permit _ _⟩, by decide, by decide, by decide⟩
/-- The 65,535th frame, and a frame that makes QUICK due at its interval of 200 and FULL not yet at 4,000 (R137). -/
theorem test_frame_counters :
    let ends (c : CalUnit) := (after (.lineEnd .s0) (lineEnds .index 127 none activeA c [] none)).cal .s0
    (ends { calA with sinceFull := 65535, sinceQuick := 65535 }).sinceFull = 65535 ∧
      (ends { calA with sinceQuick := 199, sinceFull := 3998 }).quickDue = true ∧
      (ends { calA with sinceQuick := 199, sinceFull := 3998 }).fullDue = false ∧
      (ends { calA with sinceQuick := 198, sinceFull := 3999 }).fullDue = true := by decide +kernel

theorem witness_BandBoundarySettles : let s (st : BandState) (r : Option Bool) := atS0 { open' .exposing (.line .page 63) with
        bandReading := r, bufB := { BandBuffer.empty with state := st, band := 1 } } calA [activeA]
    (∀ st r, (s st r).settled ∧ ((s st r).st .s0).state = .exposing ∧ (s st r).attached .s0 = some activeA ∧
      ((s st r).st .s0).sheet = some sheetA ∧ ((s st r).st .s0).activity = .line .page 63) ∧
    63 + 1 = 64 * (0 + 1) ∧ 63 + 1 < activeA.lines ∧
    ((s .failed none).st .s0).bandIn .failed (0 + 1) = true ∧
    (((s .full (some true)).st .s0).bandIn .failed (0 + 1) = false ∧ ((s .full (some true)).st .s0).bandReading = some true) ∧
    (((s .full (some false)).st .s0).bandIn .failed (0 + 1) = false ∧ ((s .full (some false)).st .s0).bandReading ≠ some true ∧
      ((s .full (some false)).st .s0).bandIn .full (0 + 1) = true) ∧
    (((s .filling none).st .s0).bandIn .failed (0 + 1) = false ∧ ((s .filling none).st .s0).bandIn .full (0 + 1) = false) := by
  refine ⟨fun _ _ => ⟨⟨rfl, rfl⟩, rfl, rfl, rfl, rfl⟩, ?_⟩
  and_intros <;> decide +kernel
/-- Band 0 has ended in one buffer; band 1 stands in the other in state `st`; `next` is the next band of a frame of 200
lines. -/
def endedBand (inB : Bool) (st : BandState) (next : Nat) (r : Option Bool) : State :=
  let m := { mapA with lines := 200, nextBand := next }
  let a : BandBuffer := { BandBuffer.empty with state := .full, band := 0 }
  let b : BandBuffer := { BandBuffer.empty with state := st, band := 1 }
  serving (.row .s0) 56 (atS0 { open' .exposing (.line .page 63) with
    bandReading := r, mapping := some m, bufA := if inB then b else a, bufB := if inB then a else b } calA
      [{ activeA with lines := 200 }])
theorem witness_BandBoundarySettles_buffers :
    (∀ inB st next r, (endedBand inB st next r).settled ∧
      (endedBand inB st next r).serving = some (readRequest (.row .s0) 0x1000 56) ∧
      (endedBand inB st next r).attached .s0 = some { activeA with lines := 200 } ∧
      ((endedBand inB st next r).st .s0).sheet = some sheetA ∧ ((endedBand inB st next r).st .s0).state = .exposing ∧
      ((endedBand inB st next r).st .s0).activity = .line .page 63 ∧
      let x := (endedBand inB st next r).st .s0
      x.bandReading = r ∧ x.mapping = some { mapA with lines := 200, nextBand := next } ∧
        (if inB then x.bufB else x.bufA).state = .full ∧ (if inB then x.bufB else x.bufA).band = 0 ∧
        (if inB then x.bufA else x.bufB).state = st ∧ (if inB then x.bufA else x.bufB).band = 0 + 1) ∧
    0 + 2 < bandCount 200 ∧ bandCount 200 ≤ 4 ∧ (63 + 1) < 200 := by
  refine ⟨fun inB st next r => ?_, by decide, by decide, by decide⟩
  cases inB <;> exact ⟨⟨rfl, rfl⟩, rfl, rfl, rfl, rfl, rfl, rfl, rfl, rfl, rfl, rfl, rfl⟩
theorem test_the_ended_bands_buffer_takes_the_next_band :
    let x := (after (.lineEnd .s0) (endedBand true .full 2 none)).st .s0
    x.bufB.band = 2 ∧ x.bufA.band = 1 ∧ x.mapping.map (·.nextBand) = some 3 := by decide +kernel
theorem test_an_abort_withdraws_the_row_request :
    let t := after (.lineEnd .s0) (endedBand false .filling 2 (some true))
    t.port.list = [] ∧ t.port.discarding = some (readRequest (.row .s0) 0x1000 56) ∧ (t.st .s0).bufB.state = .free := by
  decide +kernel

/-! ### Calibration, the port and the arithmetic -/

theorem witness_SettleBeginsTheMeasurement : let s := calibratingS0 { ready with settleTimer := some 20 } .quick .settling
    s.settled ∧ (s.st .s0).state = .calibrating ∧ (s.cal .s0).flight = some (calFlight .quick .settling) ∧
      (calFlight .quick .settling).phase = .settling ∧ (s.st .s0).settleTimer ≠ none ∧
      (calFlight .quick .settling).phase ≠ .measuring :=
  ⟨⟨rfl, rfl⟩, rfl, rfl, rfl, nofun, nofun⟩

theorem witness_FullCompletes : let s := calibratingS0 ready .full .measuring
    let f := calFlight .full .measuring
    let at256 := List.replicate 256 399 ++ List.replicate 1792 400
    let at257 := List.replicate 257 399 ++ List.replicate 1791 400
    (s.settled ∧ s.atRest ∧ (s.st .s0).state = .calibrating ∧ (s.cal .s0).flight = some f ∧ f.phase = .measuring ∧
      f.kind = .full ∧ s.photometer = some .s0 ∧ s.photometerQueue = [] ∧ s.attached .s0 = none ∧ (s.st .s0).sheet = none ∧
      (s.st .s0).stacked = none ∧ (s.st .s0).dozeTimer = none ∧ .s0 ∉ s.permitHolders ∧ .s0 ∉ s.permitQueue ∧
      ∀ r ∈ s.port.list, ofStation .s0 r = false) ∧
    (∀ n : State, n.endQueue = s.endQueue → n.jobs = s.jobs → n.atRest) ∧
    (at256.length = 2048 ∧ (at256.filter (· < 400)).length ≤ 256 ∧
      ((s.cal .s0).quickRequired && !f.answersQuickRequired || (s.cal .s0).quickDue && !f.answersQuickDue ||
        (s.cal .s0).fullDue && !f.answersFullDue) = false) ∧
    (at257.length = 2048 ∧ 256 < (at257.filter (· < 400)).length) :=
  ⟨⟨⟨rfl, rfl⟩, rest_of rfl rfl, rfl, rfl, rfl, rfl, rfl, rfl, rfl, rfl, rfl, rfl, nofun, nofun, nofun⟩,
    fun n h h' => rest_of h (by rw [h']; rfl), by decide +kernel, by decide +kernel⟩
/-- S0's QUICK is measured, from READY or SHEET_OPEN, for the jobs and with the marks given. -/
def quickMeasured (x : Station) (due answers : Bool) (jobs : List Job) : State :=
  let f := { calFlight .quick .measuring with answersQuickDue := answers }
  { atS0 { x with state := .calibrating } { calA with flight := some f, quickDue := due, liveSum := 2010000 } jobs with
    photometer := some .s0 }
/-- No mark left, idle and with a job attached; a drift that makes FULL due; on an open sheet a QUICK made due since the
grant, and the title strip, the next page and the index frame. -/
theorem witness_QuickCompletes :
    (∀ x d a jobs, x.stacked = none → x.dozeTimer = none → (quickMeasured x d a jobs).settled ∧
      ((quickMeasured x d a jobs).st .s0).state = .calibrating ∧
      ((quickMeasured x d a jobs).cal .s0).flight = some { calFlight .quick .measuring with answersQuickDue := a } ∧
      (quickMeasured x d a jobs).photometer = some .s0 ∧ (quickMeasured x d a jobs).photometerQueue = []) ∧
    (∀ n : State, n.endQueue = [] → n.jobs = [] ∨ n.jobs = [jobA] → n.atRest) ∧
    (ready.sheet = none ∧ (((quickMeasured ready true true []).cal .s0).quickDone (calFlight .quick .measuring) 1870000).marked = false ∧
      (quickMeasured ready true true []).attached .s0 = none) ∧
    ((quickMeasured ready true true [jobA]).attached .s0 = some jobA ∧ jobA.state = .attached ∧
      jobA.ending = none ∧ jobA.stopSeen = false ∧ (quickMeasured ready true true [jobA]).stopOutstanding .s0 = false) ∧
    (((quickMeasured ready true true []).cal .s0).quickDone (calFlight .quick .measuring) 1000000).fullDue = true ∧
    (((quickMeasured ready true true []).cal .s0).quickDone (calFlight .quick .measuring) 1000000).h = 1280 ∧
    ((open' .calibrating .idle).sheet ≠ none ∧ (true && !false) = true) ∧
    ((quickMeasured (open' .calibrating .idle) true true [activeA]).attached .s0 = some activeA ∧
      (open' .calibrating .idle).sheet = some sheetA ∧ (true && !true) = false ∧
      ({ sheetA with titleDone := false } : Sheet).titleDone = false ∧ sheetA.titleDone = true ∧
      (activeA.stopSeen = false ∧ sheetA.nextPos < activeA.frames ∧ activeA.nextPage < activeA.pageCount) ∧
      ¬({ sheetA with nextPos := 1 } : Sheet).nextPos < activeA.frames) := by
  refine ⟨fun x d a jobs _ _ => ⟨⟨rfl, rfl⟩, rfl, rfl, rfl, rfl⟩, fun n h h' => ?_, ?_⟩
  · rcases h' with h' | h' <;> exact rest_of h (by rw [h']; rfl)
  · and_intros <;> decide +kernel

/-- A calibration ends at a station whose job's return waits for room: the load is offered, its stop word read first (R75). -/
def quickPending : State := quickMeasured { ready with supply := 0 } true true ({ jobA with returnPending := true } :: queued 8)
theorem witness_QuickCompletes_pending :
    quickPending.attached .s0 = some { jobA with returnPending := true } ∧ quickPending.stopOutstanding .s0 = false ∧
      quickPending.roomForReturn = false ∧ ((({ quickPending with photometer := none } : State).updCal .s0 (fun u =>
        u.quickDone { calFlight .quick .measuring with answersQuickDue := true } 1870000)).updSt .s0 (fun x => { x with
        state := .ready, dozeTimer := none })).atRest ∧
      (after (.quickMeasurementReport .s0 1870000) quickPending).port.list = [readRequest (.decision .s0) 0x100C 4] :=
  ⟨rfl, rfl, by decide +kernel, rest_check (by decide +kernel), by decide +kernel⟩

theorem witness_BusArbitration : let s (park : Bool) (m : Mastership) (busFree : Bool) (l : List Request) : State :=
      let u := portAt true park m l
      { u with port := { u.port with busFree := busFree } }
    (∀ p b l, ((s p .tenure b l).settled ∧ (s p .tenure b l).port.master = .tenure)) ∧
    (∀ b, (s true .requesting b [aRead]).settled ∧ (s true .requesting b [aRead]).port.master = .requesting ∧
      (s true .requesting b [aRead]).port.busFree = b ∧ (s true .requesting b [aRead]).port.list ≠ []) ∧
    ((s true .requesting true []).settled ∧ (s true .requesting true []).port.list = []) ∧
    (s true .granted false [aRead]).settled ∧ (s true .granted false []).settled ∧
    ((s true .parked false []).settled ∧ (s true .parked false []).port.master = .parked) ∧
    ((s true .idle false []).settled ∧ (s true .idle false []).port.master = .idle) := by
  refine ⟨fun _ _ _ => ⟨⟨rfl, rfl⟩, rfl⟩, fun _ => ⟨⟨rfl, rfl⟩, rfl, rfl, nofun⟩, ?_⟩
  and_intros <;> rfl

theorem witness_TimeoutIsAPortError : let p := passAt (.slotRead 0) [] none
    let q := passAt .ticketHead [] (some candA)
    let k := { passAt .kindPeek [candB] (some candA) with place := true }
    let o (l : List (Addr × List Byte)) := passAt (.output l 32) [] (some candA)
    let s := serving .slotRead 16 (inPass p State.reset)
    let u (o : Purpose) (p : Pass) := serving o 16 (inPass p State.reset)
    let d := { portAt true false .tenure [aRead] with
      port := { (portAt true false .tenure [aRead]).port with discarding := some aRead } }
    let w : PlannedWrite := { kind := .buffer, addr := 0x4000, data := zeros 16 }
    let c := writer .completionWrite 16 [w, { w with addr := 0x4010 }] [.completion 0x1000, releaseA] [] State.reset
    let e := writer .doneWrite 4 [doneWrite 0x1000] [.completion 0x1000] [] State.reset
    State.reset.port.master ≠ .tenure ∧ (d.settled ∧ d.port.master = .tenure ∧ d.port.discarding = some aRead) ∧
    (s.serves .slotRead 16 ∧ s.pass = some p ∧ p.phase = .slotRead 0 ∧ 0 + 1 < p.slots) ∧
    (∀ o p, (u o p).serves o 16 ∧ (u o p).pass = some p ∧ (u o p).calm ∧ (u o p).intakeCount < 8) ∧
    (k.candidates = candB :: [] ∧ q.current = some candA ∧ (o []).current = some candA ∧
      (o [(0x4000, zeros 16), (0x4010, [0, 4])]).phase = .output ((0x4000, zeros 16) :: (0x4010, [0, 4]) :: []) 32 ∧
      (o [(0x4000, zeros 32)]).phase = .output [(0x4000, zeros 32)] 32) ∧
    (c.serves .completionWrite 16 ∧ c.plan = w :: { w with addr := 0x4010 } :: [] ∧ c.tasks = .completion 0x1000 :: [releaseA] ∧
      w.kind = .buffer ∧ ({ w with addr := 0x4010 } : PlannedWrite).kind ≠ .done) ∧
    (e.serves .doneWrite 4 ∧ e.tasks = [.completion 0x1000] ∧ e.waiters = []) :=
  ⟨nofun, ⟨⟨rfl, rfl⟩, rfl, rfl⟩, ⟨serving_serves _ _ _, rfl, rfl, by decide⟩,
    fun _ _ => ⟨serving_serves _ _ _, rfl, calm_of rfl rfl, Nat.le_of_ble_eq_true rfl⟩, ⟨rfl, rfl, rfl, rfl, rfl⟩,
    ⟨writer_serves _ _ _ _ _ _, rfl, rfl, rfl, nofun⟩, ⟨writer_serves _ _ _ _ _ _, rfl, rfl⟩⟩
theorem witness_TimeoutIsAPortError_readings : let s (p : Purpose) (x : Station) := serving p 4 (atS0 x calA [activeA])
    let b := s (.boundary .s0) (open' .sheetOpen .boundaryReading)
    (∀ p x, (s p x).serves p 4) ∧ (b.st .s0).activity = .boundaryReading ∧ b.attached .s0 = some activeA ∧
      (b.st .s0).sheet = some sheetA ∧ (b.cal .s0).quickDue = false ∧ sheetA.titleDone = true ∧ activeA.stopSeen = false ∧
      sheetA.nextPos < activeA.frames ∧ activeA.nextPage < activeA.pageCount :=
  ⟨fun _ _ => serving_serves _ _ _, rfl, rfl, rfl, rfl, rfl, rfl, by decide, by decide⟩
/-- The read faults: a page entry, and a row of band 0 or 1 in either buffer. -/
theorem witness_TimeoutIsAPortError_faults :
    (let s := serving (.pageEntry .s0) 32 (atS0 (open' .sheetOpen .entryRead) calA [activeA]);
      s.serves (.pageEntry .s0) 32 ∧ s.attached .s0 = some activeA ∧ (s.st .s0).sheet = some sheetA) ∧
    (∀ a h, let s := fetchingIn false a 0 [15] 1 .free h
      s.serves (.row .s0) 56 ∧ (s.st .s0).bufA.state = .filling ∧ (s.st .s0).bufA.band = 0 ∧ (s.st .s0).activity = a ∧
        s.permitHolders = h ∧ s.permitQueue = [] ∧ ∀ r ∈ s.port.list.tail, r.purpose ≠ .row .s0) ∧
    (∀ a, let s := fetchingIn true a 1 [31] 2 .full [.s0]
      s.serves (.row .s0) 56 ∧ (s.st .s0).bufA.state = .full ∧ (s.st .s0).bufB.state = .filling ∧ (s.st .s0).bufB.band = 1 ∧
        (s.st .s0).activity = a ∧ ∀ r ∈ s.port.list.tail, r.purpose ≠ .row .s0) ∧
    (∀ k, Activity.line .page 5 ≠ .lineHold k) ∧ Activity.lineHold (1 - 1) = .lineHold 0 := by
  refine ⟨⟨⟨rfl, _, rfl, rfl, rfl⟩, rfl, rfl⟩, fun a h => ⟨⟨rfl, _, rfl, rfl, rfl⟩, rfl, rfl, rfl, rfl, rfl, nofun⟩,
    fun a => ⟨⟨rfl, _, rfl, rfl, rfl⟩, rfl, rfl, rfl, rfl, nofun⟩, nofun, rfl⟩
/-- A fiche ticket of `p` pages with the layout of `wideRest`, but for some bytes replaced by `f`. -/
def ticketOf (p : Nat) (f : List Byte → List Byte) : List Byte := f ([1, 0, 0, 0] ++ leBytes 4 p ++ zeros 8 ++ wideRest)
/-- The four bytes at `off` replaced by `v`. -/
def put4 (off v : Nat) (d : List Byte) : List Byte := d.take off ++ leBytes 4 v ++ d.drop (off + 4)

/-- Each check at the boundary where it refuses, the checks before it met: pages 0 and 4,097; W over its range; the right edge
past 103,000 µm; two positions with no room in the index; a strip of 2,995 µm; tone index 4; and a ticket accepted. -/
theorem witness_AcceptedLayoutsFit : cheque.check = .none ∧ 98 < 99 ∧ 99 ≤ cheque.frames ∧ 248 + cheque.ew ≤ 2048 ∧
    ficheCheck (ticketOf 0 id) = .pageCount ∧ ficheCheck (ticketOf 4097 id) = .pageCount ∧
    ficheCheck (ticketOf 4096 id) = .none ∧
    ficheCheck (ticketOf 1 (put4 0x14 10245)) = .layoutFit ∧ ficheCheck (ticketOf 1 (put4 0x24 82605)) = .layoutFit ∧
    ficheCheck (ticketOf 1 (put4 0x24 82600)) = .none ∧
    ficheCheck (ticketOf 1 (fun d => put4 0x14 1115 (put4 0x1C 1115 d))) = .layoutIndex ∧
    ficheCheck (ticketOf 1 (fun d => put4 0x28 9000 (put4 0x2C 2995 d))) = .titleFit ∧
    ficheCheck (ticketOf 1 (put4 0xC0 0x00040000)) = .toneIndex := by decide +kernel
/-- A tall image on the shortest frame, and the statement page; the rotated cheque; a column outside the used area. -/
theorem witness_StepAndUsedArea : let tall := { statementPage with width := 1, height := 16384, rowPitch := 1 }
    tall.good = true ∧ statementPage.good = true ∧ 100 ≤ 2048 ∧ 2048 ≤ 2048 ∧ 100 ≤ 100 ∧ 2500 ≤ 4000 ∧
      (makeMapping 0 tall 2048 100 255).step = 10737419 ∧ (makeMapping 0 tall 2048 100 255).uw = 0 ∧
      1798 < (makeMapping 0 statementPage 1800 2500 255).uw ∧
      ((200 * 65536 + 1800 - 1) / 1800 ≤ 16384 ∧ (300 * 65536 + 2500 - 1) / 2500 ≤ 16384) := by decide +kernel
theorem witness_FetchLists : let rot := { statementPage with width := 1600, height := 700, rotation := 90 }
    statementPage.good = true ∧ statementPage.rotation = 0 ∧ rot.good = true ∧ rot.rotation = 90 := by decide +kernel
theorem witness_BandsAreComposed : let m := makeMapping 0 statementPage 1800 2500 255
    statementPage.good = true ∧ (1798 < 1800 ∧ 64 * 1 ≤ 85 ∧ 85 ≤ 64 * 1 + 63 ∧ m.used 1798 85 = true) ∧
      (64 * 1 ≤ 84 ∧ m.used 1798 84 = false) ∧ m.used 1799 85 = false := by decide +kernel
theorem witness_HeadWindowIsTheBest : (List.replicate 2048 EmitterStatus.dead).length = 2048 ∧ 1 ≤ 2048 ∧ 248 + 1800 ≤ 2048 := by
  decide +kernel
theorem witness_DwellStages : 1023 ≤ 1023 ∧ 256 ≤ 256 ∧ 256 ≤ 4096 ∧ (2047 = 0 ∨ (512 ≤ 2047 ∧ 2047 ≤ 2047)) ∧ 768 ≤ 1280 ∧
    1280 ≤ 1280 ∧ 1 ≤ 1023 ∧ 400 ≤ 400 ∧ rawDwell 1023 256 2047 1280 1023 = 32688 ∧ dMax 400 < 32688 ∧ 32728 ≤ 65535 := by
  decide +kernel
/-- The first character of the tag line, S, at magnification 8 on a strip with no host line: row 2 of its glyph is 0x0F, so cell
column 1 is clear and column 2 set; an index entry begins with R, and its row 2 is 0x1E (R128, R130). -/
theorem witness_DwellStages_text : let l := { layA with t := 3000, titleMag := 8, y0 := 5000 }
    let sh := sheetA
    let e := { entryA with key := List.replicate 16 0x61 }
    1 ≤ l.titleMag ∧ titleTop l = 244 ∧ titleLeft l = 8564 ∧ titleDot l sh (8564 + 8) (244 + 16) = false ∧
      titleDot l sh (8564 + 16) (244 + 16) = true ∧ titleDot l sh (8564 + 55) (244 + 16 + 7) = false ∧ 14 ≤ 14 ∧
      (∀ x ∈ [e], x.key.length = 16) ∧ indexDot [e] 14 1 2 = true ∧ indexDot [e] 14 5 2 = false ∧
      indexDot [e] 14 (8 * 7) 0 = true ∧ indexDot [e] 14 (8 * 7) 12 = false := by decide +kernel
/-- Of a MONO1 row the leftmost pixel of a byte is its most significant bit (R25). -/
theorem test_mono_pixels : [pixel true [0x81, 0x40] 0, pixel true [0x81, 0x40] 1, pixel true [0x81, 0x40] 7, pixel true [0x81, 0x40] 9] =
    [255, 0, 255, 255] := by decide +kernel
theorem witness_RequestsJoinAndTransfer :
    (∃ t, ({ State.reset with port := { Port.idle with arriving := [aRead, readRequest (.row .s0) 0x2002 3] } } : State).done = .next t) ∧
    1 ≤ (readRequest (.row .s0) 0xFFFFFFFF 1).len ∧ (readRequest (.row .s0) 0xFFFFFFFE 8).transfers.length = 3 :=
  ⟨⟨_, rfl⟩, by decide +kernel, by decide +kernel⟩

end Sys2Proof.Tests
end

section
/-! PROOFS. The load decision that begins a sheet load (R58, R59, R76): what a change of one job leaves of the dispatcher's
lists, the dispatcher left at rest by a load, and the decision whose checks all pass. -/

namespace Sys2Proof.Machine

/-! ## Jobs and the stations they are attached to -/

/-- The job attached to a station is one of the contexts, and names that station. -/
theorem State.attached_spec {s : State} {i : StationId} {j : Job} (h : s.attached i = some j) :
    j ∈ s.jobs ∧ j.station = some i :=
  ⟨List.mem_of_find?_eq_some h, by simpa using List.find?_some h⟩

/-- A change of one job that moves it to no other station changes what is attached in that job alone. -/
theorem State.attached_updJob {s : State} {a : Addr} {f : Job → Job} (hf : ∀ k, (f k).station = k.station)
    (i : StationId) : (s.updJob a f).attached i = (s.attached i).map (fun k => if k.slotAddr = a then f k else k) := by
  have hp : ∀ k, (if k.slotAddr = a then f k else k).station = k.station := by intro k; split <;> simp [hf]
  simp only [State.attached, State.updJob, List.find?_map, Function.comp_def, hp]

/-- With one context for each slot, the context at the attached job's slot is that job. -/
theorem State.eq_attached_of_slotAddr {s : State} {i : StationId} {j k : Job} (hn : (s.jobs.map (·.slotAddr)).Nodup)
    (hj : s.attached i = some j) (hk : k ∈ s.jobs) (he : k.slotAddr = j.slotAddr) : k = j :=
  List.inj_on_of_nodup_map hn hk (State.attached_spec hj).1 he

/-- A change of jobs that are queued neither before nor after it leaves the intake list. -/
theorem State.intake_updJob {s : State} {a : Addr} {f : Job → Job}
    (h : ∀ k ∈ s.jobs, k.slotAddr = a → k.state ≠ .queued ∧ (f k).state ≠ .queued) : (s.updJob a f).intake = s.intake := by
  show (s.jobs.map _).filter _ = s.jobs.filter _
  generalize s.jobs = l at h
  induction l with
  | nil => rfl
  | cons k l ih =>
    have ih := ih (fun q hq => h q (List.mem_cons_of_mem _ hq))
    by_cases ha : k.slotAddr = a
    · simp [ha, h k List.mem_cons_self ha, ih]
    · simp [List.filter_cons, ha, ih]

/-! ## The dispatcher at rest -/

/-- Nothing matches when no free station has a fitting job (R54, R55). -/
theorem State.nextMatch_eq_none {s : State} : s.nextMatch = none ↔ ∀ i, s.free i = true → s.oldestFit i = none := by
  have hall : ∀ i : StationId, i ∈ allStations := by intro i; cases i <;> decide
  simp only [State.nextMatch, List.findSome?_eq_none_iff, hall, forall_const, ite_eq_right_iff, Option.map_eq_none_iff]

/-- No return is waiting when no job has one pending with its end not waiting (R64). -/
theorem State.nextReturn_eq_none {s : State} :
    s.nextReturn = none ↔ ∀ k ∈ s.jobs, k.returnPending = true → k.ending ≠ none := by
  simp [State.nextReturn, List.find?_eq_none]

/-- A load that begins leaves a dispatcher at rest at rest: its job was in no intake list and waits for no return, and its
station is free for no other (R58). -/
theorem State.beginLoad_atRest {s : State} {i : StationId} {j : Job} (w : Nat × Nat) (h : s.atRest)
    (hj : s.attached i = some j) (hq : j.state ≠ .queued) (hn : (s.jobs.map (·.slotAddr)).Nodup) :
    (s.beginLoad i j w).atRest := by
  rw [State.atRest_iff] at h ⊢
  obtain ⟨hevents, hreturn, hmatch⟩ := h
  have hintake : (s.beginLoad i j w).intake = s.intake := State.intake_updJob (f := fun k => s.loadedJob i k w) (fun k hk he =>
    ⟨State.eq_attached_of_slotAddr hn hj hk he ▸ hq, by simp [State.loadedJob]⟩)
  refine ⟨hevents, hreturn.imp (fun hr => ?_) (fun hr => ?_), State.nextMatch_eq_none.2 (fun k hk => ?_)⟩
  · rw [State.nextReturn_eq_none] at hr ⊢
    simp only [State.beginLoad, State.updSt_jobs, State.updJob, List.mem_map]
    rintro _ ⟨k, hk, rfl⟩
    split
    · simp [State.loadedJob]
    · exact hr k hk
  · rw [State.roomForReturn, State.intakeCount, hintake]; exact hr
  · have hki : k ≠ i := by
      rintro rfl
      simp [State.free, State.beginLoad] at hk
    have hst : (s.beginLoad i j w).st k = s.st k := State.st_updSt_other _ _ hki
    have hatt : (s.beginLoad i j w).attached k = (s.attached k).map _ :=
      State.attached_updJob (f := fun k => s.loadedJob i k w) (fun _ => rfl) k
    have hfree : s.free k = true := by simpa [State.free, hst, hatt] using hk
    have hfits : (s.beginLoad i j w).fitsJob k = s.fitsJob k := by
      funext q; rw [State.fitsJob, hst]; rfl
    rw [State.oldestFit, hintake, hfits]
    exact State.nextMatch_eq_none.1 hmatch k hfree

/-! ## The load decision -/

/-- A load decision that begins a load: no stop seen or read, and every check of R58 passed. -/
theorem State.loadDecision_beginLoad {s : State} {i : StationId} {j : Job} (hj : s.attached i = some j)
    (hs : j.state = .attached ∨ j.state = .supplyWait) (he : j.ending = none) (hstop : j.stopSeen = false)
    (hd : s.mayDecide i = true) (hstock : (s.st i).stock = j.expo.stock) (hlimit : j.sheets.length < 16)
    (hw : (chooseWindow (s.cal i).statuses j.ew).2 ≤ j.expo.allowance) (hsupply : 0 < (s.st i).supply) :
    s.loadDecision i false = s.beginLoad i j (chooseWindow (s.cal i).statuses j.ew) := by
  have hdecide : s.decideLoad i j = s.beginLoad i j (chooseWindow (s.cal i).statuses j.ew) := by
    simp [State.decideLoad, hstock, Config.sheetLimit, Nat.not_le.2 hlimit, Nat.not_lt.2 hw, Nat.ne_of_gt hsupply]
  unfold State.loadDecision
  rcases hs with hs | hs <;> simp [hj, hs, he, hstop, hd, hdecide]

/-! ## Completions in service -/

/-- LOAD_DECISION with its reading in service: the request ends, and the decision goes on with what was read (R58). -/
theorem exec_loadDecision_of_serves {s : State} {i : StationId} {n : Nat} (stop : Word) (h : s.serves (.decision i) n) :
    exec (.loadDecision stop) s = (s.endRequest.decisionRead i (stop != 0)).done := by
  obtain ⟨_, r, hr, hp, _⟩ := h
  simp [exec, execLoadDecision, State.completed, hr, hp]

/-- Settles O32: with every check passed the decision is the load's beginning, which leaves the dispatcher at rest. -/
theorem loadBegins : Obligations.LoadBegins := by
  intro s i n j hserves hrest hj hs he hstop hd hstock hlimit hw hsupply hn
  have hload : s.endRequest.loadDecision i false = s.endRequest.beginLoad i j (chooseWindow (s.cal i).statuses j.ew) :=
    State.loadDecision_beginLoad hj hs he hstop hd hstock hlimit hw hsupply
  have hrest' : (s.endRequest.beginLoad i j (chooseWindow (s.cal i).statuses j.ew)).atRest :=
    State.beginLoad_atRest _ (State.atRest_of_view hrest rfl (Nat.le_refl _)) hj (by rcases hs with h | h <;> simp [h]) hn
  dsimp only
  rw [exec_loadDecision_of_serves 0 hserves, State.decisionRead, show ((0 : Word) != 0) = false from rfl, hload,
    State.settle_of_rest hrest']
  exact State.done_endRequest_none (u := s.endRequest.beginLoad i j _) hserves.1 rfl rfl

end Sys2Proof.Machine
end

section
/-! PROOFS. The completion of a page entry's read (R23, R24, R116, R123): the updates of one station and of one job
composed, the requests of an event, the bands that a frame begins (R98), and the two outcomes of the entry. -/

namespace Sys2Proof.Machine

/-! ## Updates composed -/

/-- Two changes of one station are one change. -/
theorem State.updSt_updSt (s : State) (i : StationId) (f g : Station → Station) :
    (s.updSt i f).updSt i g = s.updSt i (fun x => g (f x)) := by cases i <;> rfl

/-- A change of a station is what it makes of that station as it stands. -/
theorem State.updSt_congr {s : State} {i : StationId} {f g : Station → Station} (h : f (s.st i) = g (s.st i)) :
    s.updSt i f = s.updSt i g := by
  simp only [State.updSt, PerStation.upd, show f (s.stations.get i) = g (s.stations.get i) from h]

/-- Two changes of the job of one slot are one change, when the first leaves the slot's address. -/
theorem State.updJob_updJob {s : State} {a : Addr} {f g : Job → Job} (hf : ∀ k, (f k).slotAddr = k.slotAddr) :
    (s.updJob a f).updJob a g = s.updJob a (fun k => g (f k)) := by
  have hmap : ∀ k, (if (if k.slotAddr = a then f k else k).slotAddr = a then g (if k.slotAddr = a then f k else k)
      else (if k.slotAddr = a then f k else k)) = if k.slotAddr = a then g (f k) else k := by
    intro k; by_cases h : k.slotAddr = a <;> simp [h, hf]
  simp only [State.updJob, List.map_map, Function.comp_def, hmap]

/-! ## The requests of an event -/

/-- The state with `l` requested at the event being taken. -/
def State.withRequests (s : State) (l : List Request) : State :=
  { s with port := { s.port with arriving := s.port.arriving ++ l } }

@[simp] theorem State.withRequests_nil (s : State) : s.withRequests [] = s := by simp [State.withRequests]
theorem State.withRequests_one (s : State) (r : Request) : s.withRequests [r] = s.request r := rfl
@[simp] theorem State.withRequests_st (s : State) (l : List Request) (i : StationId) : (s.withRequests l).st i = s.st i := rfl
theorem State.withRequests_updSt (s : State) (l : List Request) (i : StationId) (f : Station → Station) :
    (s.withRequests l).updSt i f = (s.updSt i f).withRequests l := rfl

/-- The end of the event that ends the request in service and makes one request at most. -/
theorem State.done_withRequests {s u : State} {l : List Request} (hs : s.port.arriving = []) (hc : u.ctrl = s.ctrl)
    (hu : u.port = s.endRequest.port) (hl : l.length ≤ 1) : (u.withRequests l).done = .next { u with port := s.portAfter l } := by
  match l, hl with
  | [], _ => rw [State.withRequests_nil]; exact State.done_endRequest_none hs hc hu
  | [r], _ => exact State.done_endRequest_one (u := u.withRequests [r]) hs hc (by simp [State.withRequests, hu])

/-! ## Bands (R95, R98) -/

/-- The lines of a band: 64, or what is left of the frame. -/
theorem bandLines_length (lines b : Nat) : (bandLines lines b).length = min 64 (lines - 64 * b) := by
  have hcount : ∀ n, ((List.range n).filterMap (fun k => if 64 * b + k < lines then some (64 * b + k) else none)).length =
      min n (lines - 64 * b) := by
    intro n
    induction n with
    | zero => simp
    | succ n ih =>
      rw [List.range_succ, List.filterMap_append, List.length_append, ih]
      by_cases h : 64 * b + n < lines <;> simp [h] <;> omega
  exact hcount 64

/-- A band begun: the margin at every dot, FULL at once when it has no row to fetch. -/
theorem Mapping.beginBand_eq (m : Mapping) (b : Nat) : m.beginBand b =
    { state := if m.fetchList b = [] then .full else .filling, band := b, rows := m.fetchList b,
      dots := List.replicate (min 64 (m.lines - 64 * b)) (List.replicate m.ew m.margin) } := by
  simp [Mapping.beginBand, List.map_const', bandLines_length]

/-- The request for the first row of band `b` at station `i`, if the band has one. -/
def Mapping.firstRow (m : Mapping) (i : StationId) (b : Nat) : List Request :=
  ((m.fetchList b).head?.map (fun y => readRequest (.row i) (m.rowAddress y) m.rowLength)).toList

theorem Mapping.firstRow_length (m : Mapping) (i : StationId) (b : Nat) : (m.firstRow i b).length ≤ 1 := by
  unfold Mapping.firstRow; cases (m.fetchList b).head? <;> simp

/-- A band begun requests its first row. -/
theorem State.requestRow_beginBand (s : State) (i : StationId) (m : Mapping) (b : Nat) :
    s.requestRow i m (m.beginBand b) = s.withRequests (m.firstRow i b) := by
  unfold State.requestRow Mapping.firstRow
  rw [Mapping.beginBand_eq]
  cases m.fetchList b with
  | nil => simp
  | cons y rows => rfl

/-- The next band in the first buffer. -/
theorem State.beginNextBand_bufA {s : State} {i : StationId} {m : Mapping} (hm : (s.st i).mapping = some m)
    (hb : m.nextBand < bandCount m.lines) (hp : (s.st i).previousFull m.nextBand = true)
    (hA : (s.st i).bufA.state = .free) :
    s.beginNextBand i = (s.updSt i (fun x => { x with
      mapping := some { m with nextBand := m.nextBand + 1 }, bufA := m.beginBand m.nextBand })).withRequests
        (m.firstRow i m.nextBand) := by
  simp only [State.beginNextBand, hm, hb, hp, hA, true_and, if_true, State.requestRow_beginBand]

/-- The next band in the second buffer, the first not being FREE. -/
theorem State.beginNextBand_bufB {s : State} {i : StationId} {m : Mapping} (hm : (s.st i).mapping = some m)
    (hb : m.nextBand < bandCount m.lines) (hp : (s.st i).previousFull m.nextBand = true)
    (hA : (s.st i).bufA.state ≠ .free) (hB : (s.st i).bufB.state = .free) :
    s.beginNextBand i = (s.updSt i (fun x => { x with
      mapping := some { m with nextBand := m.nextBand + 1 }, bufB := m.beginBand m.nextBand })).withRequests
        (m.firstRow i m.nextBand) := by
  simp only [State.beginNextBand, hm, hb, hp, hA, hB, true_and, if_true, if_false, State.requestRow_beginBand]

/-- No band is begun when none is left, or the band before the next one is not FULL. -/
theorem State.beginNextBand_none {s : State} {i : StationId} {m : Mapping} (hm : (s.st i).mapping = some m)
    (h : bandCount m.lines ≤ m.nextBand ∨ (s.st i).previousFull m.nextBand = false) : s.beginNextBand i = s := by
  have hn : ¬(m.nextBand < bandCount m.lines ∧ (s.st i).previousFull m.nextBand = true) := by
    rintro ⟨h1, h2⟩
    rcases h with h | h
    · omega
    · simp [h2] at h
  simp only [State.beginNextBand, hm, hn, if_false]

/-- The bands of a fresh frame whose first band has rows to fetch, or which has no second band: band 0 alone is begun. -/
theorem State.beginBands_first {s : State} {i : StationId} {m : Mapping} (hm : (s.st i).mapping = some m)
    (h0 : m.nextBand = 0) (hA : (s.st i).bufA = .empty) (hB : (s.st i).bufB = .empty) (hl : 0 < m.lines)
    (h : m.fetchList 0 ≠ [] ∨ m.lines ≤ 64) :
    s.beginBands i = (s.updSt i (fun x => { x with
      mapping := some { m with nextBand := 1 }, bufA := m.beginBand 0 })).withRequests (m.firstRow i 0) := by
  have hcount : 0 < bandCount m.lines := by unfold bandCount ceilDiv Config.bandLines; omega
  rw [State.beginBands, State.beginNextBand_bufA hm (h0 ▸ hcount) (by rw [h0]; rfl) (by rw [hA]; rfl), h0]
  refine State.beginNextBand_none (m := { m with nextBand := 1 }) (by simp) (h.symm.imp (fun h => ?_) (fun h => ?_))
  · simp only [bandCount, ceilDiv, Config.bandLines]; omega
  · simp [Station.previousFull, Station.bandIn, Mapping.beginBand_eq, h, hB, BandBuffer.empty]

/-- The bands of a fresh frame whose first band has no row to fetch, a second band following: both are begun. -/
theorem State.beginBands_both {s : State} {i : StationId} {m : Mapping} (hm : (s.st i).mapping = some m)
    (h0 : m.nextBand = 0) (hA : (s.st i).bufA = .empty) (hB : (s.st i).bufB = .empty) (hf : m.fetchList 0 = [])
    (hl : 64 < m.lines) :
    s.beginBands i = (s.updSt i (fun x => { x with
      mapping := some { m with nextBand := 2 }, bufA := m.beginBand 0, bufB := m.beginBand 1 })).withRequests
        (m.firstRow i 1) := by
  have hcount : 1 < bandCount m.lines := by unfold bandCount ceilDiv Config.bandLines; omega
  have hrow : m.firstRow i 0 = [] := by simp [Mapping.firstRow, hf]
  rw [State.beginBands, State.beginNextBand_bufA hm (by omega) (by rw [h0]; rfl) (by rw [hA]; rfl), h0, hrow,
    State.withRequests_nil, State.beginNextBand_bufB (m := { m with nextBand := 1 }) (by simp) hcount
      (by simp [Station.previousFull, Station.bandIn, Mapping.beginBand_eq, hf])
      (by simp [Mapping.beginBand_eq, hf]) (by simp [hB, BandBuffer.empty]), State.updSt_updSt]
  rfl

/-! ## The page entry (R23, R24, R116) -/

/-- PAGE_ENTRY_READ_DONE with its read in service: the request ends, and the station takes the entry (R23). -/
theorem exec_pageEntryReadDone_of_serves {s : State} {i : StationId} {data : List Byte}
    (h : s.serves (.pageEntry i) 32) (hd : data.length = 32) :
    exec (.pageEntryReadDone data) s = (s.endRequest.takeEntry i data).done := by
  obtain ⟨_, r, hr, hp, hn⟩ := h
  simp [exec, execPageEntryReadDone, State.completed, hr, hp, hn, hd]

/-- The station at the beginning of a frame for page `n` of job `j`, before its bands are begun (R123). -/
def Station.frameOpened (x : Station) (j : Job) (sh : Sheet) (n : Nat) (e : PageEntry) : Station :=
  { x with
    sheet := some { sh with openEntry := some (newEntry j sh sh.nextPos (some n) e.key .ok), nextPos := sh.nextPos + 1 },
    mapping := some (makeMapping n e j.ew j.lines j.expo.margin), bufA := .empty, bufB := .empty, bandReading := none }

/-- A frame begun: its entry opened with its mapping context, its bands begun, its position commanded (R123). -/
theorem State.beginFrame_eq {s : State} {i : StationId} {j : Job} {sh : Sheet} (n : Nat) (e : PageEntry)
    (hj : s.attached i = some j) (hsh : (s.st i).sheet = some sh) :
    s.beginFrame i n e =
      ((s.updSt i (fun x => x.frameOpened j sh n e)).beginBands i).positionFrame i .page j sh sh.nextPos := by
  simp only [State.beginFrame, State.openFrame, hj, hsh, State.updSheet, State.updSt_updSt]
  rw [State.updSt_congr (g := fun x => x.frameOpened j sh n e)]
  simp [Station.frameOpened, hsh]

/-- The next page index moves past page `j.nextPage` (R51). -/
def Job.reached (j : Job) : Job := { j with nextPage := j.nextPage + 1 }

/-- A page reached with its job attached: the job's next page index moves past it, and the job stays attached (R51). -/
theorem State.reachPage_spec {s : State} {i : StationId} {j : Job} (hj : s.attached i = some j) :
    s.reachPage i = s.updJob j.slotAddr Job.reached ∧ (s.reachPage i).attached i = some j.reached := by
  have he : s.reachPage i = s.updJob j.slotAddr Job.reached := by simp only [State.reachPage, hj]; rfl
  exact ⟨he, by simp [he, State.attached_updJob (f := Job.reached) (fun _ => rfl), hj]⟩

/-- A task added to a write list with room: the writer begins it, with one request at most, when it has nothing to do (R44). -/
theorem State.addTask_of_room {s : State} (k : Task) (h : s.listRoom 1) : ∃ (plan : List PlannedWrite) (l : List Request),
    l.length ≤ 1 ∧ s.addTask k = ({ s with tasks := s.tasks ++ [k], plan := plan } : State).withRequests l := by
  have hroom : s.tasks.length < Config.writeListPlaces ∧ s.waiters.isEmpty := by
    obtain ⟨hlength, hwait⟩ := h
    exact ⟨hlength, by simp [hwait]⟩
  have hissue : ∀ u : State, ∃ l : List Request, l.length ≤ 1 ∧ u.issueWrite = u.withRequests l := by
    intro u
    unfold State.issueWrite
    split
    · exact ⟨[_], Nat.le_refl 1, (State.withRequests_one _ _).symm⟩
    · exact ⟨[], by simp, by simp⟩
  rw [State.addTask, if_pos hroom]
  unfold State.beginTask
  split
  · obtain ⟨l, hl, he⟩ := hissue _
    exact ⟨_, l, hl, he⟩
  · exact ⟨s.plan, [], by simp, by simp⟩

/-- Page `j.nextPage` reached and counted REJECTED (R24, R51). -/
def Job.reachedBad (j : Job) : Job :=
  { j with nextPage := j.nextPage + 1, counts := { j.counts with rejected := j.counts.rejected + 1 } }

/-- A bad entry: the page is reached and counted REJECTED, and the station waits for the rejection task (R24, R45). -/
theorem State.takeEntry_bad {s : State} {i : StationId} {data : List Byte} {j : Job} (hj : s.attached i = some j)
    (hbad : (readPageEntry data).good = false) : s.takeEntry i data =
      ((s.updJob j.slotAddr Job.reachedBad).updSt i (fun x => { x with activity := .rejecting })).addTask
        (.rejection j.slotAddr j.ticket i j.nextPage) := by
  simp only [State.takeEntry, hj, hbad, (State.reachPage_spec hj).1, State.rejectPage, Bool.false_eq_true, if_false]
  rw [State.updJob_updJob (f := Job.reached) (fun _ => rfl)]
  rfl

/-- A good entry: the page is reached, and its frame begun (R116, R123). -/
theorem State.takeEntry_good {s : State} {i : StationId} {data : List Byte} {j : Job} {sh : Sheet}
    (hj : s.attached i = some j) (hsh : (s.st i).sheet = some sh) (hgood : (readPageEntry data).good = true) :
    s.takeEntry i data = ((((s.updJob j.slotAddr Job.reached).updSt i
      (fun x => x.frameOpened j sh j.nextPage (readPageEntry data))).beginBands i).positionFrame i .page j sh sh.nextPos) := by
  obtain ⟨hreach, hatt⟩ := State.reachPage_spec hj
  simp only [State.takeEntry, hj, hgood, if_true]
  rw [State.beginFrame_eq _ _ hatt (by rw [hreach]; exact hsh), hreach]
  rfl

/-- A bad page's completion (R24, R45). -/
theorem exec_pageEntryReadDone_bad {s : State} {i : StationId} {data : List Byte} {j : Job}
    (hserves : s.serves (.pageEntry i) 32) (hd : data.length = 32) (hj : s.attached i = some j)
    (hbad : (readPageEntry data).good = false) (hroom : s.listRoom 1) :
    ∃ t, exec (.pageEntryReadDone data) s = .next t ∧ t = { s with
      port := t.port, plan := t.plan,
      tasks := s.tasks ++ [.rejection j.slotAddr j.ticket i j.nextPage],
      jobs := s.jobs.map (fun k => if k.slotAddr = j.slotAddr then { k with
        nextPage := k.nextPage + 1, counts := { k.counts with rejected := k.counts.rejected + 1 } } else k),
      stations := (s.updSt i (fun x => { x with activity := .rejecting })).stations } := by
  obtain ⟨plan, l, hl, he⟩ := State.addTask_of_room (.rejection j.slotAddr j.ticket i j.nextPage)
    (s := (s.endRequest.updJob j.slotAddr Job.reachedBad).updSt i (fun x => { x with activity := .rejecting })) hroom
  rw [exec_pageEntryReadDone_of_serves hserves hd, State.takeEntry_bad (s := s.endRequest) hj hbad, he]
  refine ⟨_, State.done_withRequests hserves.1 ?_ ?_ hl, ?_⟩ <;> rfl

/-- A good page's completion, when the bands of its frame are begun by one change of the station and the requests `asks`. -/
theorem exec_pageEntryReadDone_good {s : State} {i : StationId} {data : List Byte} {j : Job} {sh : Sheet}
    {f : Station → Station} {asks : List Request}
    (hserves : s.serves (.pageEntry i) 32) (hd : data.length = 32) (hj : s.attached i = some j)
    (hsh : (s.st i).sheet = some sh) (hgood : (readPageEntry data).good = true) (hasks : asks.length ≤ 1)
    (hbands : ∀ u : State, (u.st i).mapping = some (makeMapping j.nextPage (readPageEntry data) j.ew j.lines j.expo.margin) →
      (u.st i).bufA = .empty → (u.st i).bufB = .empty → u.beginBands i = (u.updSt i f).withRequests asks) :
    exec (.pageEntryReadDone data) s = .next { s with
      port := s.portAfter asks,
      jobs := s.jobs.map (fun k => if k.slotAddr = j.slotAddr then { k with nextPage := k.nextPage + 1 } else k),
      stations := (s.updSt i (fun x => { f (x.frameOpened j sh j.nextPage (readPageEntry data)) with
        activity := .positioning .page, moveOut := true, head :=
          .at (headForFrame (j.layout.left sh.nextPos) sh.offset),
        filmY := j.layout.top sh.nextPos })).stations } := by
  rw [exec_pageEntryReadDone_of_serves hserves hd, State.takeEntry_good (s := s.endRequest) hj hsh hgood,
    hbands _ (by simp [Station.frameOpened]) (by simp [Station.frameOpened]) (by simp [Station.frameOpened]),
    State.positionFrame, State.position, State.withRequests_updSt, State.updSt_updSt, State.updSt_updSt]
  refine (State.done_withRequests hserves.1 ?_ ?_ hasks).trans ?_ <;> rfl

/-- Settles O44: a bad entry by the rejection task added, a good one by the bands its frame begins. -/
theorem pageEntryDecides : Obligations.PageEntryDecides := by
  refine ⟨fun s i data j hserves hd hj hbad hroom => exec_pageEntryReadDone_bad hserves hd hj hbad hroom, ?_⟩
  intro s i data j sh hserves hd hj hsh hgood e m rowRequest answers
  refine ⟨m.beginBand_eq, fun hlines => ⟨fun y rows hlist => ?_, fun hlist hshort => ?_, fun hlist hlong => ?_⟩⟩
  · rw [show [rowRequest y] = m.firstRow i 0 by simp [Mapping.firstRow, hlist]; rfl]
    exact exec_pageEntryReadDone_good hserves hd hj hsh hgood (m.firstRow_length i 0) (fun u hm hA hB =>
      State.beginBands_first hm rfl hA hB hlines (.inl (by rw [hlist]; simp)))
  · rw [show [] = m.firstRow i 0 by simp [Mapping.firstRow, hlist]]
    exact exec_pageEntryReadDone_good hserves hd hj hsh hgood (m.firstRow_length i 0) (fun u hm hA hB =>
      State.beginBands_first hm rfl hA hB hlines (.inr hshort))
  · exact exec_pageEntryReadDone_good hserves hd hj hsh hgood (m.firstRow_length i 1) (fun u hm hA hB =>
      State.beginBands_both hm rfl hA hB hlist hlong)

end Sys2Proof.Machine
end

section
/-! PROOFS. The fiche sheet (R1 to R15): what each of the four layout checks asks for, where an accepted layout puts its
positions and its index entries, the order of a fiche ticket's checks (R42), and its clamped exposure record (R22, R115). -/

namespace Sys2Proof.Machine

/-! ## The four checks -/

theorem lengthIn_iff {lo hi v : Nat} : lengthIn lo hi v = true ↔ lo ≤ v ∧ v ≤ hi ∧ v % 5 = 0 := by
  simp [lengthIn, and_assoc]

/-- Step 1 (R3). -/
theorem Layout.rangesOk_iff {l : Layout} : l.rangesOk = true ↔
    (1 ≤ l.rows ∧ l.rows ≤ 16) ∧ (1 ≤ l.cols ∧ l.cols ≤ 24) ∧ 2 ≤ l.rows * l.cols ∧
      (500 ≤ l.w ∧ l.w ≤ 10240 ∧ l.w % 5 = 0) ∧ (500 ≤ l.h ∧ l.h ≤ 20000 ∧ l.h % 5 = 0) ∧
      (l.cols = 1 ∨ (l.w ≤ l.pitchX ∧ l.pitchX % 5 = 0)) ∧ (l.rows = 1 ∨ (l.h ≤ l.pitchY ∧ l.pitchY % 5 = 0)) ∧
      l.x0 % 5 = 0 ∧ l.y0 % 5 = 0 := by
  simp only [Layout.rangesOk, Bool.and_eq_true, Bool.or_eq_true, decide_eq_true_eq, beq_iff_eq, lengthIn_iff, and_assoc]

/-- Step 2 (R5). -/
theorem Layout.fits_iff {l : Layout} : l.fits = true ↔
    2000 ≤ l.x0 ∧ l.x0 + (l.cols - 1) * l.pitchX + l.w ≤ 103000 ∧ 2000 + l.t ≤ l.y0 ∧
      l.y0 + (l.rows - 1) * l.pitchY + l.h ≤ 146000 := by
  simp only [Layout.fits, Bool.and_eq_true, decide_eq_true_eq, and_assoc]

/-- Step 4 (R9). -/
theorem Layout.titleOk_iff {l : Layout} : l.titleOk = true ↔
    l.t = 0 ∨ ((3000 ≤ l.t ∧ l.t ≤ 15000 ∧ l.t % 5 = 0) ∧ (8 ≤ l.titleMag ∧ l.titleMag ≤ 40) ∧ l.titleLines ≤ 3 ∧
      (l.titleLines + 1) * 14 * l.titleMag * 5 ≤ l.t) := by
  simp only [Layout.titleOk, Bool.and_eq_true, Bool.or_eq_true, decide_eq_true_eq, beq_iff_eq, lengthIn_iff, and_assoc]

/-- The layout checks in their order (R10). -/
theorem Layout.check_eq_none {l : Layout} : l.check = .none ↔
    l.rangesOk = true ∧ l.fits = true ∧ l.frames ≤ l.indexCap ∧ l.titleOk = true := by
  unfold Layout.check
  by_cases hi : l.indexCap < l.frames
  · cases l.rangesOk <;> cases l.fits <;> simp [hi]
  · cases l.rangesOk <;> cases l.fits <;> cases l.titleOk <;> simp [hi, Nat.le_of_not_lt hi]

/-! ## The grid of an accepted layout (R5) -/

section Grid
variable {l : Layout}

/-- A position's row is one of the grid's, and its column one of a row's. -/
theorem Layout.position_lt (hr : l.rangesOk = true) {p : Nat} (hp : p ≤ l.frames) :
    (l.position p).1 < l.rows ∧ (l.position p).2 < l.cols := by
  obtain ⟨_, ⟨hcols, _⟩, hcells, _⟩ := Layout.rangesOk_iff.1 hr
  have hlt : p < l.cols * l.rows := by unfold Layout.frames at hp; rw [Nat.mul_comm]; omega
  refine ⟨Nat.div_lt_of_lt_mul hlt, ?_⟩
  have := Nat.mod_lt p hcols
  rw [Nat.mod_eq_sub_div_mul] at this
  exact this

/-- Of two positions the later lies in a later row, or in the same row and a later column. -/
theorem Layout.position_lex {p q : Nat} (hpq : p < q) : (l.position p).1 < (l.position q).1 ∨
    ((l.position p).1 = (l.position q).1 ∧ (l.position p).2 < (l.position q).2) := by
  have hle : p / l.cols ≤ q / l.cols := Nat.div_le_div_right hpq.le
  simp only [Layout.position]
  rcases Nat.lt_or_eq_of_le hle with h | h
  · exact .inl h
  · refine .inr ⟨h, ?_⟩
    have := Nat.div_mul_le_self p l.cols
    rw [← h]
    omega

/-- Every position lies in the imaging area, below the title strip. -/
theorem Layout.inside (hr : l.rangesOk = true) (hf : l.fits = true) {p : Nat} (hp : p ≤ l.frames) :
    2000 ≤ l.left p ∧ l.left p + l.w ≤ 103000 ∧ 2000 + l.t ≤ l.top p ∧ l.top p + l.h ≤ 146000 := by
  obtain ⟨hrow, hcol⟩ := Layout.position_lt hr hp
  obtain ⟨hx, hright, hy, hbottom⟩ := Layout.fits_iff.1 hf
  have hx' : (l.position p).2 * l.pitchX ≤ (l.cols - 1) * l.pitchX := Nat.mul_le_mul_right _ (by omega)
  have hy' : (l.position p).1 * l.pitchY ≤ (l.rows - 1) * l.pitchY := Nat.mul_le_mul_right _ (by omega)
  simp only [Layout.left, Layout.top]
  omega

/-- No two positions overlap: a later column starts past the frame's width, a later row past its height. -/
theorem Layout.disjoint (hr : l.rangesOk = true) {p q : Nat} (hpq : p < q) (hq : q ≤ l.frames) :
    l.left p + l.w ≤ l.left q ∨ l.top p + l.h ≤ l.top q := by
  obtain ⟨_, _, _, _, _, hpitchX, hpitchY, _⟩ := Layout.rangesOk_iff.1 hr
  obtain ⟨hrow, hcol⟩ := Layout.position_lt hr hq
  simp only [Layout.left, Layout.top]
  rcases Layout.position_lex (l := l) hpq with h | ⟨_, h⟩
  · have hstep : ((l.position p).1 + 1) * l.pitchY ≤ (l.position q).1 * l.pitchY := Nat.mul_le_mul_right _ h
    rw [Nat.add_mul] at hstep
    omega
  · have hstep : ((l.position p).2 + 1) * l.pitchX ≤ (l.position q).2 * l.pitchX := Nat.mul_le_mul_right _ h
    rw [Nat.add_mul] at hstep
    omega

/-- The sizes derived from fields in range (R2, R5). -/
theorem Layout.sizes (hr : l.rangesOk = true) : 100 ≤ l.ew ∧ l.ew ≤ 2048 ∧ 100 ≤ l.lines ∧ l.lines ≤ 4000 ∧
    1 ≤ l.frames ∧ l.frames ≤ 383 := by
  obtain ⟨⟨_, hrows⟩, ⟨_, hcols⟩, hcells, hw, hh, _⟩ := Layout.rangesOk_iff.1 hr
  have := Nat.mul_le_mul hrows hcols
  simp only [Layout.ew, Layout.lines, Layout.frames]
  omega

/-- With room in the index, each entry has its text column and its text line in the frame (R7). -/
theorem Layout.indexed (hr : l.rangesOk = true) (hi : l.frames ≤ l.indexCap) {k : Nat} (hk : k < l.frames) :
    240 * (k / indexLines l.lines) + 224 ≤ l.ew ∧ 14 * (k % indexLines l.lines) + 14 ≤ l.lines := by
  obtain ⟨_, _, hlines, _⟩ := Layout.sizes hr
  have hpos : 0 < indexLines l.lines := by unfold indexLines; omega
  have hcol : k / indexLines l.lines < indexColumns l.ew :=
    Nat.div_lt_of_lt_mul (by rw [Nat.mul_comm]; exact lt_of_lt_of_le hk hi)
  have hline := Nat.mod_lt k hpos
  unfold indexColumns at hcol
  unfold indexLines at *
  omega

/-- The head reaches every position with every window (R1, R15). -/
theorem Layout.head_reaches (hr : l.rangesOk = true) (hf : l.fits = true) {p o : Nat} (hp : p ≤ l.frames)
    (ho : o + l.ew ≤ 2048) : -7740 ≤ headForFrame (l.left p) o ∧ headForFrame (l.left p) o ≤ 102500 := by
  obtain ⟨hleft, hright, _⟩ := Layout.inside hr hf hp
  obtain ⟨hew, _⟩ := Layout.sizes hr
  have hw : 500 ≤ l.w := by unfold Layout.ew at hew; omega
  unfold headForFrame
  omega

end Grid

/-! ## A fiche ticket (R42, R22) -/

/-- A value that its clamp changes is one outside the range. -/
theorem clamp_ne_iff {lo hi v : Nat} (h : lo ≤ hi) : (clamp lo hi v != v) = true ↔ v < lo ∨ hi < v := by
  simp only [clamp, bne_iff_ne, ne_eq]; omega

/-- The clamped exposure record and its flag (R22, R106, R115). -/
theorem readExposure_spec (d : List Byte) :
    let e := (readExposure d).1
    e.stock = field d 0xC0 2 ∧ e.tone = field d 0xC2 1 ∧ e.allowance = min 7 (field d 0xC3 1) ∧
    e.gain = max 1 (min 1023 (field d 0xC4 2)) ∧ e.textLevel = min 1023 (field d 0xC6 2) ∧
    e.lineTicks = max 400 (min 65535 ((field d 0xC8 4 + 9) / 10)) ∧ e.margin = min 255 (field d 0xCC 2) ∧
    ((readExposure d).2 = true ↔ 7 < field d 0xC3 1 ∨ field d 0xC4 2 < 1 ∨ 1023 < field d 0xC4 2 ∨
      1023 < field d 0xC6 2 ∨ field d 0xC8 4 < 3991 ∨ 655350 < field d 0xC8 4 ∨ 255 < field d 0xCC 2) := by
  refine ⟨rfl, rfl, Nat.zero_max _, rfl, Nat.zero_max _, rfl, Nat.zero_max _, ?_⟩
  have hticks : ceilDiv (field d 0xC8 4) 10 < 400 ∨ 65535 < ceilDiv (field d 0xC8 4) 10 ↔
      field d 0xC8 4 < 3991 ∨ 655350 < field d 0xC8 4 := by unfold ceilDiv; omega
  simp only [readExposure, Bool.or_eq_true, clamp_ne_iff (Nat.zero_le _), clamp_ne_iff (show 1 ≤ 1023 by decide),
    clamp_ne_iff (show 400 ≤ 65535 by decide), hticks, Nat.not_lt_zero, false_or, or_assoc]

/-- The fiche checks in their order (R42): the page count, the layout, the tone index. -/
theorem ficheCheck_spec (d : List Byte) :
    (¬(1 ≤ field d 0x04 4 ∧ field d 0x04 4 ≤ 4096) → ficheCheck d = .pageCount) ∧
    (1 ≤ field d 0x04 4 ∧ field d 0x04 4 ≤ 4096 →
      ((readLayout d).check ≠ .none → ficheCheck d = (readLayout d).check) ∧
      ((readLayout d).check = .none → ficheCheck d = if 3 < field d 0xC2 1 then .toneIndex else .none)) := by
  unfold ficheCheck
  refine ⟨fun h => if_pos (by omega), fun h => ⟨fun hl => ?_, fun hl => ?_⟩⟩
  · rw [if_neg (by omega), if_pos hl]
  · rw [if_neg (by omega), if_neg (by simp [hl])]

/-- Settles O54: the geometry from the grid's lemmas, and each check of a ticket said as its condition. -/
theorem acceptedLayoutsFit : Obligations.AcceptedLayoutsFit := by
  refine ⟨fun l hcheck => ?_, fun d => ?_⟩
  · obtain ⟨hr, hf, hi, _⟩ := Layout.check_eq_none.1 hcheck
    exact ⟨Layout.sizes hr, fun p => Layout.inside hr hf, fun p q => Layout.disjoint hr,
      fun p o => Layout.head_reaches hr hf, fun k => Layout.indexed hr hi⟩
  · intro pages rows cols mag titleLines w h pitchX pitchY x0 y0 t counted ranges fits indexed titled
    obtain ⟨huncounted, hcounted⟩ := ficheCheck_spec d
    have hranges : ranges ↔ (readLayout d).rangesOk = true :=
      (Layout.rangesOk_iff (l := readLayout d)).symm
    have hfits : fits ↔ (readLayout d).fits = true := (Layout.fits_iff (l := readLayout d)).symm
    have hindexed : indexed ↔ ¬(readLayout d).indexCap < (readLayout d).frames := Nat.not_lt.symm
    have htitled : titled ↔ (readLayout d).titleOk = true := (Layout.titleOk_iff (l := readLayout d)).symm
    have hrefused : ∀ r, r ≠ .none → counted → (readLayout d).check = r → ficheCheck d = r :=
      fun r hr hc he => he ▸ (hcounted hc).1 (he ▸ hr)
    have hpassed : counted → ranges → fits → indexed → titled →
        ficheCheck d = if 3 < field d 0xC2 1 then .toneIndex else .none := fun hc hr hf hi ht =>
      (hcounted hc).2 (Layout.check_eq_none.2 ⟨hranges.1 hr, hfits.1 hf, hi, htitled.1 ht⟩)
    refine ⟨huncounted, fun hc hr => hrefused _ (by decide) hc ?_, fun hc hr hf => hrefused _ (by decide) hc ?_,
      fun hc hr hf hi => hrefused _ (by decide) hc ?_, fun hc hr hf hi ht => hrefused _ (by decide) hc ?_,
      fun hc hr hf hi ht htone => ?_, fun hc hr hf hi ht htone => ?_, readExposure_spec d⟩
    · simp [Layout.check, hranges.not.1 hr]
    · simp [Layout.check, hranges.1 hr, hfits.not.1 hf]
    · simp [Layout.check, hranges.1 hr, hfits.1 hf, not_not.1 (hindexed.not.1 hi)]
    · simp [Layout.check, hranges.1 hr, hfits.1 hf, hindexed.1 hi, htitled.not.1 ht]
    · rw [hpassed hc hr hf hi ht, if_pos htone]
    · rw [hpassed hc hr hf hi ht, if_neg (Nat.not_lt.2 htone)]

end Sys2Proof.Machine
end

section
/-! PROOFS. The dots of a text (R122, R128 to R130), read off the layout of its cells, and the stages of a dwell (R107 to
R110). -/

namespace Sys2Proof.Machine

/-! ## Cells (R129, R130) -/

theorem glyph_length {code : Nat} {rows : List Nat} (h : glyph code = some rows) : rows.length = 7 := by
  unfold glyph at h
  split at h <;> cases h <;> rfl

/-- A dot of a character with a glyph: its row's bit, in columns 1 to 5 and rows 2 to 8. -/
theorem cellDot_of_glyph {code : Byte} {rows : List Nat} (hg : glyph code.toNat = some rows) (col row : Nat) :
    cellDot code col row = true ↔
      1 ≤ col ∧ col ≤ 5 ∧ 2 ≤ row ∧ row ≤ 8 ∧ rows.getD (row - 2) 0 / 2 ^ (5 - col) % 2 = 1 := by
  have hbelow : rows.getD (row - 2) 0 / 2 ^ (5 - col) % 2 = 1 → row ≤ 8 := fun h => by
    by_contra hrow
    rw [List.getD_eq_default _ _ (by rw [glyph_length hg]; omega), Nat.zero_div] at h
    cases h
  simp only [cellDot, hg, Bool.and_eq_true, decide_eq_true_eq, Nat.testBit_eq_decide_div_mod_eq, and_assoc]
  tauto

/-- A character without a glyph is a solid block. -/
theorem cellDot_of_no_glyph {code : Byte} (hg : glyph code.toNat = none) (col row : Nat) : cellDot code col row = true := by
  simp [cellDot, hg]

/-! ## Text lines (R130) -/

/-- A place `v` past `lo` lies in its cell, cells being `d` wide. -/
theorem cell_bounds {d lo v : Nat} (hd : 0 < d) (h : lo ≤ v) :
    lo + d * ((v - lo) / d) ≤ v ∧ v < lo + d * ((v - lo) / d) + d := by
  have hlo := Nat.mul_div_le (v - lo) d
  have hhi := Nat.lt_mul_div_succ (v - lo) hd
  rw [Nat.mul_add] at hhi
  omega

/-- The number of the cell in which a place lies, and the place's offset in it. -/
theorem cell_of_bounds {d lo q v : Nat} (hlo : lo + d * q ≤ v) (hhi : v < lo + d * q + d) :
    (v - lo) / d = q ∧ (v - lo) % d = v - (lo + d * q) := by
  have hq : (v - lo) / d = q :=
    Nat.div_eq_of_lt_le (by rw [Nat.mul_comm]; omega) (by rw [Nat.mul_comm, Nat.mul_add]; omega)
  exact ⟨hq, by rw [Nat.mod_eq_sub, hq, Nat.sub_sub]⟩

/-- Film dot (x, y) lies in a set dot of a character of a text line of magnification `m` whose first cell has its top left
dot at (left, top). -/
def textDotAt (m : Nat) (codes : List Byte) (left top x y : Nat) : Prop :=
  ∃ q code, codes[q]? = some code ∧ left + 8 * m * q ≤ x ∧ x < left + 8 * m * q + 8 * m ∧ top ≤ y ∧ y < top + 12 * m ∧
    cellDot code ((x - (left + 8 * m * q)) / m) ((y - top) / m) = true

/-- The text dots of a line lie in its characters' cells. -/
theorem textDotAt_bounds {m : Nat} {codes : List Byte} {left top x y : Nat} (h : textDotAt m codes left top x y) :
    left ≤ x ∧ x < left + 8 * m * codes.length ∧ top ≤ y ∧ y < top + 12 * m := by
  obtain ⟨q, code, hq, hx, hx', hy, hy', _⟩ := h
  have hlt : q + 1 ≤ codes.length := (List.getElem?_eq_some_iff.1 hq).1
  have hend : 8 * m * (q + 1) ≤ 8 * m * codes.length := Nat.mul_le_mul_left _ hlt
  rw [Nat.mul_add] at hend
  omega

/-- The model's text dots, measured from the line's corner, are the set dots of its characters' cells. -/
theorem textLineDot_iff {m : Nat} (hm : 1 ≤ m) (codes : List Byte) {left top x y : Nat} (hx : left ≤ x) (hy : top ≤ y) :
    textLineDot m codes (x - left) (y - top) = true ↔ textDotAt m codes left top x y := by
  have hcolumn : (x - left) / m % 8 = (x - left) % (8 * m) / m := by
    rw [Nat.mul_comm, Nat.mod_mul_right_div_self]
  have hrow : (y - top) / m < 12 ↔ y < top + 12 * m := by rw [Nat.div_lt_iff_lt_mul hm]; omega
  unfold textLineDot textDotAt
  rw [hcolumn]
  constructor
  · intro h
    obtain ⟨hlo, hhi⟩ := cell_bounds (show 0 < 8 * m by omega) hx
    split at h
    · rename_i code hcode
      simp only [Bool.and_eq_true, decide_eq_true_eq] at h
      exact ⟨_, code, hcode, hlo, hhi, hy, hrow.1 h.1, (cell_of_bounds hlo hhi).2 ▸ h.2⟩
    · cases h
  · rintro ⟨q, code, hcode, hlo, hhi, _, hy', hdot⟩
    obtain ⟨hq, hoffset⟩ := cell_of_bounds hlo hhi
    simp [hq, hcode, hrow.2 hy', hoffset, hdot]

/-- The decimal digits of a number, the most significant first. -/
theorem digits_eq (n v : Nat) :
    digits n v = (List.range n).map (fun k => BitVec.ofNat 8 (48 + v / 10 ^ (n - 1 - k) % 10)) := by
  induction n generalizing v with
  | zero => rfl
  | succ n ih =>
    rw [digits, ih, List.range_succ, List.map_append]
    congr 1
    · refine List.map_congr_left (fun k hk => ?_)
      have hk := List.mem_range.1 hk
      rw [Nat.div_div_eq_div_mul, ← Nat.pow_succ', show (n - 1 - k).succ = n + 1 - 1 - k by omega]
    · simp

/-! ## The title strip (R122) -/

/-- The strip's text lines: the host lines, then the tag line. -/
theorem titleText_getElem? (l : Layout) (sh : Sheet) (n : Nat) (codes : List Byte) :
    (titleText l sh)[n]? = some codes ↔ n ≤ l.titleLines ∧
      codes = if n < l.titleLines then (l.title.drop (48 * n)).take 48 else tagLine (sh.index + 1) sh.planned sh.serial := by
  rcases Nat.lt_trichotomy n l.titleLines with h | h | h
  · simp [titleText, h, h.le, eq_comm]
  · simp [titleText, h, eq_comm]
  · simp [titleText, Nat.not_lt.2 h.le, Nat.not_le.2 h]

/-- The text dots of the strip: those of its lines, each 14 cell rows below the line before. -/
theorem titleDot_iff {l : Layout} (hm : 1 ≤ l.titleMag) (sh : Sheet) (x y : Nat) : titleDot l sh x y = true ↔
    ∃ n codes, (titleText l sh)[n]? = some codes ∧
      textDotAt l.titleMag codes (titleLeft l) (titleTop l + 14 * l.titleMag * n) x y := by
  unfold titleDot
  constructor
  · intro h
    split at h
    · rename_i hxy
      obtain ⟨hx, hy⟩ := hxy
      obtain ⟨hlo, hhi⟩ := cell_bounds (show 0 < 14 * l.titleMag by omega) hy
      dsimp only at h
      split at h
      · rename_i codes hcodes
        rw [(cell_of_bounds hlo hhi).2, textLineDot_iff hm codes hx hlo] at h
        exact ⟨_, codes, hcodes, h⟩
      · cases h
    · cases h
  · rintro ⟨n, codes, hcodes, hdot⟩
    obtain ⟨hx, _, hlo, hhi⟩ := textDotAt_bounds hdot
    obtain ⟨hn, hoffset⟩ := cell_of_bounds (d := 14 * l.titleMag) hlo (by omega)
    rw [if_pos ⟨hx, by omega⟩]
    simp only [hn, hcodes, hoffset, textLineDot_iff hm codes hx hlo, hdot]

/-! ## The index frame (R128) -/

theorem indexStatus_length (e : FrameEntry) : (indexStatus e).length = 4 := by
  unfold indexStatus; split_ifs <;> rfl

theorem indexText_length {e : FrameEntry} (h : e.key.length = 16) : (indexText e).length = 28 := by
  simp [indexText, digits_eq, indexStatus_length, h]

/-- The text dots of the index frame: those of its entries, each at its text column and text line. -/
theorem indexDot_iff {map : List FrameEntry} {lines : Nat} (hl : 14 ≤ lines) (hkey : ∀ e ∈ map, e.key.length = 16)
    (x y : Nat) : indexDot map lines x y = true ↔ ∃ n e, map[n]? = some e ∧
      textDotAt 1 (indexText e) (240 * (n / indexLines lines)) (14 * (n % indexLines lines)) x y := by
  have hpos : 0 < indexLines lines := by unfold indexLines; omega
  unfold indexDot
  generalize indexLines lines = rows at hpos
  dsimp only
  constructor
  · intro h
    split at h
    · rename_i hxy
      obtain ⟨hrow, hx⟩ := hxy
      split at h
      · rename_i e he
        obtain ⟨hcolumn, hline⟩ := (Nat.div_mod_unique hpos).2 ⟨Nat.add_comm (y / 14) (rows * (x / 240)), hrow⟩
        refine ⟨rows * (x / 240) + y / 14, e, Nat.mul_comm (x / 240) rows ▸ he, ?_⟩
        rw [Nat.mod_eq_sub, Nat.mod_eq_sub,
          textLineDot_iff (Nat.le_refl 1) _ (Nat.mul_div_le x 240) (Nat.mul_div_le y 14)] at h
        rwa [hcolumn, hline]
      · cases h
    · cases h
  · rintro ⟨n, e, he, hdot⟩
    obtain ⟨hx, hx', hy, hy'⟩ := textDotAt_bounds hdot
    rw [indexText_length (hkey e (List.mem_of_getElem? he))] at hx'
    have hdot := (textLineDot_iff (Nat.le_refl 1) _ hx hy).2 hdot
    have hline := Nat.mod_lt n hpos
    have hcolumn : x / 240 = n / rows := by omega
    have hrow : y / 14 = n % rows := by omega
    rw [if_pos ⟨by omega, by omega⟩, hcolumn, hrow, Nat.mod_eq_sub x, Nat.mod_eq_sub y, hcolumn, hrow, Nat.div_add_mod', he]
    exact hdot

/-! ## The stages of a dwell (R107 to R110) -/

theorem filmStage_le {e s : Nat} (he : e ≤ 1023) (hs : 256 ≤ s) : filmStage e s ≤ 4092 :=
  Nat.le_of_lt_succ (Nat.div_lt_of_lt_mul (by omega))

theorem effectiveTrim_le (c h : Nat) : effectiveTrim c h ≤ 2047 := Nat.min_le_left _ _

/-- A live emitter's trim stays away from 0 under every head factor. -/
theorem le_effectiveTrim {c h : Nat} (hc : 512 ≤ c) (hh : 768 ≤ h) : 384 ≤ effectiveTrim c h := by
  have := Nat.mul_le_mul hc hh
  unfold effectiveTrim
  omega

theorem trimStage_le {ef ceff : Nat} (he : ef ≤ 4092) (hc : ceff ≤ 2047) : trimStage ef ceff ≤ 8180 := by
  have := Nat.mul_le_mul he hc
  unfold trimStage
  omega

theorem gainStage_le {et g : Nat} (he : et ≤ 8180) (hg : g ≤ 1023) : gainStage et g ≤ 32688 := by
  have := Nat.mul_le_mul he hg
  unfold gainStage
  omega

theorem rawDwell_le {e s g : Nat} (c h : Nat) (he : e ≤ 1023) (hs : 256 ≤ s) (hg : g ≤ 1023) :
    rawDwell e s c h g ≤ 32688 :=
  gainStage_le (trimStage_le (filmStage_le he hs) (effectiveTrim_le c h)) hg

/-- The dwell driven at a line of `ticks` ticks (R106, R110). -/
theorem drivenDwell_eq (raw ticks : Nat) : drivenDwell raw (dMax ticks) =
    if raw = 0 then 0 else if raw ≤ 3 then 4 else if raw ≤ ticks - 40 then raw else ticks - 40 := by
  simp only [drivenDwell, dMax, Nat.lt_succ_iff (n := 3)]
  congr

/-- A dot is driven exactly when its raw dwell is not 0, and then within the line's limits (R110). -/
theorem drivenDwell_range {raw ticks : Nat} (ht : 400 ≤ ticks) : (drivenDwell raw (dMax ticks) = 0 ↔ raw = 0) ∧
    (drivenDwell raw (dMax ticks) ≠ 0 → 4 ≤ drivenDwell raw (dMax ticks) ∧ drivenDwell raw (dMax ticks) ≤ ticks - 40) := by
  rw [drivenDwell_eq]
  split_ifs <;> simp <;> omega

/-- Settles O59: the glyph table against the model's, the dots of the two texts by `titleDot_iff` and `indexDot_iff`, and the
stages by their ranges. -/
theorem dwellStages : Obligations.DwellStages := by
  refine ⟨?_, fun _ _ => rfl, fun _ _ => rfl, fun _ _ => rfl, fun _ _ => rfl, fun _ _ _ _ _ => rfl,
    fun et => by unfold gainStage; omega, by decide, ?_⟩
  · intro glyphs set dotAt chars decimal
    have hglyph : ∀ code, glyphs.lookup code = glyph code := by
      intro code
      unfold glyph
      split
      case h_49 =>
        simp only [List.lookup_eq_none_iff, glyphs, List.forall_mem_cons, bne_iff_ne, List.not_mem_nil, false_imp_iff,
          implies_true, and_true]
        and_intros <;> assumption
      all_goals rfl
    have hset : ∀ (code : Byte) (col row : Nat), set code.toNat col row ↔ cellDot code col row = true := by
      intro code col row
      simp only [set, hglyph]
      cases hg : glyph code.toNat with
      | some rows => exact (cellDot_of_glyph hg col row).symm
      | none => simp [cellDot_of_no_glyph hg]
    have hdot : ∀ m codes left top x y, dotAt m codes left top x y ↔ textDotAt m codes left top x y := by
      intro m codes left top x y
      simp only [dotAt, textDotAt, hset]
    have hdecimal : ∀ n v, decimal n v = digits n v := fun n v => (digits_eq n v).symm
    refine ⟨?_, ?_⟩
    · intro l sh x y m tag top left hm
      have htag : tag = tagLine (sh.index + 1) sh.planned sh.serial := by simp only [tag, hdecimal]; rfl
      have htop : top = titleTop l := by simp only [top, titleTop, Nat.mul_assoc, m]
      rw [titleDot_iff hm]
      simp only [titleText_getElem?, hdot, htag, htop, and_assoc, exists_and_left, exists_eq_left]
      rfl
    · intro map lines x y hl hkey perColumn word
      have htext : ∀ e : FrameEntry, chars ['R'] ++ decimal 2 e.row ++ chars ['C'] ++ decimal 2 e.col ++ chars [' '] ++
          e.key ++ chars [' '] ++ chars (word e) = indexText e := by
        intro e
        have hword : chars (word e) = indexStatus e := by
          obtain ⟨_, _, _, _, status, streak, aged, _⟩ := e
          cases status <;> cases streak <;> cases aged <;> rfl
        rw [hword, hdecimal, hdecimal]
        rfl
      simp only [hdot, htext]
      exact indexDot_iff hl hkey x y
  · intro e s c h g ticks he hs _ hc hh _ _ hg ht _ raw d
    have hfilm := filmStage_le he hs
    have htrim := effectiveTrim_le c h
    have hraw : raw ≤ 32688 := rawDwell_le c h he hs hg
    obtain ⟨hzero, hrange⟩ := drivenDwell_range (raw := raw) ht
    refine ⟨hfilm, fun hspeed => ?_, htrim, fun hdead => ?_, fun hlive => ?_, trimStage_le hfilm htrim, hraw, rfl,
      drivenDwell_eq raw ticks, hzero, hrange, ?_, fun hlong => ?_⟩
    · rw [hspeed]; unfold filmStage; omega
    · simp [hdead, effectiveTrim]
    · exact le_effectiveTrim (by omega) hh
    · exact decide_eq_true_iff
    · exact decide_eq_false (Nat.not_lt.2 (hraw.trans (Nat.le_sub_of_add_le hlong)))

end Sys2Proof.Machine
end

section
/-! PROOFS. The records the FM4 writes to shared memory (chapter "Records in Shared Memory"): the bytes of a field, the pieces
of a buffer that fit (R29, R32), the records byte for byte (R27, R28, R31, R32), and a job completion's writes (R47). -/

namespace Sys2Proof.Machine

/-! ## The bytes of a field -/

@[simp] theorem leBytes_length (n v : Nat) : (leBytes n v).length = n := by
  induction n generalizing v with
  | zero => rfl
  | succ n ih => simp [leBytes, ih]

/-- What a field of `n` bytes holds of a value written into it. -/
theorem leNat_leBytes (n v : Nat) : leNat (leBytes n v) = v % 256 ^ n := by
  induction n generalizing v with
  | zero => simp [leBytes, leNat, Nat.mod_one]
  | succ n ih => rw [leBytes, leNat, ih, Nat.pow_succ', Nat.mod_mul]; rfl

/-- The field at the start of a record. -/
@[simp] theorem field_leBytes_append (n v : Nat) (d : List Byte) : field (leBytes n v ++ d) 0 n = v % 256 ^ n := by
  simp [field, List.take_left', leNat_leBytes]

@[simp] theorem field_leBytes (n v : Nat) : field (leBytes n v) 0 n = v % 256 ^ n := by
  simpa using field_leBytes_append n v []

/-- A field behind the first one. -/
@[simp] theorem field_leBytes_append_of_le {k v off n : Nat} {d : List Byte} (h : k ≤ off) :
    field (leBytes k v ++ d) off n = field d (off - k) n := by
  simp [field, List.drop_append, List.drop_eq_nil_of_le, h]

@[simp] theorem drop_leBytes_append {k v off : Nat} {d : List Byte} (h : k ≤ off) :
    (leBytes k v ++ d).drop off = d.drop (off - k) := by
  simp [List.drop_append, List.drop_eq_nil_of_le, h]

/-! ## Codes and bits in their fields -/

@[simp] theorem stationNat_mod (i : StationId) : stationNat i % 256 = stationNat i := by cases i <;> rfl
@[simp] theorem TicketOutcome.code_mod (o : TicketOutcome) : o.code % 65536 = o.code := by cases o <;> rfl
@[simp] theorem bit_mod (b : Bool) (w : Nat) : bit b w % 256 = if b then w % 256 else 0 := by cases b <;> simp [bit]
@[simp] theorem word_toNat_mod (w : Word) : w.toNat % 4294967296 = w.toNat := Nat.mod_eq_of_lt w.isLt
theorem FrameStatus.code_mod (e : FrameStatus) :
    e.code % 256 = match e with | .ok => 1 | .voidRead => 2 | .voidStop => 3 := by cases e <;> rfl
theorem FrameEntry.flags_mod (e : FrameEntry) :
    e.flags % 256 = (if e.streak then 1 else 0) + (if e.aged then 2 else 0) + (if e.held then 4 else 0) := by
  unfold FrameEntry.flags; cases e.streak <;> cases e.aged <;> cases e.held <;> rfl

/-! ## The result buffer's records (R27, R28) -/

theorem sheetBytes_spec (n : Nat) (e : SheetEntry) : let d := sheetBytes n e
    d.length = 16 ∧ field d 0 4 = e.serial.toNat ∧ field d 4 1 = n % 256 ∧ field d 5 1 = stationNat e.station ∧
    (∀ c, e.ended = some c → field d 6 1 = match c with | .closed => 1 | .lost => 2) ∧ field d 7 1 = min 255 e.planned ∧
    field d 8 2 = e.offset % 65536 ∧ field d 10 2 = e.dead % 65536 ∧ field d 12 2 = e.used % 65536 ∧ field d 14 2 = 0 := by
  have hcode : ∀ c, e.ended = some c → sheetEndCode e.ended % 256 = match c with | .closed => 1 | .lost => 2 := by
    rintro c hc; rw [hc]; cases c <;> rfl
  simpa [sheetBytes] using hcode

theorem frameBytes_spec (n : Nat) (e : FrameEntry) (hkey : e.key.length = 16) : let d := frameBytes n e
    d.length = 32 ∧ field d 0 1 = n % 256 ∧ field d 1 1 = e.row % 256 ∧ field d 2 1 = e.col % 256 ∧
    field d 3 1 = (match e.status with | .ok => 1 | .voidRead => 2 | .voidStop => 3) ∧
    field d 4 2 = (match e.page with | some p => p % 65536 | none => 0xFFFF) ∧
    field d 6 1 = (if e.streak then 1 else 0) + (if e.aged then 2 else 0) + (if e.held then 4 else 0) ∧ field d 7 1 = 0 ∧
    field d 8 4 = e.saturated % 2 ^ 32 ∧ field d 12 2 = e.holds % 65536 ∧ field d 14 2 = 0 ∧ d.drop 16 = e.key := by
  have hpage : e.page.getD 65535 % 65536 = match e.page with | some p => p % 65536 | none => 0xFFFF := by
    cases e.page <;> rfl
  simp [frameBytes, hkey, FrameStatus.code_mod, FrameEntry.flags_mod, hpage]

theorem calBytes_spec (c : CalSnapshot) : let d := calBytes c
    d.length = 16 ∧ field d 0 2 = c.h % 65536 ∧ field d 2 2 = c.dead % 65536 ∧ field d 4 2 = c.weak % 65536 ∧
    field d 6 2 = c.sinceFull % 65536 ∧ field d 8 2 = c.sinceQuick % 65536 ∧ field d 10 1 = stationNat c.station ∧
    field d 11 1 = (if c.valid then 1 else 0) ∧ field d 12 4 = 0 := by
  simp [calBytes]

/-- How many entries the selected sections hold (R28). -/
theorem Job.sections_length (j : Job) :
    j.sectionSheets.length = (if j.mask.testBit 0 then j.sheets.length else 0) ∧
    j.sectionFrames.length = (if j.mask.testBit 1 then (j.kept.map (·.2.length)).sum else 0) ∧
    j.sectionCal.length = (if j.mask.testBit 2 ∧ j.snapshot ≠ none then 1 else 0) := by
  refine ⟨?_, ?_, ?_⟩
  · unfold Job.sectionSheets Job.wantsSheets; split <;> simp
  · unfold Job.sectionFrames Job.wantsFrameMap; split <;> simp [List.length_flatMap]
  · unfold Job.sectionCal Job.wantsCal
    cases j.mask.testBit 2 <;> cases j.snapshot <;> simp

theorem Job.fixedBytes_spec (j : Job) (o : TicketOutcome) (n : Nat) : let d := j.fixedBytes o n
    let sheets := if j.mask.testBit 0 then j.sheets.length else 0
    let frames := if j.mask.testBit 1 then (j.kept.map (·.2.length)).sum else 0
    let cal := if j.mask.testBit 2 ∧ j.snapshot ≠ none then 1 else 0
    let serial (e : Option SheetEntry) : Nat := match e with | some e => e.serial.toNat | none => 0
    d.length = 64 ∧ field d 0x00 2 = o.code ∧ field d 0x02 2 = 0 ∧ field d 0x04 4 = j.pageCount % 2 ^ 32 ∧
    field d 0x08 4 = j.counts.exposed % 2 ^ 32 ∧ field d 0x0C 4 = j.counts.failedRead % 2 ^ 32 ∧
    field d 0x10 4 = j.counts.rejected % 2 ^ 32 ∧ field d 0x14 4 = j.counts.notExposed % 2 ^ 32 ∧
    field d 0x18 4 = j.counts.lost % 2 ^ 32 ∧
    field d 0x1C 1 = (j.sheets.filter (fun e => e.ended == some .closed)).length % 256 ∧
    field d 0x1D 1 = (j.sheets.filter (fun e => e.ended == some .lost)).length % 256 ∧
    field d 0x1E 2 = (if j.clamped then 1 else 0) + (if n < sheets + frames + cal then 2 else 0) ∧
    field d 0x20 4 = serial j.sheets.head? ∧ field d 0x24 4 = serial j.sheets.getLast? ∧
    field d 0x28 4 = j.totalHolds % 2 ^ 32 ∧ field d 0x2C 4 = j.totalSaturated % 2 ^ 32 ∧
    field d 0x30 2 = min n sheets % 65536 ∧ field d 0x32 2 = min (n - sheets) frames % 65536 ∧
    field d 0x34 1 = (n - sheets - frames) % 256 ∧
    field d 0x35 1 = (match j.lastStation with | some i => stationNat i | none => 0xFF) ∧
    field d 0x36 2 = j.framesInJob % 65536 ∧ d.drop 0x38 = [0, 0, 0, 0, 0, 0, 0, 0] := by
  obtain ⟨hsheets, hframes, hcal⟩ := j.sections_length
  have hserial : ∀ e : Option SheetEntry, (e.map (fun e => e.serial.toNat)).getD 0 % 4294967296 =
      match e with | some e => e.serial.toNat | none => 0 := by
    rintro (_ | e)
    · rfl
    · exact word_toNat_mod e.serial
  have hflags : ∀ (b : Bool) (p : Prop) [Decidable p], (bit b 1 + bit (decide p) 2) % 65536 =
      (if b then 1 else 0) + (if p then 2 else 0) := by
    intro b p _
    cases b <;> by_cases h : p <;> simp [bit, h]
  have hstation : (j.lastStation.map stationNat).getD 0xFF % 256 =
      match j.lastStation with | some i => stationNat i | none => 0xFF := by
    cases j.lastStation <;> simp
  have hzeros : leBytes 8 0 = [0, 0, 0, 0, 0, 0, 0, 0] := rfl
  unfold Job.fixedBytes
  simp only [Job.sections, List.length_append, hsheets, hframes, hcal]
  simp [hserial, hflags, hstation, hzeros, Job.sheetsClosed, Job.sheetsLost]
/-! ## The pieces that fit (R29, R32) -/

/-- The pieces that fit are the first ones, one behind another from `start` on, up to the first that would end past `size`. -/
theorem fitting_spec {size : Nat} : ∀ {start : Nat} (pieces : List (List Byte)), start ≤ size →
    ∃ n, n ≤ pieces.length ∧ start + ((pieces.take n).map (·.length)).sum ≤ size ∧
      (n < pieces.length → size < start + ((pieces.take (n + 1)).map (·.length)).sum) ∧
      (fitting size start pieces).map (·.2) = pieces.take n ∧
      fitting size start pieces =
        (List.range n).map (fun k => (start + ((pieces.take k).map (·.length)).sum, pieces.getD k []))
  | start, [], h => ⟨0, by simp [fitting, h]⟩
  | start, d :: rest, h => by
    by_cases hd : start + d.length ≤ size
    · obtain ⟨n, hn, hend, hnext, hpieces, heq⟩ := fitting_spec rest hd
      refine ⟨n + 1, by simpa using hn, ?_, fun hlt => ?_, ?_, ?_⟩
      · simpa [Nat.add_assoc] using hend
      · simpa [Nat.add_assoc] using hnext (by simpa using hlt)
      · simp [fitting, hd, hpieces]
      · rw [fitting, if_pos hd, heq, List.range_succ_eq_map]
        simp [Nat.add_assoc, Function.comp_def]
    · exact ⟨0, by simp [fitting, hd, h]; omega⟩

/-- Pieces of `w` bytes each, others behind them: either all of them fit, or as many as have room. -/
theorem fitting_sum_append {size w : Nat} (hw : 0 < w) (behind : List (List Byte)) : ∀ {start : Nat} (pieces : List (List Byte)),
    (∀ d ∈ pieces, d.length = w) → start ≤ size →
    ((fitting size start (pieces ++ behind)).map (·.2.length)).sum =
      if start + w * pieces.length ≤ size then
        w * pieces.length + ((fitting size (start + w * pieces.length) behind).map (·.2.length)).sum
      else (size - start) / w * w
  | start, [], _, h => by simp [h]
  | start, d :: rest, hl, h => by
    obtain ⟨hd, hrest⟩ := List.forall_mem_cons.1 hl
    have hlen : start + w * (d :: rest).length = start + w + w * rest.length := by
      rw [List.length_cons, Nat.mul_succ]; omega
    by_cases hfit : start + w ≤ size
    · have ih := fitting_sum_append hw behind rest hrest hfit
      rw [List.cons_append, fitting, hd, if_pos hfit, List.map_cons, List.sum_cons, ih, hlen, hd]
      split
      · rw [List.length_cons, Nat.mul_succ]; omega
      · obtain ⟨r, rfl⟩ := Nat.exists_eq_add_of_le hfit
        rw [show start + w + r - start = r + w by omega, Nat.add_div_right _ hw, Nat.succ_mul,
          show start + w + r - (start + w) = r by omega, Nat.add_comm]
    · rw [List.cons_append, fitting, hd, if_neg hfit, if_neg (by omega), Nat.div_eq_of_lt (by omega)]
      simp

/-- The writes of the result buffer (R29). -/
theorem Job.bufferWrites_spec (j : Job) (o : TicketOutcome) (h : 64 ≤ j.bufSize) :
    let size (n : Nat) := 64 + ((j.sections.take n).map (·.length)).sum
    ∃ n, n ≤ j.sections.length ∧ size n ≤ j.bufSize ∧ (n < j.sections.length → j.bufSize < size (n + 1)) ∧
      j.bufferWrites o = ((List.range n).map (fun k =>
          { kind := .buffer, addr := addrPlus j.bufAddr (size k), data := j.sections.getD k [] }) ++
        [{ kind := .buffer, addr := j.bufAddr, data := j.fixedBytes o n }], size n) := by
  intro size
  obtain ⟨n, hn, hend, hnext, hpieces, hfit⟩ := fitting_spec j.sections h
  have hcount : (fitting j.bufSize 64 j.sections).length = n := by simp [hfit]
  have hsum : ((fitting j.bufSize 64 j.sections).map (fun p => p.2.length)).sum = ((j.sections.take n).map (·.length)).sum := by
    rw [← hpieces, List.map_map]; rfl
  refine ⟨n, hn, hend, hnext, ?_⟩
  rw [Job.bufferWrites, if_neg (by omega)]
  simp only [hcount, hsum]
  rw [hfit, List.map_map]
  rfl

/-! ## A job completion's writes (R26, R47, R49) -/

/-- The address of a page's release field. -/
theorem addrPlus_addrPlus (a : Addr) (m n : Nat) : addrPlus (addrPlus a m) n = addrPlus a (m + n) := by
  simp [addrPlus, BitVec.add_assoc, BitVec.ofNat_add]

theorem releaseWrite_addr (ticket : Addr) (page : Nat) (r : Release) (place : Option (Nat × Nat × Nat × Word)) :
    releaseWrite ticket page r place =
      { kind := .release, addr := addrPlus ticket (0xD0 + 48 * page + 0x20), data := releaseBytes r place } := by
  rw [releaseWrite, pageEntryAddress, addrPlus_addrPlus]

/-- A page placed on a lost sheet: LOST, FAILED_READ or NOT_EXPOSED by its frame's status. -/
theorem releaseBytes_lost (e : FrameStatus) (sheet row col : Nat) (serial : Word) :
    releaseBytes e.lostRelease (some (sheet, row, col, serial)) =
      leBytes 4 (match e with | .ok => 4 | .voidRead => 2 | .voidStop => 3) ++ leBytes 1 sheet ++ leBytes 1 row ++
        leBytes 1 col ++ [0] ++ leBytes 4 serial.toNat := by
  cases e <;> simp [releaseBytes, FrameStatus.lostRelease, Release.code]

theorem releaseBytes_notExposed : releaseBytes .notExposed none = [3, 0, 0, 0, 0xFF, 0xFF, 0xFF, 0, 0, 0, 0, 0] := rfl

/-- Settles O31: the writes by the definitions of their parts, the buffer by the pieces that fit, the bytes by their
records. -/
theorem completionWritesEveryRelease : Obligations.CompletionWritesEveryRelease := by
  refine ⟨?_, fun j o => ⟨fun h => ?_, fun h => ?_⟩, Job.fixedBytes_spec, sheetBytes_spec, frameBytes_spec, calBytes_spec⟩
  · intro j outcome release word lost unreached
    have hlost : j.lostWrites = lost := by
      unfold Job.lostWrites entryWrites
      simp only [lost, releaseWrite_addr, releaseBytes_lost]
      rfl
    have hunreached : j.unreachedWrites = unreached := by
      simp only [Job.unreachedWrites, releaseWrite_addr, releaseBytes_notExposed]
      rfl
    unfold Job.completionWrites
    rw [hlost, hunreached]
    rfl
  · simp [Job.bufferWrites, h]
  · exact j.bufferWrites_spec o h

/-! ## The emitter report and the station status record (R31, R32) -/

/-- The header's sixteen bytes. -/
theorem State.emitterReport_header (s : State) (i : StationId) : let c := s.cal i
    ∃ d, s.emitterReport i = d :: (c.trims.map (leBytes 2) ++ c.statuses.map (fun e => leBytes 1 e.code)) ∧
      d.length = 16 ∧ field d 0x0 1 = stationNat i ∧ field d 0x1 1 = (if c.valid then 1 else 0) ∧
      field d 0x2 2 = c.h % 65536 ∧ field d 0x4 2 = c.dead % 65536 ∧ field d 0x6 2 = c.weak % 65536 ∧
      field d 0x8 2 = c.sinceFull % 65536 ∧ field d 0xA 2 = c.sinceQuick % 65536 ∧ field d 0xC 4 = 0 :=
  ⟨_, rfl, by simp⟩

/-- The bytes of the report that a buffer receives: the header, then whole trims, then statuses. -/
theorem State.emitterReport_sum (s : State) (i : StationId) (size : Nat) (ht : (s.cal i).trims.length = 2048)
    (hs : (s.cal i).statuses.length = 2048) : ((fitting size 0 (s.emitterReport i)).map (·.2.length)).sum =
      if size < 16 then 0 else if size < 4112 then size - size % 2 else min size 6160 := by
  obtain ⟨d, hreport, hd, -⟩ := s.emitterReport_header i
  rw [hreport, fitting, hd]
  by_cases h16 : size < 16
  · rw [if_neg (by omega), if_pos h16]; rfl
  · have htrims := fitting_sum_append (size := size) (start := 16) (by decide : 0 < 2)
      ((s.cal i).statuses.map (fun e => leBytes 1 e.code)) ((s.cal i).trims.map (leBytes 2)) (by simp) (by omega)
    rw [if_pos (by omega), if_neg h16, List.map_cons, List.sum_cons, htrims, List.length_map, ht, hd]
    by_cases h4112 : size < 4112
    · rw [if_neg (by omega), if_pos h4112]; omega
    · have hstatuses := fitting_sum_append (size := size) (start := 16 + 2 * 2048) (by decide : 0 < 1) []
        ((s.cal i).statuses.map (fun e => leBytes 1 e.code)) (by simp) (by omega)
      rw [List.append_nil, List.length_map, hs] at hstatuses
      rw [if_pos (by omega), if_neg h4112, hstatuses]
      split
      · simp [fitting]; omega
      · omega

theorem State.marksByte_mod (s : State) (i : StationId) : let c := s.cal i
    s.marksByte i % 256 = (if c.valid then 0x10 else 0x01) + (if c.quickRequired then 0x02 else 0) +
      (if c.fullDue then 0x04 else 0) + (if c.quickDue then 0x08 else 0) + (if i ∈ s.permitHolders then 0x20 else 0) +
      (if i ∈ s.photometerQueue then 0x40 else 0) + (if i ∈ s.permitQueue then 0x80 else 0) := by
  intro c
  have hbit : ∀ (b : Bool) (w : Nat), bit b w = if b then w else 0 := fun _ _ => rfl
  have hle : ∀ (b : Bool) (w : Nat), bit b w ≤ w := by intro b w; cases b <;> simp [bit]
  have hvalid : bit (!c.valid) 0x01 + bit c.valid 0x10 = if c.valid then 0x10 else 0x01 := by cases c.valid <;> rfl
  have hsum : s.marksByte i = (if c.valid then 0x10 else 0x01) + bit c.quickRequired 0x02 + bit c.fullDue 0x04 +
      bit c.quickDue 0x08 + bit (s.permitHolders.contains i) 0x20 + bit (s.photometerQueue.contains i) 0x40 +
      bit (s.permitQueue.contains i) 0x80 := by
    rw [← hvalid]; simp only [State.marksByte]; ac_rfl
  have hlt : s.marksByte i < 256 := by
    have := hle c.quickRequired 0x02; have := hle c.fullDue 0x04; have := hle c.quickDue 0x08
    have := hle (s.permitHolders.contains i) 0x20; have := hle (s.photometerQueue.contains i) 0x40
    have := hle (s.permitQueue.contains i) 0x80
    split at hsum <;> omega
  rw [Nat.mod_eq_of_lt hlt, hsum]
  simp only [hbit, List.contains_iff_mem]

theorem StationState.code_mod (x : StationState) : x.code % 256 = match x with
    | .parked => 0 | .waking => 1 | .ready => 2 | .dozing => 3 | .calibrating => 4 | .loading => 5 | .sheetOpen => 6
    | .exposing => 7 | .closing => 8 | .faulted => 9 := by cases x <;> rfl

theorem FaultCause.code_mod (x : FaultCause) : x.code % 256 = match x with
    | .none => 0 | .load => 1 | .jam => 2 | .head => 3 | .headWorn => 4 | .abandoned => 5 := by cases x <;> rfl

theorem State.stationRecord_spec (s : State) (i : StationId) : let d := s.stationRecord i
    let x := s.st i
    let c := s.cal i
    d.length = 32 ∧ field d 0x00 1 = stationNat i ∧
    field d 0x01 1 = (match x.state with
      | .parked => 0 | .waking => 1 | .ready => 2 | .dozing => 3 | .calibrating => 4 | .loading => 5 | .sheetOpen => 6
      | .exposing => 7 | .closing => 8 | .faulted => 9) ∧
    field d 0x02 1 = (match x.cause with
      | .none => 0 | .load => 1 | .jam => 2 | .head => 3 | .headWorn => 4 | .abandoned => 5) ∧
    field d 0x03 1 = (if c.valid then 0x10 else 0x01) + (if c.quickRequired then 0x02 else 0) +
      (if c.fullDue then 0x04 else 0) + (if c.quickDue then 0x08 else 0) + (if i ∈ s.permitHolders then 0x20 else 0) +
      (if i ∈ s.photometerQueue then 0x40 else 0) + (if i ∈ s.permitQueue then 0x80 else 0) ∧
    field d 0x04 2 = x.stock % 65536 ∧ field d 0x06 2 = x.speed % 65536 ∧ field d 0x08 2 = x.supply % 65536 ∧
    field d 0x0A 2 = c.h % 65536 ∧ field d 0x0C 2 = c.sinceFull % 65536 ∧ field d 0x0E 2 = c.sinceQuick % 65536 ∧
    field d 0x10 1 = (match s.attached i with | some j => j.slot % 256 | none => 0xFF) ∧
    field d 0x11 1 = (match (s.attached i).map (·.state) with
      | some .attached => 2 | some .supplyWait => 3 | some .sheetActive => 4 | _ => 0) ∧
    field d 0x12 1 = (match s.attached i with | some j => j.sheets.length % 256 | none => 0) ∧
    field d 0x13 1 = (if x.sheet = none then 0 else 1) ∧
    field d 0x14 2 = (match x.sheet with | some sh => sh.map.length % 65536 | none => 0) ∧
    field d 0x16 2 = c.dead % 65536 ∧ field d 0x18 4 = (match x.sheet with | some sh => sh.serial.toNat | none => 0) ∧
    field d 0x1C 2 = c.weak % 65536 ∧ field d 0x1E 2 = 0 := by
  have hcode : (((s.attached i).map (·.state.code)).getD 0) % 256 = match (s.attached i).map (·.state) with
      | some .attached => 2 | some .supplyWait => 3 | some .sheetActive => 4 | _ => 0 := by
    cases s.attached i with
    | none => rfl
    | some j => cases h : j.state <;> simp [h, JobState.code]
  unfold State.stationRecord
  simp [StationState.code_mod, FaultCause.code_mod, State.marksByte_mod, hcode]
  cases s.attached i <;> cases (s.st i).sheet <;> simp

/-- Settles O27: the report's size by the pieces that fit, the bytes by the two records. -/
theorem emitterReportCounts : Obligations.EmitterReportCounts := by
  refine ⟨State.emitterReport_sum, fun s i => ?_, State.stationRecord_spec⟩
  obtain ⟨d, hreport, hbytes⟩ := s.emitterReport_header i
  have hstatus : ∀ e : EmitterStatus, leBytes 1 e.code =
      [BitVec.ofNat 8 (match e with | .ok => 0 | .weak => 1 | .dead => 2)] := by rintro (_ | _ | _) <;> rfl
  exact ⟨d, by rw [hreport]; simp only [hstatus]; rfl, hbytes⟩
end Sys2Proof.Machine
end

section
/-! PROOFS. The composition of a band (R93 to R98): the source pixel of a dot lies inside the image, its row is on the band's
fetch list, and each dot takes the pixel of its own source row and of no other. -/

namespace Sys2Proof.Machine

/-! ## Fetch lists (R95 to R97) -/

theorem mem_squeeze {x : Nat} : ∀ {l : List Nat}, x ∈ squeeze l ↔ x ∈ l
  | [] => Iff.rfl
  | [_] => Iff.rfl
  | a :: b :: l => by
    have ih := mem_squeeze (x := x) (l := b :: l)
    unfold squeeze
    split
    · next h => rw [ih]; simp [h]
    · rw [List.mem_cons, ih, List.mem_cons (a := x) (b := a)]

theorem mem_bandLines {lines b j : Nat} : j ∈ bandLines lines b ↔ 64 * b ≤ j ∧ j ≤ 64 * b + 63 ∧ j < lines := by
  simp only [bandLines, List.mem_filterMap, List.mem_range, Option.ite_none_right_eq_some, Option.some.injEq]
  unfold Config.bandLines
  constructor
  · rintro ⟨k, hk, hlt, rfl⟩; omega
  · rintro ⟨hlo, hhi, hlt⟩; exact ⟨j - 64 * b, by omega, by omega, by omega⟩

/-- The source row of a dot in the used area is on the fetch list of the dot's band. -/
theorem Mapping.source_mem_fetchList {m : Mapping} {b i j : Nat} (hu : m.used i j = true) (hj : j ∈ bandLines m.lines b) :
    (m.source i j).2 ∈ m.fetchList b := by
  simp only [Mapping.used, Bool.and_eq_true, decide_eq_true_eq] at hu
  obtain ⟨⟨⟨hleft, hright⟩, htop⟩, hbottom⟩ := hu
  have hline : j ∈ m.usedLines b := by simp [Mapping.usedLines, hj, htop, hbottom]
  unfold Mapping.fetchList Mapping.source
  split
  · rw [if_neg (by simpa using List.ne_nil_of_mem hline), List.mem_reverse, mem_squeeze]
    exact List.mem_map.2 ⟨i - m.left, List.mem_range.2 (by omega), rfl⟩
  · rw [if_neg (by omega), mem_squeeze]
    exact List.mem_map.2 ⟨j, hline, rfl⟩

/-! ## The source pixel (R90, R93, R94) -/

/-- A sample below the used extent of an axis falls inside the image. -/
theorem Mapping.sample_lt {m : Mapping} {k n : Nat} (hs : 0 < m.step) (hk : k < n * 65536 / m.step) : m.sample k < n := by
  have hmul : (k + 1) * m.step ≤ n * 65536 := (Nat.le_div_iff_mul_le hs).1 hk
  rw [Nat.add_mul] at hmul
  exact Nat.div_lt_of_lt_mul (by omega)

/-- The source pixel of a dot in the used area lies inside the image. -/
theorem makeMapping_source_lt {page ew lines margin i j : Nat} {e : PageEntry}
    (hu : (makeMapping page e ew lines margin).used i j = true) :
    ((makeMapping page e ew lines margin).source i j).1 < e.width ∧
      ((makeMapping page e ew lines margin).source i j).2 < e.height := by
  have hstep : 0 < (makeMapping page e ew lines margin).step :=
    Nat.lt_of_lt_of_le (by decide) (Nat.le_max_left 16384 _)
  simp only [Mapping.used, Bool.and_eq_true, decide_eq_true_eq] at hu
  obtain ⟨⟨⟨hleft, hright⟩, htop⟩, hbottom⟩ := hu
  have hx := Mapping.sample_lt hstep (show i - (makeMapping page e ew lines margin).left < _ / _ by
    exact Nat.sub_lt_left_of_lt_add hleft hright)
  have hy := Mapping.sample_lt hstep (show j - (makeMapping page e ew lines margin).top < _ / _ by
    exact Nat.sub_lt_left_of_lt_add htop hbottom)
  by_cases hrot : e.rotation = 90
  · simp only [hrot, beq_self_eq_true, if_true] at hx hy
    have hr : (makeMapping page e ew lines margin).rot90 = true := by simp [makeMapping, hrot]
    have hh : (makeMapping page e ew lines margin).sh = e.height := rfl
    simp only [Mapping.source, hr, if_true, hh]
    omega
  · have hbeq : (e.rotation == 90) = false := by simpa using hrot
    simp only [hbeq, Bool.false_eq_true, if_false] at hx hy
    have hr : (makeMapping page e ew lines margin).rot90 = false := hbeq
    simp only [Mapping.source, hr, Bool.false_eq_true, if_false]
    exact ⟨hx, hy⟩

/-- The value of a pixel: for MONO1 its bit, for GRAY8 its byte (R25). -/
theorem pixel_eq (mono : Bool) (row : List Byte) (x : Nat) : pixel mono row x =
    if mono then (if (row.getD (x / 8) 0).toNat / 2 ^ (7 - x % 8) % 2 = 1 then 255 else 0) else (row.getD x 0).toNat := by
  have hbit : (row.getD (x / 8) 0).getLsbD (7 - x % 8) = decide ((row.getD (x / 8) 0).toNat / 2 ^ (7 - x % 8) % 2 = 1) := by
    rw [BitVec.getLsbD, Nat.testBit_eq_decide_div_mod_eq]
  cases mono
  · rfl
  · simp only [pixel, hbit, decide_eq_true_eq]

/-! ## The dots of a band (R98) -/

/-- The dot in column `i` of a band's line `k`. -/
def dotOf (dots : List (List Nat)) (k i : Nat) : Option Nat := dots[k]?.bind (·[i]?)

/-- A row written changes the dots that sample it, and no others. -/
theorem Mapping.dotOf_writeRow (m : Mapping) (b y : Nat) (row : List Byte) (dots : List (List Nat)) (k i : Nat) :
    dotOf (m.writeRow b y row dots) k i = (dotOf dots k i).map (fun p =>
      if m.used i (64 * b + k) && (m.source i (64 * b + k)).2 == y then pixel m.mono row (m.source i (64 * b + k)).1
      else p) := by
  simp only [dotOf, Mapping.writeRow, List.getElem?_mapIdx, Config.bandLines]
  cases dots[k]? <;> simp [List.getElem?_mapIdx]

/-- The rows of a list written one after another: a dot that samples one of them holds its pixel, any other what it held. -/
theorem Mapping.dotOf_writeRows (m : Mapping) (b : Nat) (rowData : Nat → List Byte) (k i : Nat) :
    ∀ (rows : List Nat) (dots : List (List Nat)),
    dotOf (rows.foldl (fun d y => m.writeRow b y (rowData y) d) dots) k i = (dotOf dots k i).map (fun p =>
      if m.used i (64 * b + k) = true ∧ (m.source i (64 * b + k)).2 ∈ rows then
        pixel m.mono (rowData (m.source i (64 * b + k)).2) (m.source i (64 * b + k)).1
      else p)
  | [], dots => by simp
  | y :: rows, dots => by
    rw [List.foldl_cons, Mapping.dotOf_writeRows, Mapping.dotOf_writeRow, Option.map_map]
    congr 1
    funext p
    by_cases hu : m.used i (64 * b + k) = true
    · by_cases hy : (m.source i (64 * b + k)).2 = y
      · simp [hu, hy]
      · simp [hu, hy]
    · simp [hu]

/-- A band begun holds the margin at each of its dots. -/
theorem Mapping.dotOf_beginBand {m : Mapping} {b k i : Nat} (hk : k < 64) (hline : 64 * b + k < m.lines) (hi : i < m.ew) :
    dotOf (m.beginBand b).dots k i = some m.margin := by
  rw [Mapping.beginBand_eq, dotOf, List.getElem?_replicate, if_pos (by omega), Option.bind_some, List.getElem?_replicate,
    if_pos hi]

/-- Settles O57: the fetch list holds the source row of every dot in the used area, so the dot holds its pixel; a dot outside
it is never written. -/
theorem bandsAreComposed : Obligations.BandsAreComposed := by
  intro page e ew lines margin b rowData hgood _ _ _ _ m dots sample value i j hi hlo hhi hlines x y inside
  have hline : 64 * b + (j - 64 * b) = j := by omega
  have hdot : (dots[j - 64 * b]?.bind (·[i]?)) = some (if m.used i j = true ∧ (m.source i j).2 ∈ m.fetchList b then
      pixel m.mono (rowData (m.source i j).2) (m.source i j).1 else margin) := by
    have h := m.dotOf_writeRows b rowData (j - 64 * b) i (m.fetchList b) (m.beginBand b).dots
    rw [Mapping.dotOf_beginBand (by omega) (by rw [hline]; exact hlines) hi, hline] at h
    exact h
  have hused : m.used i j = true ↔ inside := by simp [Mapping.used, inside, and_assoc]
  have hsource : m.source i j = (x, y) := by
    by_cases hrot : e.rotation = 90 <;> simp [Mapping.source, m, makeMapping, x, y, sample, hrot, Mapping.sample]
  have hvalue : ∀ row x, pixel m.mono row x = value row x := by
    intro row x
    simp only [pixel_eq, value, m, makeMapping, beq_iff_eq]
  rw [hdot]
  refine ⟨fun hin => ?_, fun hout => ?_⟩
  · have hu := hused.2 hin
    obtain ⟨hx, hy⟩ := makeMapping_source_lt hu
    rw [if_pos ⟨hu, Mapping.source_mem_fetchList hu (mem_bandLines.2 ⟨hlo, hhi, hlines⟩)⟩, hsource, hvalue]
    rw [hsource] at hx hy
    exact ⟨hx, hy, rfl⟩
  · rw [if_neg (fun h => hout (hused.1 h.1))]

end Sys2Proof.Machine
end

section
/-! PROOFS. The reads of a ticket and the writes of a service's output (R20, R31, R32, R42): a completion whose request is in
service, the head of a ticket, and the pieces of a report written one after another. -/

namespace Sys2Proof.Machine

/-! ## Completions in service -/

/-- A completion whose request is in service, and whose channel does not look at the request: it ends, and the channel acts. -/
theorem State.completed_acts {s : State} {p : Purpose} {n : Nat} {answers : Request → Bool} {act : State → State}
    (h : s.serves p n) (ha : ∀ r : Request, r.purpose = p → r.len = n → answers r = true) :
    s.completed answers (fun _ => act) = (act s.endRequest).done := by
  obtain ⟨r, _, _, _, he⟩ := State.completed_of_serves (act := fun _ => act) h ha
  exact he

theorem exec_ticketHeadReadDone_of_serves {s : State} {n : Nat} {data : List Byte} (h : s.serves .ticketHead n)
    (hd : data.length = n) : exec (.ticketHeadReadDone data) s = (s.endRequest.takeTicketHead data).done :=
  State.completed_acts (act := fun s => s.takeTicketHead data) h (fun r hp hn => by simp [answersRead, hp, hn, hd])

theorem exec_outputWriteDone_of_serves {s : State} {n : Nat} (h : s.serves .output n) :
    exec .outputWriteDone s = s.endRequest.nextOutput.done :=
  State.completed_acts (act := State.nextOutput) h (fun r hp _ => by simp [hp])

/-- The end of the event that ends the request in service and makes a read. -/
theorem State.done_requestRead {s u : State} (p : Purpose) (a : Addr) (n : Nat) (hs : s.port.arriving = [])
    (hc : u.ctrl = s.ctrl) (hu : u.port = s.endRequest.port) :
    (u.requestRead p a n).done = .next { u with port := s.portAfter [readRequest p a n] } :=
  State.done_withRequests (l := [readRequest p a n]) hs hc hu (Nat.le_refl 1)

/-- The end of the event that ends the request in service and makes a write. -/
theorem State.done_requestWrite {s u : State} (p : Purpose) (a : Addr) (d : List Byte) (hs : s.port.arriving = [])
    (hc : u.ctrl = s.ctrl) (hu : u.port = s.endRequest.port) :
    (u.requestWrite p a d).done = .next { u with port := s.portAfter [writeRequest p a d] } :=
  State.done_withRequests (l := [writeRequest p a d]) hs hc hu (Nat.le_refl 1)

/-- The end of an event that ends no request and makes one. -/
theorem State.done_request_one {s u : State} {r : Request} (hs : s.port.arriving = []) (hc : u.ctrl = s.ctrl)
    (hu : u.port = { s.port with arriving := s.port.arriving ++ [r] }) : u.done = .next { u with port := s.portWith [r] } := by
  rw [State.done, State.join_of_one (r := r) (by rw [hu]; simp [hs]), hc, hu]
  rfl

/-! ## The head of a ticket (R20, R40, R42) -/

/-- The service kinds. -/
theorem serviceKindOf_isSome_iff {k : Nat} : (serviceKindOf k).isSome = true ↔ 0x10 ≤ k ∧ k ≤ 0x1A := by
  constructor
  · unfold serviceKindOf
    split <;> simp
  · rintro ⟨hlo, hhi⟩
    interval_cases k <;> rfl

/-- A head of a known kind, a fiche's with a place in the intake list: the ticket's rest is read. -/
theorem State.takeTicketHead_reads {s : State} {p : Pass} {c : Candidate} {data : List Byte} (hp : s.pass = some p)
    (hcur : p.current = some c)
    (hk : ticketKind data = 1 ∧ p.place = true ∨ ticketKind data ≠ 1 ∧ (serviceKindOf (ticketKind data)).isSome = true) :
    s.takeTicketHead data = ({ s with pass := some { p with phase := .ticketRest data } } : State).requestRead .ticketRest
      (addrPlus c.ticket 16) (if ticketKind data = 1 then 192 else 16) := by
  unfold State.takeTicketHead
  rcases hk with ⟨hk, hplace⟩ | ⟨hk, hsome⟩
  · simp [hp, hcur, hk, hplace, ficheKind, State.updPass]
  · have hnone : serviceKindOf (ticketKind data) ≠ none := Option.isSome_iff_ne_none.1 hsome
    simp [hp, hcur, hk, hnone, ficheKind, State.updPass]

/-- A head of an unknown kind, or a fiche's without a place: the ticket is refused (R40, R42). -/
theorem State.takeTicketHead_refuses {s : State} {p : Pass} {c : Candidate} {data : List Byte} (hp : s.pass = some p)
    (hcur : p.current = some c)
    (hk : ticketKind data = 1 ∧ p.place = false ∨ ticketKind data ≠ 1 ∧ serviceKindOf (ticketKind data) = none) :
    s.takeTicketHead data = s.endTicket .refusedTicket .kind 0 := by
  unfold State.takeTicketHead
  rcases hk with ⟨hk, hplace⟩ | ⟨hk, hnone⟩
  · simp [hp, hcur, hk, hplace, ficheKind]
  · simp [hp, hcur, hk, hnone, ficheKind]

/-- Settles O18: the head's two outcomes by its kind code, the refusal by the end of a ticket. -/
theorem ticketHeadDecides : Obligations.TicketHeadDecides := by
  intro s p c data hserves hd hp hcur hcalm
  have hreads : ∀ n, (ticketKind data = 1 ∧ p.place = true ∨
      ticketKind data ≠ 1 ∧ (serviceKindOf (ticketKind data)).isSome = true) → (if ticketKind data = 1 then 192 else 16) = n →
      exec (.ticketHeadReadDone data) s = .next { s with
        port := s.portAfter [readRequest .ticketRest (addrPlus c.ticket 16) n],
        pass := some { p with phase := .ticketRest data } } := by
    rintro n hk rfl
    rw [exec_ticketHeadReadDone_of_serves hserves hd, State.takeTicketHead_reads (s := s.endRequest) hp hcur hk]
    exact State.done_requestRead _ _ _ hserves.1 rfl rfl
  rw [exec_ticketHeadReadDone_of_serves hserves hd] at hreads ⊢
  refine ⟨fun hk hplace => hreads 192 (.inl ⟨hk, hplace⟩) (if_pos hk), fun hlo hhi => hreads 16 (.inr ?_) (if_neg ?_),
    fun hk => ?_⟩
  · exact ⟨fun hk => by rw [ticketKind] at hk; omega, serviceKindOf_isSome_iff.2 ⟨hlo, hhi⟩⟩
  · rw [ticketKind]; omega
  · have hrefused : ticketKind data = 1 ∧ p.place = false ∨ ticketKind data ≠ 1 ∧ serviceKindOf (ticketKind data) = none := by
      refine hk.imp id (And.imp id (fun hk => Option.not_isSome_iff_eq_none.1 (fun hsome => ?_)))
      have := serviceKindOf_isSome_iff.1 hsome
      rw [ticketKind] at this
      omega
    rw [State.takeTicketHead_refuses (s := s.endRequest) hp hcur hrefused]
    exact State.endTicket_ends _ _ _ rfl rfl rfl hcalm hp hcur

/-! ## A service's output (R31, R32) -/

/-- The service that stands ready executes by the command of its kind (R34). -/
theorem State.runService_of_atService {s : State} {p : Pass} {c : Candidate} {v : Service} {k : ServiceKind}
    (h : s.atService p c v) (hk : v.kind = k) (act : Service → State) : s.runService k act = (act v).done := by
  obtain ⟨hp, hphase, _⟩ := h
  simp [State.runService, State.readyService, hp, hphase, hk]

/-- Pieces of which none fits: the service ends at once (R31, R32). -/
theorem State.writeOutput_none {s : State} {v : Service} {pieces : List (List Byte)}
    (hfit : fitting v.bufSize 0 pieces = []) : s.writeOutput v pieces = s.endTicket .doneOk .none 0 := by
  simp [State.writeOutput, hfit]

/-- Pieces that fit: the first is written, the others wait, and the bytes of all are counted. -/
theorem State.writeOutput_writes {s : State} {p : Pass} {v : Service} {pieces : List (List Byte)} {w : Addr × List Byte}
    {rest : List (Addr × List Byte)} (hp : s.pass = some p)
    (hfit : (fitting v.bufSize 0 pieces).map (fun x => (addrPlus v.bufAddr x.1, x.2)) = w :: rest) :
    s.writeOutput v pieces = ({ s with pass := some { p with
      phase := .output (w :: rest) ((w :: rest).map (·.2.length)).sum } } : State).requestWrite .output w.1 w.2 := by
  simp only [State.writeOutput, hfit, State.updPass, hp, Option.map_some]

/-- The next piece of an output, when one is left. -/
theorem State.nextOutput_writes {s : State} {p : Pass} {w w' : Addr × List Byte} {rest : List (Addr × List Byte)} {k : Nat}
    (hp : s.pass = some p) (hphase : p.phase = .output (w :: w' :: rest) k) :
    s.nextOutput = ({ s with pass := some { p with phase := .output (w' :: rest) k } } : State).requestWrite .output
      w'.1 w'.2 := by
  simp [State.nextOutput, hp, hphase, State.updPass]

/-- The end of an output's last piece ends its service. -/
theorem State.nextOutput_ends {s : State} {p : Pass} {w : Addr × List Byte} {k : Nat} (hp : s.pass = some p)
    (hphase : p.phase = .output [w] k) : s.nextOutput = s.endTicket .doneOk .none k := by
  simp [State.nextOutput, hp, hphase]

/-- Settles O26: a report by the pieces of it that fit, an output's write by what is left behind it. -/
theorem reportServicesWrite : Obligations.ReportServicesWrite := by
  refine ⟨fun s p c v hset hcalm hat => ?_, fun s p c n k w w' rest hserves hcalm hp hcur => ⟨fun hphase => ?_, fun hphase => ?_⟩⟩
  · have hends : ∀ pieces, fitting v.bufSize 0 pieces = [] →
        ∃ t, (s.writeOutput v pieces).done = .next t ∧ s.ticketEnds t c .doneOk .none 0 := by
      intro pieces hfit
      rw [State.writeOutput_none hfit]
      exact State.service_ends _ _ _ hcalm hat.1 hat.2.2
    have hwrites : ∀ pieces w rest,
        (fitting v.bufSize 0 pieces).map (fun x => (addrPlus v.bufAddr x.1, x.2)) = w :: rest →
        (s.writeOutput v pieces).done = .next { s with
          port := s.portWith [writeRequest .output w.1 w.2],
          pass := some { p with phase := .output (w :: rest) ((w :: rest).map (·.2.length)).sum } } := by
      intro pieces w rest hfit
      rw [State.writeOutput_writes hat.1 hfit]
      exact State.done_request_one hset.1 rfl rfl
    have hquery : v.kind = .stationQuery → exec .stationQuery s = (s.writeOutput v [s.stationRecord v.station]).done :=
      fun hk => State.runService_of_atService hat hk _
    have hread : v.kind = .emitterRead → exec .emitterRead s = (s.writeOutput v (s.emitterReport v.station)).done :=
      fun hk => State.runService_of_atService hat hk _
    have hstart : addrPlus v.bufAddr 0 = v.bufAddr := by simp [addrPlus]
    have hrecord : (s.stationRecord v.station).length = 32 := (s.stationRecord_spec v.station).1
    obtain ⟨d, hreport, hd, -⟩ := s.emitterReport_header v.station
    refine ⟨fun hk hsize => ?_, fun hk hsize => ?_, fun hk hsize => ?_, fun hk hsize => ?_⟩
    · rw [hquery hk, hwrites _ (v.bufAddr, s.stationRecord v.station) [] (by simp [fitting, hrecord, hsize, hstart])]
      simp only [List.map_cons, List.map_nil, List.sum_cons, List.sum_nil, hrecord, Nat.add_zero]
    · rw [hquery hk]; exact hends _ (by simp [fitting, hrecord, hsize])
    · rw [hread hk]; exact hends _ (by simp [hreport, fitting, hd, hsize])
    · obtain ⟨rest, hfit⟩ : ∃ rest, (fitting v.bufSize 0 (s.emitterReport v.station)).map
          (fun x => (addrPlus v.bufAddr x.1, x.2)) = (v.bufAddr, d) :: rest :=
        ⟨_, by rw [hreport, fitting, if_pos (by omega), List.map_cons, hstart]⟩
      exact ⟨_, _, hfit, rfl, by rw [hread hk]; exact hwrites _ _ _ hfit⟩
  · rw [exec_outputWriteDone_of_serves hserves, State.nextOutput_writes (s := s.endRequest) hp hphase]
    exact State.done_requestWrite _ _ _ hserves.1 rfl rfl
  · rw [exec_outputWriteDone_of_serves hserves, State.nextOutput_ends (s := s.endRequest) hp hphase]
    exact State.endTicket_ends _ _ _ rfl rfl rfl hcalm hp hcur

end Sys2Proof.Machine
end

section
/-! PROOFS. The completion writer goes on (R44 to R46): the next write of the task in progress, the end of a release task, and
the end of a rejection task, after which its station decides what comes next (R24, R116). -/

namespace Sys2Proof.Machine

/-! ## The writes of the task in progress (R44, R46) -/

theorem exec_completionWriteDone_of_serves {s : State} {n : Nat} (h : s.serves .completionWrite n) :
    exec .completionWriteDone s = s.endRequest.nextWrite.done :=
  State.completed_acts (act := State.nextWrite) h (fun r hp _ => by simp [hp])

/-- One release field more written under a job's claim. -/
def Job.fieldWritten (j : Job) : Job := { j with fieldsWritten := j.fieldsWritten + 1 }

/-- The jobs once write `w` of task `k` has ended: a release field counts under its task's claim. -/
def State.countedJobs (s : State) (w : PlannedWrite) (k : Task) : List Job :=
  if w.kind = .release then (s.updJob k.slotAddr Job.fieldWritten).jobs else s.jobs

theorem State.countField_eq {s : State} {k : Task} {ks : List Task} (w : PlannedWrite) (ht : s.tasks = k :: ks) :
    s.countField w = { s with jobs := s.countedJobs w k } := by
  have hcount : s.countField w = if w.kind = .release then s.updJob k.slotAddr Job.fieldWritten else s := by
    simp only [State.countField, ht]; rfl
  rw [hcount, State.countedJobs]
  split <;> rfl

/-- The task in progress has another write: it is issued. -/
theorem State.nextWrite_issues {s : State} {w w' : PlannedWrite} {rest : List PlannedWrite} {k : Task} {ks : List Task}
    (hp : s.plan = w :: w' :: rest) (ht : s.tasks = k :: ks) :
    s.nextWrite = ({ s with plan := w' :: rest, jobs := s.countedJobs w k } : State).requestWrite
      (if w'.kind = .done then .doneWrite else .completionWrite) w'.addr w'.data := by
  have hcount := State.countField_eq (s := { s with plan := w' :: rest }) w ht
  simp only [State.nextWrite, hp, hcount, List.isEmpty_cons, Bool.false_eq_true, if_false, State.issueWrite]
  rfl

/-- The task in progress has no other write: it leaves the list. -/
theorem State.nextWrite_last {s : State} {w : PlannedWrite} {k : Task} {ks : List Task} (hp : s.plan = [w])
    (ht : s.tasks = k :: ks) : s.nextWrite = ({ s with plan := [], jobs := s.countedJobs w k } : State).leaveTask := by
  have hcount := State.countField_eq (s := { s with plan := [] }) w ht
  simp only [State.nextWrite, hp, hcount, List.isEmpty_nil, if_true]
  rfl

/-! ## A task leaves the write list (R44) -/

/-- A task that stood alone on the list. -/
theorem State.leaveTask_alone {s : State} {k : Task} (ht : s.tasks = [k]) (hw : s.waiters = []) :
    s.leaveTask = ({ s with tasks := [], plan := [] } : State).taskEnded k := by
  simp [State.leaveTask, ht, hw, State.beginTask]

/-- The first write of the task that begins, when it is not DONE's. -/
theorem State.beginTask_writes {s : State} {k : Task} {ks : List Task} {w : PlannedWrite} {rest : List PlannedWrite}
    (ht : s.tasks = k :: ks) (hp : s.plan = []) (hk : s.taskWrites k = w :: rest) (hd : w.kind ≠ .done) :
    s.beginTask = ({ s with plan := w :: rest } : State).requestWrite .completionWrite w.addr w.data := by
  simp only [State.beginTask, ht, hp, hk, State.issueWrite, hd, if_false]

/-- The next task begins with its first write. -/
theorem State.leaveTask_begins {s : State} {k k' : Task} {ks : List Task} {w : PlannedWrite} {rest : List PlannedWrite}
    (ht : s.tasks = k' :: k :: ks) (hw : s.waiters = []) (hk : s.taskWrites k = w :: rest) (hd : w.kind ≠ .done) :
    s.leaveTask = (({ s with tasks := k :: ks, plan := w :: rest } : State).requestWrite .completionWrite w.addr
      w.data).taskEnded k' := by
  simp only [State.leaveTask, ht, hw]
  exact congrArg (State.taskEnded · k') (State.beginTask_writes
    (s := { s with tasks := k :: ks, waiters := [], plan := [] }) rfl rfl hk hd)

/-- The oldest waiting task joins the list, and the next task begins with its first write. -/
theorem State.leaveTask_joins {s : State} {k k' q : Task} {ks qs : List Task} {w : PlannedWrite} {rest : List PlannedWrite}
    (ht : s.tasks = k' :: k :: ks) (hw : s.waiters = q :: qs) (hk : s.taskWrites k = w :: rest) (hd : w.kind ≠ .done) :
    s.leaveTask = ((({ s with tasks := k :: (ks ++ [q]), waiters := qs, plan := w :: rest } : State).requestWrite
      .completionWrite w.addr w.data).taskEnded k').taskJoined q := by
  simp only [State.leaveTask, ht, hw]
  exact congrArg (fun u : State => (u.taskEnded k').taskJoined q) (State.beginTask_writes
    (s := { s with tasks := k :: (ks ++ [q]), waiters := qs, plan := [] }) rfl rfl hk hd)

/-- A release task that has ended leaves nothing to do. -/
@[simp] theorem State.taskEnded_release (s : State) (a tk : Addr) (i : StationId) (sh : Nat) (sn : Word)
    (es : List FrameEntry) : s.taskEnded (.release a tk i sh sn es) = s := rfl
/-- A rejection that joins the list leaves nothing to do: its station waits for its end (R45). -/
@[simp] theorem State.taskJoined_rejection (s : State) (a tk : Addr) (i : StationId) (n : Nat) :
    s.taskJoined (.rejection a tk i n) = s := rfl

/-! ## What comes next on an open sheet (R116) -/

/-- The title done, no stop seen, a position and a page left: the next page's entry is read. -/
theorem State.nextArea_readsEntry {s : State} {i : StationId} {j : Job} {sh : Sheet} (hj : s.attached i = some j)
    (hsh : (s.st i).sheet = some sh) (ht : sh.titleDone = true) (hs : j.stopSeen = false) (hpos : sh.nextPos < j.frames)
    (hpage : j.nextPage < j.pageCount) :
    s.nextArea i = (s.updSt i (fun x => { x with activity := .entryRead })).requestRead (.pageEntry i)
      (addrPlus j.ticket (0xD0 + 48 * j.nextPage)) 32 := by
  simp [State.nextArea, hj, hsh, ht, hs, hpos, hpage, pageEntryAddress]

/-- The station that waited for a rejection task goes on with the next page (R24, R45). -/
theorem State.afterRejection_goes {s : State} {i : StationId} {j : Job} {n : Nat} (hj : s.attached i = some j)
    (ha : (s.st i).activity = .rejecting) (hn : j.nextPage = n + 1) : s.afterRejection j.slotAddr i n = s.nextArea i := by
  simp [State.afterRejection, hj, ha, hn]

/-- The end of a rejection alone on the list: its field counts, and the station reads the next page's entry (R24, R45, R116). -/
theorem State.nextWrite_rejection {s : State} {w : PlannedWrite} {tk : Addr} {i : StationId} {m : Nat} {j : Job} {sh : Sheet}
    (hp : s.plan = [w]) (hw : w.kind = .release) (ht : s.tasks = [.rejection j.slotAddr tk i m]) (hwait : s.waiters = [])
    (hj : s.attached i = some j) (ha : (s.st i).activity = .rejecting) (hn : j.nextPage = m + 1)
    (hsh : (s.st i).sheet = some sh) (htitle : sh.titleDone = true) (hs : j.stopSeen = false) (hpos : sh.nextPos < j.frames)
    (hpage : j.nextPage < j.pageCount) :
    s.nextWrite = (({ s.updJob j.slotAddr Job.fieldWritten with tasks := [], plan := [] } : State).updSt i
      (fun x => { x with activity := .entryRead })).requestRead (.pageEntry i) (addrPlus j.ticket (0xD0 + 48 * j.nextPage))
        32 := by
  let u : State := { s.updJob j.slotAddr Job.fieldWritten with tasks := [], plan := [] }
  have hu : u.attached i = some j.fieldWritten := by
    show (s.updJob j.slotAddr Job.fieldWritten).attached i = _
    simp [State.attached_updJob (f := Job.fieldWritten) (fun _ => rfl), hj]
  have hended : s.nextWrite = u.afterRejection j.slotAddr i m := by
    rw [State.nextWrite_last hp ht, State.countedJobs, if_pos hw]
    exact State.leaveTask_alone (s := { s with plan := [], jobs := (s.updJob j.slotAddr Job.fieldWritten).jobs }) ht hwait
  rw [hended]
  exact (State.afterRejection_goes hu ha hn).trans (State.nextArea_readsEntry (j := j.fieldWritten) hu hsh htitle hs hpos hpage)

/-- Settles O29: a write behind the one that ended, the task that follows a release, the station that a rejection frees. -/
theorem completionWriteGoesOn : Obligations.CompletionWriteGoesOn := by
  refine ⟨⟨?_, ?_⟩, ?_⟩
  · intro s n w w' rest k ks hserves hplan htasks
    rw [exec_completionWriteDone_of_serves hserves, State.nextWrite_issues (s := s.endRequest) hplan htasks]
    exact State.done_requestWrite _ _ _ hserves.1 rfl rfl
  · intro s n w w' rest a tk i sh sn es hserves hplan hw
    have hlast : ∀ ks, s.tasks = .release a tk i sh sn es :: ks →
        s.endRequest.nextWrite = ({ s.endRequest with plan := [] } : State).leaveTask := by
      intro ks htasks
      rw [State.nextWrite_last (s := s.endRequest) hplan htasks, State.countedJobs, if_neg hw]
    rw [exec_completionWriteDone_of_serves hserves]
    refine ⟨fun htasks hwait => ?_, fun k ks htasks hk hw' => ⟨fun hwait => ?_, fun b bt q page ws hwait => ?_⟩⟩
    · rw [hlast _ htasks, State.leaveTask_alone (s := { s.endRequest with plan := [] }) htasks hwait, State.taskEnded_release]
      exact State.done_endRequest_none hserves.1 rfl rfl
    · rw [hlast _ htasks, State.leaveTask_begins (s := { s.endRequest with plan := [] }) htasks hwait hk hw',
        State.taskEnded_release]
      exact State.done_requestWrite _ _ _ hserves.1 rfl rfl
    · rw [hlast _ htasks, State.leaveTask_joins (s := { s.endRequest with plan := [] }) htasks hwait hk hw',
        State.taskEnded_release, State.taskJoined_rejection]
      exact State.done_requestWrite _ _ _ hserves.1 rfl rfl
  · intro s n m w tk i j sh hserves hplan hw htasks hwait hj hact hnext hsh htitle hpos hpage hstop
    rw [exec_completionWriteDone_of_serves hserves, State.nextWrite_rejection (s := s.endRequest) hplan hw htasks hwait hj
      hact hnext hsh htitle hstop hpos hpage]
    exact State.done_requestRead _ _ _ hserves.1 rfl rfl

end Sys2Proof.Machine
end

section
/-! PROOFS. The first line of an area (R80, R105, R119, R123, R140): what it makes of its station and what it requests, the
permit asked for, and the bands of a frame (R98, R101): the row written, the next band begun, and the read fault. -/

namespace Sys2Proof.Machine

/-! ## The end of an event with several requests (R170) -/

theorem State.withRequests_append (s : State) (l m : List Request) :
    (s.withRequests l).withRequests m = s.withRequests (l ++ m) := by simp [State.withRequests]

@[simp] theorem State.withRequests_choices (s : State) (l : List Request) : (s.withRequests l).choices = s.choices := rfl

/-- The end of the event that ends the request in service and makes others: they join the list in some order. -/
theorem State.done_withRequests_perm {s u : State} (l : List Request) (hs : s.port.arriving = []) (hc : u.ctrl = s.ctrl)
    (hu : u.port = s.endRequest.port) : ∃ (l' : List Request) (n : Nat), l'.Perm l ∧
      (u.withRequests l).done = .next { u with port := s.portAfter l', choices := n } := by
  have harr : (u.withRequests l).port.arriving = l := by simp [State.withRequests, hu, State.endRequest, hs]
  refine ⟨shuffle u.choices l, u.choices + choicesFor l.length, shuffle_perm l u.choices, ?_⟩
  rw [State.done, State.join, harr]
  show Host.Outcome.next { u with port := settlePort u.ctrl { u.port with list := u.port.list ++ _, arriving := [] }, choices := _ } = _
  rw [hc, hu]
  simp [State.portAfter, State.endRequest]

/-- A request that no request on its way or on the list satisfies: the withdrawal changes nothing. -/
theorem State.withdraw_of_none {s : State} {p : Request → Bool} (ha : ∀ r ∈ s.port.arriving, p r = false)
    (hl : ∀ r ∈ s.port.list, p r = false) : s.withdraw p = s := by
  have hserving : s.serving.filter p = none := by
    cases hs : s.serving with
    | none => rfl
    | some r => simp [Option.filter, hl r (List.mem_of_mem_head? (State.serving_some hs).2.2)]
  have harr : s.port.arriving.filter (fun r => !p r) = s.port.arriving := List.filter_eq_self.2 (by simpa using ha)
  have hlist : s.port.list.filter (fun r => !p r) = s.port.list := List.filter_eq_self.2 (by simpa using hl)
  rw [State.withdraw, harr, hlist, hserving, Option.or_none]

/-! ## The dwells of a line (R99, R111) -/

/-- A change of a station that touches neither its sheet, its film nor its bands leaves the dwells of its lines. -/
theorem State.lineDwells_updSt {s : State} {i : StationId} {f : Station → Station} (a : Area) (j : Nat)
    (hsheet : (f (s.st i)).sheet = (s.st i).sheet) (hspeed : (f (s.st i)).speed = (s.st i).speed)
    (hA : (f (s.st i)).bufA = (s.st i).bufA) (hB : (f (s.st i)).bufB = (s.st i).bufB) :
    (s.updSt i f).lineDwells i a j = s.lineDwells i a j := by
  have hbuffer : (f (s.st i)).bufferOf = (s.st i).bufferOf := by
    funext b; simp only [Station.bufferOf, hA, hB]
  have hasks : ∀ job sh, (s.updSt i f).lineAsks i job sh a j = s.lineAsks i job sh a j := by
    intro job sh
    unfold State.lineAsks
    rw [State.st_updSt_same, hbuffer]
    rfl
  simp only [State.lineDwells, State.attached_updSt, State.st_updSt_same, State.cal_updSt, hsheet, hspeed, hasks]

/-- Line `j` of area `a` is driven at station `i` (R105). -/
def State.driveLine (s : State) (i : StationId) (a : Area) (j : Nat) : State :=
  s.updSt i (fun x => { x with
    activity := .line a j, drive := (s.lineDwells i a j).1, driveSaturated := (s.lineDwells i a j).2 })

theorem State.driveLine_lineDwells (s : State) (i : StationId) (a : Area) (j : Nat) :
    (s.driveLine i a j).lineDwells i a j = s.lineDwells i a j :=
  State.lineDwells_updSt a j rfl rfl rfl rfl

/-! ## A line begins (R123, R140) -/

/-- The station with the open entry of its frame flagged AGED when `due` says so (R140). -/
def Station.agedWhen (x : Station) (due : Bool) : Station :=
  { x with sheet := x.sheet.map (fun sh => { sh with
      openEntry := sh.openEntry.map (fun e => { e with aged := e.aged || due }) }) }

theorem Station.agedWhen_false (x : Station) : x.agedWhen false = x := by
  have hsheet : ∀ sh : Sheet, { sh with openEntry := sh.openEntry.map (fun e => { e with aged := e.aged || false }) } = sh := by
    intro sh
    simp
  simp only [Station.agedWhen, hsheet, Option.map_id']

/-- A change of a station that changes nothing. -/
theorem State.updSt_id (s : State) (i : StationId) : s.updSt i (fun x => x) = s := by cases i <;> rfl

/-- At an area's first line a frame in flight is flagged AGED when a calibration is due (R140). -/
theorem State.ageEntry_eq (s : State) (i : StationId) (j : Nat) :
    (if j = 0 ∧ (s.cal i).due then s.updEntry i (fun e => { e with aged := true }) else s) =
      s.updSt i (fun x => x.agedWhen (decide (j = 0) && (s.cal i).due)) := by
  by_cases h : j = 0 ∧ (s.cal i).due = true
  · rw [if_pos h]
    exact State.updSt_congr (by simp [Station.agedWhen, h])
  · have hfalse : (decide (j = 0) && (s.cal i).due) = false := by simpa using h
    simp only [if_neg h, hfalse, Station.agedWhen_false, State.updSt_id]

/-- A line at which no stop word is read begins. -/
theorem State.startLine_drives {s : State} {i : StationId} {a : Area} {j : Nat} (h : a ≠ .page ∨ j % 64 ≠ 0) :
    s.startLine i a j = (s.updSt i (fun x => x.agedWhen (decide (j = 0) && (s.cal i).due))).driveLine i a j := by
  have hread : ¬(a = .page ∧ j % Config.bandLines = 0) := fun hh => h.elim (fun hn => hn hh.1) (fun hn => hn hh.2)
  unfold State.startLine
  simp only [State.ageEntry_eq, if_neg hread]
  rfl

/-- The stop word reading asked for at a band's first line, unless a stop has been seen or a reading is outstanding (R123). -/
def State.bandStop (s : State) (i : StationId) (job : Job) : List Request :=
  if job.stopSeen = true ∨ s.stopOutstanding i = true then [] else [readRequest (.band i) (addrPlus job.slotAddr 0x0C) 4]

/-- A band's first line begins: its stop word reading is asked for (R123). -/
theorem State.startLine_reads {s : State} {i : StationId} {job : Job} {j : Nat} (hjob : s.attached i = some job)
    (h : j % 64 = 0) : s.startLine i .page j =
      ((s.updSt i (fun x => { x.agedWhen (decide (j = 0) && (s.cal i).due) with bandReading := none })).withRequests
        (s.bandStop i job)).driveLine i .page j := by
  let u : State := s.updSt i (fun x => { x.agedWhen (decide (j = 0) && (s.cal i).due) with bandReading := none })
  have hseen : u.stopSeen i = job.stopSeen := by
    show (s.attached i).any (·.stopSeen) = _
    simp [hjob]
  have hask : u.stopOutstanding i = false → u.askStop i (.band i) =
      u.withRequests [readRequest (.band i) (addrPlus job.slotAddr 0x0C) 4] := by
    intro hout
    have hatt : u.attached i = some job := hjob
    simp only [State.askStop, hout, hatt, Bool.false_eq_true, if_false]
    rfl
  have hreads : (if u.stopSeen i || u.stopOutstanding i then u else u.askStop i (.band i)) =
      u.withRequests (s.bandStop i job) := by
    rw [hseen, State.bandStop, show s.stopOutstanding i = u.stopOutstanding i from rfl]
    by_cases hnone : job.stopSeen = true ∨ u.stopOutstanding i = true
    · rw [if_pos (by simpa using hnone), if_pos hnone, State.withRequests_nil]
    · rw [if_neg (by simpa using hnone), if_neg hnone]
      exact hask (by simpa using fun h => hnone (.inr h))
  unfold State.startLine
  simp only [State.ageEntry_eq, State.updSt_updSt, true_and, if_pos (show j % Config.bandLines = 0 from h)]
  rw [show (if u.stopSeen i || u.stopOutstanding i then u else u.askStop i (.band i)) = _ from hreads]
  rfl

/-! ## The permit asked for (R118, R119) -/

/-- A free permit: the station enters EXPOSING and begins the area's first line. -/
theorem State.askPermit_granted {s : State} {i : StationId} (a : Area) (hh : i ∉ s.permitHolders) (hq : i ∉ s.permitQueue)
    (hfree : s.permitHolders.length < 2) : s.askPermit i a =
      (({ s with permitHolders := s.permitHolders ++ [i] } : State).updSt i
        (fun x => { x with state := .exposing, activity := .permitWait a })).startLine i a 0 := by
  have hactivity : ((s.updSt i (fun x => { x with activity := .permitWait a })).st i).activity = .permitWait a := by simp
  simp only [State.askPermit, List.contains_eq_mem, hh, hq, decide_false, Bool.or_self, Bool.false_eq_true, if_false,
    Config.permits, hfree, if_true, State.grantPermit, hactivity]
  cases i <;> rfl

/-- No permit free: the station waits in the list. -/
theorem State.askPermit_waits {s : State} {i : StationId} (a : Area) (hh : i ∉ s.permitHolders) (hq : i ∉ s.permitQueue)
    (hfull : 2 ≤ s.permitHolders.length) : s.askPermit i a =
      ({ s with permitQueue := s.permitQueue ++ [i] } : State).updSt i (fun x => { x with activity := .permitWait a }) := by
  rcases s.askPermit_cases i a with ⟨h, _⟩ | ⟨_, _, h, _⟩ | ⟨_, _, _, h⟩
  · exact absurd h (by simp [hh, hq])
  · omega
  · exact h

end Sys2Proof.Machine
end

section
/-! PROOFS. A row fetched (R98, R100, R119): the row written into the buffer that is being filled, whichever of the two it is;
the next band begun in the other; and what the FULL band lets its station do. -/

namespace Sys2Proof.Machine

/-! ## The two band buffers -/

/-- The second buffer, or the first. -/
def Station.bufAt (x : Station) (inB : Bool) : BandBuffer := if inB then x.bufB else x.bufA

/-- The station with its second buffer, or its first, replaced. -/
def Station.putAt (x : Station) (inB : Bool) (b : BandBuffer) : Station :=
  if inB then { x with bufB := b } else { x with bufA := b }

@[simp] theorem Station.bufAt_putAt_same (x : Station) (inB : Bool) (b : BandBuffer) : (x.putAt inB b).bufAt inB = b := by
  cases inB <;> rfl
@[simp] theorem Station.bufAt_putAt_other (x : Station) (inB : Bool) (b : BandBuffer) :
    (x.putAt inB b).bufAt (!inB) = x.bufAt (!inB) := by cases inB <;> rfl
@[simp] theorem Station.putAt_mapping (x : Station) (inB : Bool) (b : BandBuffer) : (x.putAt inB b).mapping = x.mapping := by
  cases inB <;> rfl
@[simp] theorem Station.putAt_activity (x : Station) (inB : Bool) (b : BandBuffer) :
    (x.putAt inB b).activity = x.activity := by cases inB <;> rfl

/-- Of the two buffers the FILLING one is the one a fetched row is written into. -/
theorem Station.filling_eq {x : Station} {inB : Bool} (hb : (x.bufAt inB).state = .filling)
    (ho : (x.bufAt (!inB)).state ≠ .filling) : x.filling = some (x.bufAt inB) ∧ ∀ b, x.setFilling b = x.putAt inB b := by
  cases inB
  · have hA : x.bufA.state = .filling := hb
    exact ⟨by simp [Station.filling, Station.bufAt, hA], fun b => by simp [Station.setFilling, Station.putAt, hA]⟩
  · have hA : x.bufA.state ≠ .filling := ho
    have hB : x.bufB.state = .filling := hb
    exact ⟨by simp [Station.filling, Station.bufAt, hA, hB], fun b => by simp [Station.setFilling, Station.putAt, hA]⟩

/-- A FULL band in one of the buffers. -/
theorem Station.previousFull_of {x : Station} {inB : Bool} (hs : (x.bufAt inB).state = .full) {b : Nat}
    (hb : b = (x.bufAt inB).band + 1) : x.previousFull b = true := by
  subst hb
  cases inB <;> simp_all [Station.previousFull, Station.bandIn, Station.bufAt]

/-! ## The next band (R98) -/

/-- No band is begun while neither buffer is FREE. -/
theorem State.beginNextBand_busy {s : State} {i : StationId} (inB : Bool) (h : ((s.st i).bufAt inB).state ≠ .free)
    (ho : ((s.st i).bufAt (!inB)).state ≠ .free) : s.beginNextBand i = s := by
  have hA : (s.st i).bufA.state ≠ .free := by cases inB <;> assumption
  have hB : (s.st i).bufB.state ≠ .free := by cases inB <;> assumption
  unfold State.beginNextBand
  split
  · simp [hA, hB]
  · rfl

/-- The next band begun in the FREE buffer, the other holding the band before it FULL. -/
theorem State.beginNextBand_at {s : State} {i : StationId} {m : Mapping} (inB : Bool) (hm : (s.st i).mapping = some m)
    (hb : m.nextBand < bandCount m.lines) (hfull : ((s.st i).bufAt inB).state = .full)
    (hprev : m.nextBand = ((s.st i).bufAt inB).band + 1) (hfree : ((s.st i).bufAt (!inB)).state = .free) :
    s.beginNextBand i = (s.updSt i (fun x => ({ x with mapping := some { m with nextBand := m.nextBand + 1 } } :
      Station).putAt (!inB) (m.beginBand m.nextBand))).withRequests (m.firstRow i m.nextBand) := by
  have hp := Station.previousFull_of hfull hprev
  cases inB
  · have hA : (s.st i).bufA.state ≠ .free := by rw [show (s.st i).bufA.state = .full from hfull]; simp
    exact State.beginNextBand_bufB hm hb hp hA hfree
  · exact State.beginNextBand_bufA hm hb hp hfree

/-- A band just FULL, the next one left to begin and the other buffer FREE: that band alone is begun. -/
theorem State.beginBands_follows {s : State} {i : StationId} {m : Mapping} (inB : Bool) (hm : (s.st i).mapping = some m)
    (hb : m.nextBand < bandCount m.lines) (hfull : ((s.st i).bufAt inB).state = .full)
    (hprev : m.nextBand = ((s.st i).bufAt inB).band + 1) (hfree : ((s.st i).bufAt (!inB)).state = .free) :
    s.beginBands i = (s.updSt i (fun x => ({ x with mapping := some { m with nextBand := m.nextBand + 1 } } :
      Station).putAt (!inB) (m.beginBand m.nextBand))).withRequests (m.firstRow i m.nextBand) := by
  have hbegun : (m.beginBand m.nextBand).state ≠ .free := by rw [Mapping.beginBand_eq]; dsimp only; split <;> simp
  rw [State.beginBands, State.beginNextBand_at inB hm hb hfull hprev hfree]
  refine State.beginNextBand_busy (!inB) ?_ ?_
  · rw [State.withRequests_st, State.st_updSt_same, Station.bufAt_putAt_same]; exact hbegun
  · rw [State.withRequests_st, State.st_updSt_same, Station.bufAt_putAt_other, Bool.not_not]
    have hkept : ({ s.st i with mapping := some { m with nextBand := m.nextBand + 1 } } : Station).bufAt inB =
      (s.st i).bufAt inB := rfl
    rw [hkept, hfull]; simp

/-- A band just FULL, no band left to begin or the other buffer not FREE: none is begun. -/
theorem State.beginBands_none {s : State} {i : StationId} {m : Mapping} (inB : Bool) (hm : (s.st i).mapping = some m)
    (hfull : ((s.st i).bufAt inB).state = .full)
    (h : bandCount m.lines ≤ m.nextBand ∨ ((s.st i).bufAt (!inB)).state ≠ .free) : s.beginBands i = s := by
  have hone : s.beginNextBand i = s :=
    h.elim (fun h => State.beginNextBand_none hm (.inl h))
      (fun h => State.beginNextBand_busy inB (by rw [hfull]; simp) h)
  rw [State.beginBands, hone, hone]

/-! ## The row (R98) -/

theorem exec_rowFetchDone_of_serves {s : State} {i : StationId} {n : Nat} {data : List Byte} (h : s.serves (.row i) n)
    (hd : data.length = n) : exec (.rowFetchDone data) s = (s.endRequest.takeRow i data).done := by
  obtain ⟨_, r, hr, hp, hn⟩ := h
  simp [exec, execRowFetchDone, State.completed, hr, hp, hn, hd]

/-- The station with source row `y` written into its filling band and `rows` left to fetch: FULL when there are none. -/
def Station.rowTaken (x : Station) (m : Mapping) (inB : Bool) (y : Nat) (rows : List Nat) (data : List Byte) : Station :=
  x.putAt inB { x.bufAt inB with
    rows := rows, dots := m.writeRow (x.bufAt inB).band y data (x.bufAt inB).dots,
    state := if rows = [] then .full else .filling }

/-- A row taken with others left: the next is requested. -/
theorem State.takeRow_more {s : State} {i : StationId} {m : Mapping} {inB : Bool} {y y' : Nat} {rest : List Nat}
    (data : List Byte) (hm : (s.st i).mapping = some m) (hb : ((s.st i).bufAt inB).state = .filling)
    (ho : ((s.st i).bufAt (!inB)).state ≠ .filling) (hrows : ((s.st i).bufAt inB).rows = y :: y' :: rest) :
    s.takeRow i data = (s.updSt i (fun x => x.rowTaken m inB y (y' :: rest) data)).withRequests
      [readRequest (.row i) (m.rowAddress y') m.rowLength] := by
  obtain ⟨hfill, hset⟩ := Station.filling_eq hb ho
  simp only [State.takeRow, hm, hfill, hrows, List.isEmpty_cons, Bool.false_eq_true, if_false]
  rw [State.updSt_congr (g := fun x => x.rowTaken m inB y (y' :: rest) data) (by rw [hset]; rfl)]
  rfl

theorem Mapping.firstRow_purpose {m : Mapping} {i : StationId} {b : Nat} : ∀ r ∈ m.firstRow i b, r.purpose = .row i := by
  intro r hr
  simp only [Mapping.firstRow, Option.mem_toList, Option.map_eq_some_iff] at hr
  obtain ⟨y, _, rfl⟩ := hr
  rfl

/-- What follows the last row of a band: the next band begun in the other buffer, with its first row's request, when one is
left and that buffer is FREE; nothing when none is left or it is not FREE (R98). -/
def Station.bandFollows (x : Station) (i : StationId) (m : Mapping) (inB : Bool) (u : Station) (asks : List Request) : Prop :=
  ((m.nextBand < bandCount m.lines ∧ m.nextBand = (x.bufAt inB).band + 1 ∧ (x.bufAt (!inB)).state = .free) ∧
    u = ({ x with mapping := some { m with nextBand := m.nextBand + 1 } } : Station).putAt (!inB) (m.beginBand m.nextBand) ∧
    asks = m.firstRow i m.nextBand) ∨
  ((bandCount m.lines ≤ m.nextBand ∨ (x.bufAt (!inB)).state ≠ .free) ∧ u = x ∧ asks = [])

/-- What follows a FULL band requests rows alone, one at most, and leaves what its station does. -/
theorem Station.bandFollows_spec {x u : Station} {i : StationId} {m : Mapping} {inB : Bool} {asks : List Request}
    (h : x.bandFollows i m inB u asks) : (∀ r ∈ asks, r.purpose = .row i) ∧ asks.length ≤ 1 ∧ u.activity = x.activity := by
  rcases h with ⟨_, rfl, rfl⟩ | ⟨_, rfl, rfl⟩
  · exact ⟨Mapping.firstRow_purpose, m.firstRow_length i _, by simp⟩
  · simp

/-- The bands begun at the event at which a band has become FULL. -/
theorem State.beginBands_of_follows {s : State} {i : StationId} {m : Mapping} {inB : Bool} {u : Station}
    {asks : List Request} (hm : (s.st i).mapping = some m) (hfull : ((s.st i).bufAt inB).state = .full)
    (h : (s.st i).bandFollows i m inB u asks) : s.beginBands i = (s.updSt i (fun _ => u)).withRequests asks := by
  rcases h with ⟨⟨hb, hprev, hfree⟩, rfl, rfl⟩ | ⟨hnone, rfl, rfl⟩
  · rw [State.beginBands_follows inB hm hb hfull hprev hfree]
    exact congrArg (State.withRequests · _) (State.updSt_congr rfl)
  · rw [State.beginBands_none inB hm hfull hnone, State.withRequests_nil]
    exact (State.updSt_id s i).symm.trans (State.updSt_congr rfl)

/-- The last row taken: the band is FULL, and what follows it has begun. -/
theorem State.takeRow_last {s : State} {i : StationId} {m : Mapping} {inB : Bool} {y : Nat} {u : Station}
    {asks : List Request} (data : List Byte) (hm : (s.st i).mapping = some m)
    (hb : ((s.st i).bufAt inB).state = .filling) (ho : ((s.st i).bufAt (!inB)).state ≠ .filling)
    (hrows : ((s.st i).bufAt inB).rows = [y]) (h : ((s.st i).rowTaken m inB y [] data).bandFollows i m inB u asks) :
    s.takeRow i data = ((s.updSt i (fun _ => u)).withRequests asks).bandFull i ((s.st i).bufAt inB).band := by
  obtain ⟨hfill, hset⟩ := Station.filling_eq hb ho
  have hst : ((s.updSt i (fun x => x.rowTaken m inB y [] data)).st i) = (s.st i).rowTaken m inB y [] data :=
    State.st_updSt_same _ _ _
  simp only [State.takeRow, hm, hfill, hrows, List.isEmpty_nil, if_true]
  rw [State.updSt_congr (g := fun x => x.rowTaken m inB y [] data) (by rw [hset]; rfl),
    State.beginBands_of_follows (m := m) (inB := inB) (u := u) (asks := asks) (by rw [hst]; simp [Station.rowTaken, hm])
      (by rw [hst]; simp [Station.rowTaken]) (by rw [hst]; exact h), State.updSt_updSt]

/-! ## What a FULL band lets its station do (R100, R119, R123) -/

/-- A station that does not wait for band `b`: nothing follows. -/
theorem State.bandFull_none {s : State} {i : StationId} {b : Nat}
    (hhold : ∀ k, (s.st i).activity = .lineHold k → b ≠ k + 1) (hwait : (s.st i).activity = .bandWait → b ≠ 0) :
    s.bandFull i b = s := by
  unfold State.bandFull
  split
  · next h => rw [if_neg (hwait h)]
  · next k h => rw [if_neg (hhold k h)]
  · rfl

theorem State.withRequests_driveLine (s : State) (l : List Request) (i : StationId) (a : Area) (j : Nat) :
    (s.withRequests l).driveLine i a j = (s.driveLine i a j).withRequests l := rfl

/-- A row's request is no reading of a stop word. -/
theorem isStopReading_row {i k : StationId} {r : Request} (h : r.purpose = .row k) : isStopReading i r = false := by
  simp [isStopReading, h]

/-- The end of a row's request, and the requests of rows, leave the stop word readings outstanding. -/
theorem State.stopOutstanding_endRow {s : State} {i : StationId} {n : Nat} {l : List Request} (h : s.serves (.row i) n)
    (hl : ∀ r ∈ l, r.purpose = .row i) : (s.endRequest.withRequests l).stopOutstanding i = s.stopOutstanding i := by
  obtain ⟨harr, r, hr, hp, _⟩ := h
  obtain ⟨rest, hlist⟩ : ∃ rest, s.port.list = r :: rest := by
    have hhead := (State.serving_some hr).2.2
    cases hs : s.port.list with
    | nil => simp [hs] at hhead
    | cons q rest => simp only [hs, List.head?_cons, Option.some.injEq] at hhead; exact ⟨rest, by rw [hhead]⟩
  have hrows : l.any (isStopReading i) = false := List.any_eq_false.2 (fun q hq => by simp [isStopReading_row (hl q hq)])
  simp [State.stopOutstanding, State.withRequests, State.endRequest, harr, hlist, hrows, isStopReading_row hp]

/-- The first line of a band begins at the end of an event that has ended a request: its station drives it, and its stop word
reading is asked for with the other requests. -/
theorem State.startLine_page_done {s w : State} {i : StationId} {job : Job} {j : Nat} (asks : List Request)
    (hs : s.port.arriving = []) (hc : w.ctrl = s.ctrl) (hw : w.port = s.endRequest.port) (hjob : w.attached i = some job)
    (hj : j % 64 = 0) : ∃ t l, ((w.withRequests asks).startLine i .page j).done = .next t ∧
      l.Perm (asks ++ (w.withRequests asks).bandStop i job) ∧
      t = { w with port := s.portAfter l, choices := t.choices, stations := t.stations } ∧ (∀ k, k ≠ i → t.st k = w.st k) ∧
      t.st i = { (w.st i).agedWhen (decide (j = 0) && (w.cal i).due) with
        activity := .line .page j, bandReading := none, drive := (t.lineDwells i .page j).1,
        driveSaturated := (t.lineDwells i .page j).2 } := by
  let v : State := w.updSt i (fun x => { x.agedWhen (decide (j = 0) && (w.cal i).due) with bandReading := none })
  obtain ⟨l, n, hl, hdone⟩ := State.done_withRequests_perm (u := v.driveLine i .page j)
    (asks ++ (w.withRequests asks).bandStop i job) hs hc hw
  have hstart : (w.withRequests asks).startLine i .page j =
      (v.driveLine i .page j).withRequests (asks ++ (w.withRequests asks).bandStop i job) := by
    rw [State.startLine_reads (s := w.withRequests asks) hjob hj, State.withRequests_updSt, State.withRequests_append,
      State.withRequests_driveLine]
    rfl
  have hdwells : (v.driveLine i .page j).lineDwells i .page j = v.lineDwells i .page j := State.driveLine_lineDwells _ _ _ _
  refine ⟨_, l, by rw [hstart, hdone], hl, rfl, fun k hk => ?_, ?_⟩
  · show (v.driveLine i .page j).st k = w.st k
    rw [State.driveLine, State.st_updSt_other _ _ hk, State.st_updSt_other _ _ hk]
  · show (v.driveLine i .page j).st i = ({ (w.st i).agedWhen (decide (j = 0) && (w.cal i).due) with
      activity := .line .page j, bandReading := none, drive := ((v.driveLine i .page j).lineDwells i .page j).1,
      driveSaturated := ((v.driveLine i .page j).lineDwells i .page j).2 } : Station)
    rw [hdwells, State.driveLine, State.st_updSt_same, State.st_updSt_same]

/-- A film held for the band: its first line begins (R100). -/
theorem State.bandFull_hold {s : State} {i : StationId} {b : Nat} (h : (s.st i).activity = .lineHold (b - 1)) (hb : b ≠ 0) :
    s.bandFull i b = s.startLine i .page (64 * b) := by
  have hk : b = b - 1 + 1 := by omega
  simp only [State.bandFull, h]
  rw [if_pos hk]
  rfl

/-- A frame positioned and waiting for band 0 asks for its permit (R119). -/
theorem State.bandFull_wait {s : State} {i : StationId} (h : (s.st i).activity = .bandWait) :
    s.bandFull i 0 = s.askPermit i .page := by
  simp [State.bandFull, h]

/-- The reading asked for at a band's first line after the row that made the band FULL: the job's, unless a stop has been seen
or a reading was outstanding before (R123). -/
theorem State.bandStop_endRow {s w : State} {i : StationId} {n : Nat} {asks : List Request} (job : Job)
    (hserves : s.serves (.row i) n) (hw : w.port = s.endRequest.port) (hl : ∀ r ∈ asks, r.purpose = .row i) :
    (w.withRequests asks).bandStop i job = s.bandStop i job := by
  have hout : (w.withRequests asks).stopOutstanding i = (s.endRequest.withRequests asks).stopOutstanding i := by
    simp only [State.stopOutstanding, State.withRequests, hw]
  rw [State.bandStop, hout, State.stopOutstanding_endRow hserves hl]
  rfl

section LastRow

/-! The state `w` of these lemmas is the one in which band `b` has become FULL, `u` its station, before `asks`, the next band's
first row if there is one, and anything else is requested. -/

variable {s : State} {i : StationId} {n : Nat} {u : Station} {asks : List Request} {job : Job}

/-- A film held for the band goes on with the band's first line (R100). -/
theorem State.bandFull_hold_done {b : Nat} (hserves : s.serves (.row i) n) (hjob : s.attached i = some job)
    (hasks : ∀ r ∈ asks, r.purpose = .row i) (hact : u.activity = .lineHold (b - 1)) (hb : b ≠ 0) :
    ∃ t l, (((s.endRequest.updSt i (fun _ => u)).withRequests asks).bandFull i b).done = .next t ∧
      l.Perm (asks ++ s.bandStop i job) ∧ t = { s with port := s.portAfter l, choices := t.choices, stations := t.stations } ∧
      (∀ k, k ≠ i → t.st k = s.st k) ∧ t.st i = { u with
        activity := .line .page (64 * b), bandReading := none, drive := (t.lineDwells i .page (64 * b)).1,
        driveSaturated := (t.lineDwells i .page (64 * b)).2 } := by
  let w : State := s.endRequest.updSt i (fun _ => u)
  have hw : w.st i = u := State.st_updSt_same _ _ _
  obtain ⟨t, l, hdone, hl, ht, hothers, hi⟩ := State.startLine_page_done (s := s) (w := w) (j := 64 * b) asks hserves.1 rfl rfl
    hjob (by omega)
  rw [State.bandStop_endRow (w := w) job hserves rfl hasks] at hl
  refine ⟨t, l, ?_, hl, ht, fun k hk => (hothers k hk).trans (State.st_updSt_other _ _ hk), ?_⟩
  · rw [State.bandFull_hold (s := w.withRequests asks) (by rw [State.withRequests_st, hw, hact]) hb, hdone]
  · rw [hi, hw, show decide (64 * b = 0) = false by simp [hb], Bool.false_and, Station.agedWhen_false]

/-- A frame that waited for band 0 waits for a permit when none is free (R119). -/
theorem State.bandFull_waits_done (hs : s.port.arriving = []) (hlength : asks.length ≤ 1) (hact : u.activity = .bandWait)
    (hh : i ∉ s.permitHolders) (hq : i ∉ s.permitQueue) (hfull : 2 ≤ s.permitHolders.length) :
    (((s.endRequest.updSt i (fun _ => u)).withRequests asks).bandFull i 0).done = .next { s with
      port := s.portAfter asks, permitQueue := s.permitQueue ++ [i],
      stations := (s.updSt i (fun _ => { u with activity := .permitWait .page })).stations } := by
  let w : State := s.endRequest.updSt i (fun _ => u)
  have hw : w.st i = u := State.st_updSt_same _ _ _
  rw [State.bandFull_wait (s := w.withRequests asks) (by rw [State.withRequests_st, hw, hact]),
    State.askPermit_waits (s := w.withRequests asks) .page hh hq hfull,
    ← State.updSt_updSt s i (fun _ => u) (fun x => { x with activity := .permitWait .page })]
  exact State.done_withRequests (u := ({ w with permitQueue := s.permitQueue ++ [i] } : State).updSt i
    (fun x => { x with activity := .permitWait .page })) hs rfl rfl hlength

/-- A frame that waited for band 0 is granted a free permit and begins its line 0, AGED when a calibration is due (R119,
R140). -/
theorem State.bandFull_granted_done (hserves : s.serves (.row i) n) (hjob : s.attached i = some job)
    (hasks : ∀ r ∈ asks, r.purpose = .row i) (hact : u.activity = .bandWait) (hh : i ∉ s.permitHolders)
    (hq : i ∉ s.permitQueue) (hfree : s.permitHolders.length < 2) :
    ∃ t l, (((s.endRequest.updSt i (fun _ => u)).withRequests asks).bandFull i 0).done = .next t ∧
      l.Perm (asks ++ s.bandStop i job) ∧ t = { s with
        port := s.portAfter l, choices := t.choices, stations := t.stations, permitHolders := s.permitHolders ++ [i] } ∧
      (∀ k, k ≠ i → t.st k = s.st k) ∧ t.st i = { u.agedWhen (s.cal i).due with
        state := .exposing, activity := .line .page 0, bandReading := none, drive := (t.lineDwells i .page 0).1,
        driveSaturated := (t.lineDwells i .page 0).2 } := by
  let w : State := s.endRequest.updSt i (fun _ => u)
  let w' : State := ({ w with permitHolders := s.permitHolders ++ [i] } : State).updSt i
    (fun x => { x with state := .exposing, activity := .permitWait .page })
  have hw : w.st i = u := State.st_updSt_same _ _ _
  have hw' : w'.st i = { u with state := .exposing, activity := .permitWait .page } := by
    rw [← hw]; exact State.st_updSt_same _ _ _
  obtain ⟨t, l, hdone, hl, ht, hothers, hi⟩ := State.startLine_page_done (s := s) (w := w') (j := 0) asks hserves.1 rfl rfl
    hjob rfl
  rw [State.bandStop_endRow (w := w') job hserves rfl hasks] at hl
  refine ⟨t, l, ?_, hl, ht, fun k hk => (hothers k hk).trans ?_, ?_⟩
  · rw [State.bandFull_wait (s := w.withRequests asks) (by rw [State.withRequests_st, hw, hact]),
      State.askPermit_granted (s := w.withRequests asks) .page hh hq hfree]
    exact hdone
  · exact (State.st_updSt_other _ _ hk).trans (State.st_updSt_other s.endRequest _ hk)
  · rw [hi, hw', decide_eq_true rfl, Bool.true_and]
    rfl

end LastRow

/-- ROW_FETCH_DONE for a band's last row (R98). -/
theorem exec_rowFetchDone_last {s : State} {i : StationId} {n : Nat} {data : List Byte} {m : Mapping} {inB : Bool} {y : Nat}
    {u : Station} {asks : List Request} (hserves : s.serves (.row i) n) (hd : data.length = n)
    (hm : (s.st i).mapping = some m) (hb : ((s.st i).bufAt inB).state = .filling)
    (ho : ((s.st i).bufAt (!inB)).state ≠ .filling) (hrows : ((s.st i).bufAt inB).rows = [y])
    (h : ((s.st i).rowTaken m inB y [] data).bandFollows i m inB u asks) : exec (.rowFetchDone data) s =
      (((s.endRequest.updSt i (fun _ => u)).withRequests asks).bandFull i ((s.st i).bufAt inB).band).done := by
  rw [exec_rowFetchDone_of_serves hserves hd]
  exact congrArg State.done (State.takeRow_last (s := s.endRequest) data hm hb ho hrows h)

/-- Settles O45: the row by its buffer, the next band by `State.beginBands`, and the FULL band by what its station waits for. -/
theorem rowFetched : Obligations.RowFetched := by
  intro s i n data m inB y rows hserves hd hm x buf other hbuf hother hrows put putOther fetched rowRequest follows next begun
  have ho : x.bufAt (!inB) = other := by cases inB <;> rfl
  have hfetched : s.updSt i (fun _ => fetched) = s.updSt i (fun x => x.rowTaken m inB y rows data) := State.updSt_congr rfl
  refine ⟨fun y' rest hmore => ?_, fun hlast u asks hnext => ?_⟩
  · have hmore' : (x.bufAt inB).rows = y :: y' :: rest := hrows.trans (by rw [hmore])
    rw [exec_rowFetchDone_of_serves hserves hd, State.takeRow_more (s := s.endRequest) data hm hbuf (ho ▸ hother) hmore',
      hfetched, hmore]
    exact State.done_withRequests (u := s.endRequest.updSt i _) hserves.1 rfl rfl (Nat.le_refl 1)
  · have hfollows : (x.rowTaken m inB y [] data).bandFollows i m inB u asks := by
      subst hlast
      cases inB <;> exact hnext
    obtain ⟨hpurpose, hlength, hactivity⟩ := Station.bandFollows_spec hfollows
    have hact : u.activity = x.activity := hactivity.trans (Station.putAt_activity _ _ _)
    have hst : ((s.endRequest.updSt i (fun _ => u)).withRequests asks).st i = u := State.st_updSt_same _ _ _
    rw [exec_rowFetchDone_last hserves hd hm hbuf (ho ▸ hother) (hrows.trans (by rw [hlast])) hfollows]
    refine ⟨fun hhold hwait => ?_, fun j hj => ⟨fun hhold hband => ?_, fun hwait hband hh hq => ⟨fun hfull => ?_, fun hfree => ?_⟩⟩⟩
    · rw [State.bandFull_none (by rw [hst, hact]; exact hhold) (by rw [hst, hact]; exact hwait)]
      exact State.done_withRequests (u := s.endRequest.updSt i _) hserves.1 rfl rfl hlength
    · exact State.bandFull_hold_done hserves hj hpurpose (hact.trans hhold) hband
    · rw [show ((s.st i).bufAt inB).band = 0 from hband]
      exact State.bandFull_waits_done hserves.1 hlength (hact.trans hwait) hh hq hfull
    · rw [show ((s.st i).bufAt inB).band = 0 from hband]
      obtain ⟨t, l, hdone, hl, ht, hothers, hi⟩ := State.bandFull_granted_done hserves hj hpurpose (hact.trans hwait) hh hq hfree
      refine ⟨t, l, hdone, hl, ht, hothers, ?_⟩
      simp only [hi, Station.agedWhen, CalUnit.due, Bool.or_assoc]

end Sys2Proof.Machine
end

section
/-! PROOFS. The timeout of a transfer (R172): a port error of the request in service, and what each channel does of it. -/

namespace Sys2Proof.Machine

/-! ## The port error -/

/-- The request in service has ended in a port error: PORT_ERR is set, and the port goes on with its list. -/
def State.portErrored (s : State) : State := { s.endRequest with portErr := true }

/-- What the dispatcher sees decides whether it is calm. -/
theorem State.calm_of_view {s u : State} (h : s.calm) (hv : u.dispatchView = s.dispatchView) : u.calm :=
  State.atRest_of_calm (u := { u with pass := none }) h hv

theorem State.portErrored_calm {s : State} (h : s.calm) : s.portErrored.calm := State.calm_of_view h rfl

@[simp] theorem State.portErrored_intakeCount (s : State) : s.portErrored.intakeCount = s.intakeCount := rfl

/-- TRANSFER_TIMEOUT with a request in service. -/
theorem exec_transferTimeout_of_serves {s : State} {p : Purpose} {n : Nat} (h : s.serves p n) :
    exec .transferTimeout s = (s.portErrored.portError p).done := by
  obtain ⟨_, r, hr, hp, _⟩ := h
  simp only [exec, execTransferTimeout, hr, hp]
  rfl

/-- With no transfer on the bus nothing times out. -/
theorem exec_transferTimeout_idle {s : State} (h : s.port.master ≠ .tenure) : exec .transferTimeout s = .next s := by
  have hbus : s.port.onBus = none := by simp [Port.onBus, h]
  have hserving : s.serving = none := by simp [State.serving, hbus]
  simp [exec, execTransferTimeout, hserving, hbus]

/-- The timeout of a withdrawn request's transfer ends that transfer. -/
theorem exec_transferTimeout_discarded {s : State} {r : Request} (hs : s.settled) (hm : s.port.master = .tenure)
    (hd : s.port.discarding = some r) : exec .transferTimeout s =
      .next { s with port := settlePort s.ctrl (afterRequest s.ctrl s.port s.port.list) } := by
  have hserving : s.serving = none := by simp [State.serving, hd]
  have hbus : s.port.onBus = some r := by simp [Port.onBus, hm, hd]
  have harr : s.endDiscarded.port.arriving = [] := by simp [State.endDiscarded, hs.1]
  have hport : ({ s.endDiscarded.port with arriving := [] } : Port) = s.endDiscarded.port := by
    cases hp : s.endDiscarded.port; simp_all
  simp only [exec, execTransferTimeout, hserving, hbus, Option.isSome_some, if_true, State.done]
  rw [State.join_of_none harr, hport]
  rfl

/-! ## The scan half (R38, R40, R41) -/

/-- A slot passed over: the next slot is read. -/
theorem State.nextSlotRead_next {s : State} {p : Pass} {k : Nat} (hp : s.pass = some p) (hph : p.phase = .slotRead k)
    (hk : k + 1 < p.slots) : s.nextSlotRead = ({ s with pass := some { p with phase := .slotRead (k + 1) } } : State).requestRead
      .slotRead (slotAddress p.base (k + 1)) 16 := by
  simp [State.nextSlotRead, hp, hph, hk]

/-- The next candidate, with room in the intake list, is claimed (R40). -/
theorem State.nextCandidate_claims {s : State} {p : Pass} {d : Candidate} {rest : List Candidate} (hp : s.pass = some p)
    (hc : p.candidates = d :: rest) (hroom : s.intakeCount < 8) :
    s.nextCandidate = ({ s with pass := some { p with candidates := rest, current := some d, place := true, phase := .claim } } :
      State).request (claimRequest d) := by
  have hcount : decide (s.intakeCount < Config.intakePlaces) = true := decide_eq_true hroom
  simp only [State.nextCandidate, hp, hc, hcount, if_true]
  rfl

/-- A candidate passed over with another behind it and room in the intake list: that one is claimed. -/
theorem State.skipCandidate_claims {s : State} {p : Pass} {d : Candidate} {rest : List Candidate} (hp : s.pass = some p)
    (hplace : p.place = false ∨ s.calm) (hc : p.candidates = d :: rest) (hroom : s.intakeCount < 8) :
    s.skipCandidate = ({ s with pass := some { p with candidates := rest, current := some d, place := true, phase := .claim } } :
      State).request (claimRequest d) := by
  have hgive : s.giveUpPlace = { s with pass := some { p with place := false } } := by
    rcases hplace with h | h
    · have hpass : ({ p with place := false } : Pass) = p := by cases p; simp_all
      rw [State.giveUpPlace, if_neg (by simp [hp, h]), hpass, ← hp]
    · exact State.giveUpPlace_of_calm h rfl hp
  rw [State.skipCandidate, hgive, State.nextCandidate_claims (s := { s with pass := some { p with place := false } }) rfl hc hroom]

/-! ## Stop word readings (R58, R60, R117, R124) -/

theorem exec_passEndReadingDone_of_serves {s : State} {i : StationId} {n : Nat} (stop : Word) (h : s.serves (.passEnd i) n) :
    exec (.passEndReadingDone stop) s = (s.endRequest.passEndRead i (stop != 0)).done := by
  obtain ⟨_, r, hr, hp, _⟩ := h
  simp [exec, execPassEndReadingDone, State.completed, hr, hp]

theorem exec_boundaryReadingDone_of_serves {s : State} {i : StationId} {n : Nat} (stop : Word)
    (h : s.serves (.boundary i) n) :
    exec (.boundaryReadingDone stop) s = (s.endRequest.boundaryRead i (stop != 0)).done := by
  obtain ⟨_, r, hr, hp, _⟩ := h
  simp [exec, execBoundaryReadingDone, State.completed, hr, hp]

theorem exec_bandReadingDone_of_serves {s : State} {i : StationId} {n : Nat} (stop : Word) (h : s.serves (.band i) n) :
    exec (.bandReadingDone stop) s = (s.endRequest.bandRead i (stop != 0)).done := by
  obtain ⟨_, r, hr, hp, _⟩ := h
  simp [exec, execBandReadingDone, State.completed, hr, hp]

/-- A boundary read without a stop, no QUICK due: the decision follows (R116). -/
theorem State.boundaryRead_decides {s : State} {i : StationId} (ha : (s.st i).activity = .boundaryReading)
    (hq : (s.cal i).quickDue = false) : s.boundaryRead i false = s.nextArea i := by
  simp [State.boundaryRead, ha, State.boundaryDecision, hq]

/-! ## A page entry's read fault (R23) -/

/-- The page is reached, its frame voided, and the station positioned for its void pass. -/
theorem State.voidUnread_eq {s : State} {i : StationId} {j : Job} {sh : Sheet} (hj : s.attached i = some j)
    (hsh : (s.st i).sheet = some sh) : (s.reachPage i).voidUnread i j.nextPage =
      (s.updJob j.slotAddr Job.reached).updSt i (fun x => { x with
        activity := .positioning .voidPass, moveOut := true,
        head := .at (headForFrame (j.layout.left sh.nextPos) sh.offset), filmY := j.layout.top sh.nextPos,
        sheet := some { sh with
          openEntry := some (newEntry j sh sh.nextPos (some j.nextPage) spaceKey .voidRead), nextPos := sh.nextPos + 1 } }) := by
  obtain ⟨hreach, hatt⟩ := State.reachPage_spec hj
  have hsheet : ((s.reachPage i).st i).sheet = some sh := by rw [hreach]; exact hsh
  simp only [State.voidUnread, hatt, hsheet, State.openFrame, State.updSheet, State.positionFrame, State.position,
    State.updSt_updSt]
  rw [hreach]
  exact State.updSt_congr (by simp [hsh]; exact ⟨rfl, rfl, rfl⟩)

/-! ## A row's read fault (R101) -/

/-- The band that is being filled. -/
def Station.fillingBand (x : Station) : Nat := if x.bufA.state = .filling then x.bufA.band else x.bufB.band

/-- The station with the band that is being filled FAILED. -/
def Station.bandFailed (x : Station) : Station :=
  if x.bufA.state = .filling then { x with bufA := { x.bufA with state := .failed, rows := [] } }
  else { x with bufB := { x.bufB with state := .failed, rows := [] } }

/-- The station with its frame voided VOID_READ: the mapping context ended, both buffers FREE. -/
def Station.voided (x : Station) : Station := { x with
  mapping := none, bufA := .empty, bufB := .empty,
  sheet := x.sheet.map (fun sh => { sh with openEntry := sh.openEntry.map (fun e => { e with status := .voidRead }) }) }

@[simp] theorem Station.bandFailed_activity (x : Station) : x.bandFailed.activity = x.activity := by
  unfold Station.bandFailed; split <;> rfl
@[simp] theorem Station.voided_bandFailed (x : Station) : x.bandFailed.voided = x.voided := by
  unfold Station.bandFailed Station.voided; split <;> rfl

/-- A mapping context ended with no request of its row channel left, and its frame voided. -/
theorem State.endMapping_voided {s : State} {i : StationId} (ha : s.port.arriving = [])
    (hl : ∀ r ∈ s.port.list, r.purpose ≠ .row i) :
    (s.endMapping i).updEntry i (fun e => { e with status := .voidRead }) = s.updSt i Station.voided := by
  rw [State.endMapping, State.withdraw_of_none (by simp [ha]) (by simpa using hl)]
  exact State.updSt_updSt _ _ _ _

/-- The buffer being filled carries that band, and marking it FAILED gives the station with its band FAILED. -/
theorem Station.filling_spec {x : Station} (h : x.bufA.state = .filling ∨ x.bufB.state = .filling) :
    ∃ b, x.filling = some b ∧ b.band = x.fillingBand ∧
      x.setFilling { b with state := .failed, rows := [] } = x.bandFailed := by
  by_cases hA : x.bufA.state = .filling
  · exact ⟨x.bufA, by simp [Station.filling, hA], by simp [Station.fillingBand, hA],
      by simp [Station.setFilling, Station.bandFailed, hA]⟩
  · exact ⟨x.bufB, by simp [Station.filling, hA, h.resolve_left hA], by simp [Station.fillingBand, hA],
      by simp [Station.setFilling, Station.bandFailed, hA]⟩

section
variable {s : State} {i : StationId} (h : (s.st i).bufA.state = .filling ∨ (s.st i).bufB.state = .filling)
include h

/-- A row's read fault at band 0 voids the frame before its exposure. -/
theorem State.readFault_first (hb : (s.st i).fillingBand = 0) :
    s.readFault i = (s.updSt i Station.bandFailed).voidBeforeExposure i := by
  obtain ⟨b, hf, hband, hset⟩ := Station.filling_spec h
  have hst : s.updSt i (fun x => x.setFilling { b with state := .failed, rows := [] }) = s.updSt i Station.bandFailed :=
    State.updSt_congr hset
  simp only [State.readFault, hf, hst]
  rw [if_pos (hband.trans hb)]

/-- A row's read fault at a later band aborts the frame whose film is held for that band. -/
theorem State.readFault_held {k : Nat} (hb : (s.st i).fillingBand = k + 1) (ha : (s.st i).activity = .lineHold k) :
    s.readFault i = (s.updSt i Station.bandFailed).abortFrame i .voidRead := by
  obtain ⟨b, hf, hband, hset⟩ := Station.filling_spec h
  have hst : s.updSt i (fun x => x.setFilling { b with state := .failed, rows := [] }) = s.updSt i Station.bandFailed :=
    State.updSt_congr hset
  simp only [State.readFault, hf, hst, ha]
  rw [if_neg (by omega), if_pos (hband.trans hb)]

/-- A row's read fault at a later band that no held film waits for marks the band FAILED and no more. -/
theorem State.readFault_later (hb : (s.st i).fillingBand ≠ 0)
    (ha : ∀ k, (s.st i).activity = .lineHold k → (s.st i).fillingBand ≠ k + 1) :
    s.readFault i = s.updSt i Station.bandFailed := by
  obtain ⟨b, hf, hband, hset⟩ := Station.filling_spec h
  have hst : s.updSt i (fun x => x.setFilling { b with state := .failed, rows := [] }) = s.updSt i Station.bandFailed :=
    State.updSt_congr hset
  simp only [State.readFault, hf, hst]
  rw [if_neg (by omega)]
  split
  next k hk => rw [if_neg (hband ▸ ha k hk)]
  all_goals rfl

end

/-- A frame held for its failed band is aborted VOID_READ (R101). -/
theorem State.abortFrame_voidRead {s : State} {i : StationId} (ha : s.port.arriving = [])
    (hl : ∀ r ∈ s.port.list, r.purpose ≠ .row i) : (s.updSt i Station.bandFailed).abortFrame i .voidRead =
      s.updSt i (fun x => { x.voided with
        activity := .returnMove, moveOut := true, drive := [], driveSaturated := 0, bandReading := none }) := by
  rw [State.abortFrame, State.endMapping_voided (s := s.updSt i Station.bandFailed) ha hl, State.updSt_updSt, State.updSt_updSt]
  exact State.updSt_congr (by simp)

/-- A frame voided while its station positions it is positioned for the void pass (log 18). -/
theorem State.voidBeforeExposure_positions {s : State} {i : StationId} (ha : s.port.arriving = [])
    (hl : ∀ r ∈ s.port.list, r.purpose ≠ .row i) (hact : (s.st i).activity = .positioning .page) :
    (s.updSt i Station.bandFailed).voidBeforeExposure i =
      s.updSt i (fun x => { x.voided with activity := .positioning .voidPass }) := by
  have hfailed : ((s.updSt i Station.bandFailed).st i).activity = .positioning .page := by simp [hact]
  simp only [State.voidBeforeExposure, hfailed]
  rw [State.endMapping_voided (s := s.updSt i Station.bandFailed) ha hl, State.updSt_updSt, State.updSt_updSt]
  exact State.updSt_congr (by simp)

/-- A frame voided while its station waits for band 0 has its permit asked for at once (log 18). -/
theorem State.voidBeforeExposure_asks {s : State} {i : StationId} (ha : s.port.arriving = [])
    (hl : ∀ r ∈ s.port.list, r.purpose ≠ .row i) (hact : (s.st i).activity = .bandWait) :
    (s.updSt i Station.bandFailed).voidBeforeExposure i = (s.updSt i Station.voided).askPermit i .voidPass := by
  have hfailed : ((s.updSt i Station.bandFailed).st i).activity = .bandWait := by simp [hact]
  simp only [State.voidBeforeExposure, hfailed]
  rw [State.endMapping_voided (s := s.updSt i Station.bandFailed) ha hl, State.updSt_updSt]
  exact congrArg (State.askPermit · i .voidPass) (State.updSt_congr (by simp))

/-! ## A lost DONE (R49) -/

/-- DONE lost of a completion alone on the list: its slot is released and its context discarded. -/
theorem State.doneLost_alone {s : State} {a : Addr} (ht : s.tasks = [.completion a]) (hw : s.waiters = []) :
    s.doneLost = { s with
      lostDone := true, alertCount := min 255 (s.alertCount + 1), held := s.held.filter (fun h => h.addr != a),
      tasks := [], plan := [], jobs := s.jobs.filter (fun j => j.slotAddr != a) } := by
  have hdrop : (({ s with lostDone := true } : State).alert).dropHeld =
      { s with lostDone := true, alertCount := min 255 (s.alertCount + 1), held := s.held.filter (fun h => h.addr != a) } := by
    simp only [State.dropHeld, State.alert, ht]
    rfl
  rw [State.doneLost, hdrop]
  exact State.leaveTask_alone (s := { s with
    lostDone := true, alertCount := min 255 (s.alertCount + 1), held := s.held.filter (fun h => h.addr != a) }) ht hw

/-! ## The statement -/

section
variable {s : State} {n : Nat} {i : StationId}

/-- The port error of a station's request that changes nothing but that station. -/
theorem exec_transferTimeout_updSt {p : Purpose} {f : Station → Station} (h : s.serves p n)
    (hf : s.portErrored.portError p = s.portErrored.updSt i f) : exec .transferTimeout s = .next { s with
      portErr := true, port := s.portAfter [], stations := (s.updSt i f).stations } := by
  rw [exec_transferTimeout_of_serves h, hf]
  exact State.done_endRequest_none h.1 rfl rfl

/-- The void pass of a frame that waited for its failed band 0 begins at once with a permit free. -/
theorem exec_transferTimeout_voidPass (h : s.serves (.row i) n)
    (hf : s.portErrored.readFault i = (s.portErrored.updSt i Station.voided).askPermit i .voidPass)
    (hh : i ∉ s.permitHolders) (hq : i ∉ s.permitQueue) (hfree : s.permitHolders.length < 2) :
    ∃ t, exec .transferTimeout s = .next t ∧ t = { s with
        portErr := true, port := s.portAfter [], permitHolders := s.permitHolders ++ [i], stations := t.stations } ∧
      (t.st i) = { (s.st i).voided.agedWhen (s.cal i).due with
        state := .exposing, activity := .line .voidPass 0, drive := (t.lineDwells i .voidPass 0).1,
        driveSaturated := (t.lineDwells i .voidPass 0).2 } ∧ ∀ q, q ≠ i → t.st q = s.st q := by
  let w : State := ({ s.portErrored.updSt i Station.voided with permitHolders := s.permitHolders ++ [i] } : State).updSt i
    (fun x => { x with state := .exposing, activity := .permitWait .voidPass })
  let v : State := w.updSt i (fun x => x.agedWhen (s.cal i).due)
  have hstart : s.portErrored.portError (.row i) = v.driveLine i .voidPass 0 := by
    refine hf.trans ((State.askPermit_granted (s := s.portErrored.updSt i Station.voided) .voidPass hh hq hfree).trans ?_)
    exact State.startLine_drives (s := w) (.inl (by decide))
  have hdwells : (v.driveLine i .voidPass 0).lineDwells i .voidPass 0 = v.lineDwells i .voidPass 0 :=
    State.driveLine_lineDwells _ _ _ _
  have hvoided : (s.portErrored.updSt i Station.voided).st i = (s.st i).voided := State.st_updSt_same _ _ _
  have hw : w.st i = { (s.st i).voided with state := .exposing, activity := .permitWait .voidPass } :=
    hvoided ▸ State.st_updSt_same _ _ _
  have hv : v.st i = ({ (s.st i).voided with state := .exposing, activity := .permitWait .voidPass } : Station).agedWhen
      (s.cal i).due := hw ▸ State.st_updSt_same _ _ _
  refine ⟨_, by rw [exec_transferTimeout_of_serves h, hstart]; exact State.done_endRequest_none h.1 rfl rfl, rfl, ?_, fun q hq => ?_⟩
  · show (v.driveLine i .voidPass 0).st i = ({ (s.st i).voided.agedWhen (s.cal i).due with
      state := .exposing, activity := .line .voidPass 0, drive := ((v.driveLine i .voidPass 0).lineDwells i .voidPass 0).1,
      driveSaturated := ((v.driveLine i .voidPass 0).lineDwells i .voidPass 0).2 } : Station)
    rw [hdwells, State.driveLine, State.st_updSt_same, hv]
    rfl
  · show (v.driveLine i .voidPass 0).st q = s.st q
    rw [State.driveLine, State.st_updSt_other _ _ hq, State.st_updSt_other _ _ hq, State.st_updSt_other _ _ hq]
    exact State.st_updSt_other s.portErrored _ hq

/-- A slot whose read failed is skipped (R38). -/
theorem exec_transferTimeout_slotRead {p : Pass} {k : Nat} (h : s.serves .slotRead n) (hp : s.pass = some p)
    (hph : p.phase = .slotRead k) (hk : k + 1 < p.slots) : exec .transferTimeout s = .next { s with
      portErr := true, port := s.portAfter [readRequest .slotRead (slotAddress p.base (k + 1)) 16],
      pass := some { p with phase := .slotRead (k + 1) } } := by
  have hnext : s.portErrored.portError .slotRead = _ := State.nextSlotRead_next (s := s.portErrored) hp hph hk
  rw [exec_transferTimeout_of_serves h, hnext]
  exact State.done_requestRead _ _ _ h.1 rfl rfl

/-- A candidate whose kind or slot could not be read is skipped (R40, R41). -/
theorem exec_transferTimeout_candidate {p : Pass} {d : Candidate} {rest : List Candidate}
    (h : s.serves .kindPeek n ∨ s.serves .claim n) (hp : s.pass = some p) (hplace : p.place = false ∨ s.calm)
    (hc : p.candidates = d :: rest) (hroom : s.intakeCount < 8) : exec .transferTimeout s = .next { s with
      portErr := true, port := s.portAfter [claimRequest d],
      pass := some { p with candidates := rest, current := some d, place := true, phase := .claim } } := by
  have hskip := State.skipCandidate_claims (s := s.portErrored) hp (hplace.imp_right State.portErrored_calm) hc
    (s.portErrored_intakeCount ▸ hroom)
  have hdone := State.done_withRequests (s := s) (l := [claimRequest d]) (u := { s.portErrored with
    pass := some { p with candidates := rest, current := some d, place := true, phase := .claim } })
  rcases h with h | h
  all_goals
    rw [exec_transferTimeout_of_serves h, State.portError, hskip]
    exact hdone h.1 rfl rfl (Nat.le_refl 1)

/-- A ticket whose record could not be read ends unreadable (R42). -/
theorem exec_transferTimeout_ticket {p : Pass} {c : Candidate} (h : s.serves .ticketHead n ∨ s.serves .ticketRest n)
    (hp : s.pass = some p) (hcur : p.current = some c) (hcalm : s.calm) : ∃ t, exec .transferTimeout s = .next t ∧
      ({ s with portErr := true } : State).ticketEnds t c .ticketUnreadable .none 0 := by
  have hends := State.endTicket_ends (s := { s with portErr := true }) (u := s.portErrored) .ticketUnreadable .none 0
    rfl rfl rfl (State.calm_of_view hcalm rfl) hp hcur
  rcases h with h | h
  all_goals rw [exec_transferTimeout_of_serves h]; exact hends

/-- A tone image that could not be read discards the staging table, and its ticket ends unreadable (R104). -/
theorem exec_transferTimeout_toneImage {p : Pass} {c : Candidate} (h : s.serves .toneImage n) (hp : s.pass = some p)
    (hcur : p.current = some c) (hcalm : s.calm) : ∃ t, exec .transferTimeout s = .next t ∧
      ({ s with portErr := true, staging := [] } : State).ticketEnds t c .ticketUnreadable .none 0 := by
  rw [exec_transferTimeout_of_serves h]
  exact State.endTicket_ends (s := { s with portErr := true, staging := [] }) (u := s.portErrored.discardStaging) _ _ _
    rfl rfl rfl (State.calm_of_view hcalm rfl) hp hcur

/-- An output goes on with its next piece (R31). -/
theorem exec_transferTimeout_output {p : Pass} {w w' : Addr × List Byte} {rest : List (Addr × List Byte)} {k : Nat}
    (h : s.serves .output n) (hp : s.pass = some p) (hph : p.phase = .output (w :: w' :: rest) k) :
    exec .transferTimeout s = .next { s with
      portErr := true, port := s.portAfter [writeRequest .output w'.1 w'.2],
      pass := some { p with phase := .output (w' :: rest) k } } := by
  have hnext : s.portErrored.portError .output = _ := State.nextOutput_writes (s := s.portErrored) hp hph
  rw [exec_transferTimeout_of_serves h, hnext]
  exact State.done_requestWrite _ _ _ h.1 rfl rfl

/-- An output whose last piece failed ends its service with the length counted before (R31). -/
theorem exec_transferTimeout_lastOutput {p : Pass} {c : Candidate} {w : Addr × List Byte} {k : Nat}
    (h : s.serves .output n) (hcalm : s.calm) (hp : s.pass = some p) (hcur : p.current = some c)
    (hph : p.phase = .output [w] k) : ∃ t, exec .transferTimeout s = .next t ∧
      ({ s with portErr := true } : State).ticketEnds t c .doneOk .none k := by
  have hnext : s.portErrored.portError .output = _ := State.nextOutput_ends (s := s.portErrored) hp hph
  rw [exec_transferTimeout_of_serves h, hnext]
  exact State.endTicket_ends (s := { s with portErr := true }) _ _ _ rfl rfl rfl
    (State.calm_of_view hcalm rfl) hp hcur

/-- A completion's buffer write that failed: the task goes on with its next write (R47). -/
theorem exec_transferTimeout_completionWrite {w w' : PlannedWrite} {rest : List PlannedWrite} {k : Task} {ks : List Task}
    (h : s.serves .completionWrite n) (hplan : s.plan = w :: w' :: rest) (htasks : s.tasks = k :: ks) (hw : w.kind = .buffer)
    (hw' : w'.kind ≠ .done) : exec .transferTimeout s = .next { s with
      portErr := true, port := s.portAfter [writeRequest .completionWrite w'.addr w'.data], plan := w' :: rest } := by
  have hnext : s.portErrored.portError .completionWrite =
      ({ s.portErrored with plan := w' :: rest } : State).requestWrite .completionWrite w'.addr w'.data := by
    rw [State.portError, State.nextWrite_issues (s := s.portErrored) hplan htasks, if_neg hw', State.countedJobs,
      if_neg (by simp [hw])]
  rw [exec_transferTimeout_of_serves h, hnext]
  exact State.done_requestWrite _ _ _ h.1 rfl rfl

/-- The DONE of a completion alone on the list is lost (R49). -/
theorem exec_transferTimeout_doneWrite {a : Addr} (h : s.serves .doneWrite n) (htasks : s.tasks = [.completion a])
    (hwait : s.waiters = []) : exec .transferTimeout s = .next { s with
      portErr := true, lostDone := true, alertCount := min 255 (s.alertCount + 1), port := s.portAfter [],
      held := s.held.filter (fun h => h.addr != a), tasks := [], plan := [],
      jobs := s.jobs.filter (fun j => j.slotAddr != a) } := by
  have hlost : s.portErrored.portError .doneWrite = _ := State.doneLost_alone (s := s.portErrored) htasks hwait
  rw [exec_transferTimeout_of_serves h, hlost]
  exact State.done_endRequest_none h.1 rfl rfl

/-- A boundary's stop word unreadable: the decision follows, here for the next page, whose entry is read (R116). -/
theorem exec_transferTimeout_boundary {j : Job} {sh : Sheet} (h : s.serves (.boundary i) n)
    (hact : (s.st i).activity = .boundaryReading) (hj : s.attached i = some j) (hsh : (s.st i).sheet = some sh)
    (hquick : (s.cal i).quickDue = false) (htitle : sh.titleDone = true) (hstop : j.stopSeen = false)
    (hpos : sh.nextPos < j.frames) (hpage : j.nextPage < j.pageCount) : exec .transferTimeout s = .next { s with
      portErr := true, port := s.portAfter [readRequest (.pageEntry i) (addrPlus j.ticket (0xD0 + 48 * j.nextPage)) 32],
      stations := (s.updSt i (fun x => { x with activity := .entryRead })).stations } := by
  have hdecides : s.portErrored.portError (.boundary i) = _ :=
    (State.boundaryRead_decides (s := s.portErrored) hact hquick).trans
      (State.nextArea_readsEntry (s := s.portErrored) hj hsh htitle hstop hpos hpage)
  rw [exec_transferTimeout_of_serves h, hdecides]
  exact State.done_requestRead _ _ _ h.1 rfl rfl

/-- A page entry unreadable: the page is reached, and the station positioned for its frame's void pass (R23). -/
theorem exec_transferTimeout_pageEntry {j : Job} {sh : Sheet} (h : s.serves (.pageEntry i) n) (hj : s.attached i = some j)
    (hsh : (s.st i).sheet = some sh) : exec .transferTimeout s = .next { s with
      portErr := true, port := s.portAfter [], jobs := (s.updJob j.slotAddr Job.reached).jobs,
      stations := (s.updSt i (fun x => { x with
        activity := .positioning .voidPass, moveOut := true,
        head := .at (headForFrame (j.layout.left sh.nextPos) sh.offset), filmY := j.layout.top sh.nextPos,
        sheet := some { sh with
          openEntry := some (newEntry j sh sh.nextPos (some j.nextPage) spaceKey .voidRead),
          nextPos := sh.nextPos + 1 } })).stations } := by
  have hvoid : s.portErrored.portError (.pageEntry i) = (s.portErrored.reachPage i).voidUnread i j.nextPage := by
    have hj' : s.portErrored.attached i = some j := hj
    simp only [State.portError, hj']
  rw [exec_transferTimeout_of_serves h, hvoid, State.voidUnread_eq (s := s.portErrored) hj hsh]
  exact State.done_endRequest_none h.1 rfl rfl

/-- The frame that waited for its failed band 0 waits for a permit when none is free. -/
theorem exec_transferTimeout_waits (h : s.serves (.row i) n)
    (hf : s.portErrored.readFault i = (s.portErrored.updSt i Station.voided).askPermit i .voidPass)
    (hh : i ∉ s.permitHolders) (hq : i ∉ s.permitQueue) (hfull : 2 ≤ s.permitHolders.length) :
    exec .transferTimeout s = .next { s with
      portErr := true, port := s.portAfter [], permitQueue := s.permitQueue ++ [i],
      stations := (s.updSt i (fun x => { x.voided with activity := .permitWait .voidPass })).stations } := by
  have hwaits : s.portErrored.portError (.row i) = _ :=
    hf.trans (State.askPermit_waits (s := s.portErrored.updSt i Station.voided) .voidPass hh hq hfull)
  have hst : ((s.updSt i Station.voided).updSt i (fun x => { x with activity := .permitWait .voidPass })).stations =
      (s.updSt i (fun x => { x.voided with activity := .permitWait .voidPass })).stations :=
    congrArg State.stations (State.updSt_updSt _ _ _ _)
  rw [exec_transferTimeout_of_serves h, hwaits, ← hst]
  exact State.done_endRequest_none h.1 rfl rfl

end

/-- A stop word unreadable is a stop word of 0 (R58, R60, R117, R124). -/
theorem exec_transferTimeout_reading (s : State) (n : Nat) (i : StationId) :
    let as (c : Instr) : Prop := exec .transferTimeout s = exec c { s with portErr := true }
    (s.serves (.decision i) n → as (.loadDecision 0)) ∧ (s.serves (.passEnd i) n → as (.passEndReadingDone 0)) ∧
    (s.serves (.boundary i) n → as (.boundaryReadingDone 0)) ∧ (s.serves (.band i) n → as (.bandReadingDone 0)) := by
  refine ⟨fun h => ?_, fun h => ?_, fun h => ?_, fun h => ?_⟩
  · exact (exec_transferTimeout_of_serves h).trans (exec_loadDecision_of_serves (s := { s with portErr := true }) 0 h).symm
  · exact (exec_transferTimeout_of_serves h).trans (exec_passEndReadingDone_of_serves (s := { s with portErr := true }) 0 h).symm
  · exact (exec_transferTimeout_of_serves h).trans (exec_boundaryReadingDone_of_serves (s := { s with portErr := true }) 0 h).symm
  · exact (exec_transferTimeout_of_serves h).trans (exec_bandReadingDone_of_serves (s := { s with portErr := true }) 0 h).symm

/-- Settles O53: the port error in general, then what each channel does of it. -/
theorem timeoutIsAPortError : Obligations.TimeoutIsAPortError := by
  refine ⟨fun s => ?_, fun s n i => ?_, fun s n i => ?_⟩
  · exact ⟨exec_transferTimeout_idle, fun r => exec_transferTimeout_discarded,
      fun n p k => exec_transferTimeout_slotRead, fun n p d rest => exec_transferTimeout_candidate,
      fun n p c => exec_transferTimeout_ticket, fun n p c => exec_transferTimeout_toneImage,
      fun n p c k w h hcalm hp hcur => ⟨fun w' rest => exec_transferTimeout_output h hp,
        exec_transferTimeout_lastOutput h hcalm hp hcur⟩,
      fun n w w' rest a ks => exec_transferTimeout_completionWrite, fun n a => exec_transferTimeout_doneWrite⟩
  · obtain ⟨hdecision, hpassEnd, hboundary, hband⟩ := exec_transferTimeout_reading s n i
    exact ⟨hdecision, hpassEnd, hboundary, hband, fun j sh => exec_transferTimeout_boundary⟩
  · refine ⟨fun j sh => exec_transferTimeout_pageEntry, fun h hfill hrows => ?_⟩
    have ha : s.portErrored.port.arriving = [] := by simp [State.portErrored, State.endRequest, h.1]
    have hl : ∀ r ∈ s.portErrored.port.list, r.purpose ≠ .row i := by simpa [State.portErrored, State.endRequest] using hrows
    refine ⟨fun hb hact => ?_, fun hb hact hh hq => ?_, fun hb hact => ?_, fun hb hact => ?_⟩
    · exact exec_transferTimeout_updSt h ((State.readFault_first (s := s.portErrored) hfill hb).trans
        (State.voidBeforeExposure_positions ha hl hact))
    · have hf := (State.readFault_first (s := s.portErrored) hfill hb).trans (State.voidBeforeExposure_asks ha hl hact)
      refine ⟨exec_transferTimeout_waits h hf hh hq, fun hfree => ?_⟩
      obtain ⟨t, hdone, ht, hi, hothers⟩ := exec_transferTimeout_voidPass h hf hh hq hfree
      refine ⟨t, hdone, ht, by rw [hi], by rw [hi], by rw [hi], by rw [hi]; rfl, ?_, hothers⟩
      rw [hi]
      cases hsh : (s.st i).sheet with
      | none => simp [Station.agedWhen, Station.voided, hsh]
      | some sh => cases ho : sh.openEntry <;> simp [Station.agedWhen, Station.voided, hsh, ho]
    · exact exec_transferTimeout_updSt h (State.readFault_later (s := s.portErrored) hfill hb hact)
    · have hband : (s.st i).fillingBand = (s.st i).fillingBand - 1 + 1 := by
        have hne : (s.st i).fillingBand ≠ 0 := hb
        omega
      exact exec_transferTimeout_updSt h ((State.readFault_held (s := s.portErrored) hfill hband hact).trans
        (State.abortFrame_voidRead ha hl))

end Sys2Proof.Machine
end

section
/-! PROOFS. The rest of a ticket (R42): a service ticket past its checks or refused, and a fiche ticket refused, or made a
job context that ends NO_STOCK, waits in the intake list or is attached to a station (R51 to R58). -/

namespace Sys2Proof.Machine

/-! ## The whole ticket -/

/-- The whole ticket of a candidate, when the claim phase stands in the rest's read. -/
theorem exec_ticketRestReadDone_of_serves {s : State} {p : Pass} {n : Nat} {head data : List Byte} (h : s.serves .ticketRest n)
    (hd : data.length = n) (hp : s.pass = some p) (hph : p.phase = .ticketRest head) :
    exec (.ticketRestReadDone data) s = (s.endRequest.takeTicket head data).done := by
  obtain ⟨r, _, _, _, he⟩ := State.completed_of_serves (answers := answersRead .ticketRest data)
    (act := fun _ s => match s.pass with
      | some p => match p.phase with
        | .ticketRest head => s.takeTicket head data
        | _ => s
      | none => s) h (fun r hr hn => by simp [answersRead, hr, hn, hd])
  simp only [State.endRequest_pass, hp, hph] at he
  exact he

/-- A fiche ticket (R42). -/
theorem State.takeTicket_fiche {s : State} {p : Pass} {c : Candidate} {head : List Byte} (data : List Byte)
    (hp : s.pass = some p) (hcur : p.current = some c) (hk : field head 0 2 = 1) :
    s.takeTicket head data = s.takeFiche c (head ++ data) := by
  have hkind : ticketKind head = ficheKind := hk
  simp [State.takeTicket, hp, hcur, hkind]

/-- A service ticket (R30, R42). -/
theorem State.takeTicket_service {s : State} {p : Pass} {c : Candidate} {k : ServiceKind} {head : List Byte} (data : List Byte)
    (hp : s.pass = some p) (hcur : p.current = some c) (hk : serviceKindOf (field head 0 2) = some k) :
    s.takeTicket head data = s.takeService (readService k (head ++ data)) := by
  have hkind : serviceKindOf (ticketKind head) = some k := hk
  have hfiche : ticketKind head ≠ ficheKind := by
    intro h
    rw [h] at hkind
    cases hkind
  simp [State.takeTicket, hp, hcur, hfiche, hkind]

/-! ## A service ticket (R30, R34, R42) -/

/-- A TONE_LOAD past its check has its image read (log 12). -/
theorem State.takeService_readsImage {s : State} {p : Pass} {v : Service} (hp : s.pass = some p)
    (hv : serviceCheck v = .none) (hk : v.kind = .toneLoad) : s.takeService v =
      ({ s with pass := some { p with phase := .toneImage v } } : State).requestRead .toneImage (align4 v.p1) 512 := by
  simp [State.takeService, hv, hk, State.updPass, hp]

/-- Any other service past its check stands ready to execute (log 4). -/
theorem State.takeService_stands {s : State} {p : Pass} {v : Service} (hp : s.pass = some p) (hv : serviceCheck v = .none)
    (hk : v.kind ≠ .toneLoad) : s.takeService v = { s with pass := some { p with phase := .service v } } := by
  simp [State.takeService, hv, hk, State.updPass, hp]

/-- A service that fails its check ends with the check's reason. -/
theorem State.takeService_refuses {s : State} {v : Service} {r : Reason} (hv : serviceCheck v = r) (hr : r ≠ .none) :
    s.takeService v = s.endTicket .refusedTicket r 0 := by
  subst hv
  unfold State.takeService
  split
  next h => exact absurd h hr
  next => rfl

/-- The selector of a CAL_REQUEST names a calibration (R42). -/
theorem serviceCheck_calRequest {v : Service} (hk : v.kind = .calRequest) :
    serviceCheck v = if v.selector = 1 ∨ v.selector = 2 then .none else .kind := by
  simp [serviceCheck, hk]

/-- The selector of a TONE_LOAD names a tone table (R42). -/
theorem serviceCheck_toneLoad {v : Service} (hk : v.kind = .toneLoad) :
    serviceCheck v = if 3 < v.selector then .toneIndex else .none := by
  simp [serviceCheck, hk]

/-- The other services have no check. -/
theorem serviceCheck_other {v : Service} (ht : v.kind ≠ .toneLoad) (hc : v.kind ≠ .calRequest) : serviceCheck v = .none := by
  unfold serviceCheck
  split
  next h => exact absurd h ht
  next h => exact absurd h hc
  next => rfl

/-- TICKET_REST_READ_DONE of a service ticket: its image read, ready to execute, or refused. -/
theorem exec_ticketRestReadDone_service {s : State} {p : Pass} {c : Candidate} {k : ServiceKind} {head data : List Byte}
    (hserves : s.serves .ticketRest 16) (hd : data.length = 16) (hp : s.pass = some p) (hph : p.phase = .ticketRest head)
    (hcur : p.current = some c) (hk : serviceKindOf (field head 0 2) = some k) (hcalm : s.calm) :
    (k ≠ .toneLoad → (k = .calRequest → field (head ++ data) 3 1 = 1 ∨ field (head ++ data) 3 1 = 2) →
      exec (.ticketRestReadDone data) s = .next { s with
        port := s.portAfter [], pass := some { p with phase := .service (readService k (head ++ data)) } }) ∧
    (k = .toneLoad → field (head ++ data) 3 1 ≤ 3 → exec (.ticketRestReadDone data) s = .next { s with
      port := s.portAfter [readRequest .toneImage (wordField (head ++ data) 4 &&& ~~~3#32) 512],
      pass := some { p with phase := .toneImage (readService k (head ++ data)) } }) ∧
    (k = .toneLoad → 3 < field (head ++ data) 3 1 → ∃ t, exec (.ticketRestReadDone data) s = .next t ∧
      s.ticketEnds t c .refusedTicket .toneIndex 0) ∧
    (k = .calRequest → field (head ++ data) 3 1 ≠ 1 → field (head ++ data) 3 1 ≠ 2 →
      ∃ t, exec (.ticketRestReadDone data) s = .next t ∧ s.ticketEnds t c .refusedTicket .kind 0) := by
  let v := readService k (head ++ data)
  rw [exec_ticketRestReadDone_of_serves hserves hd hp hph, State.takeTicket_service (s := s.endRequest) data hp hcur hk]
  have hrefuses : ∀ r, serviceCheck v = r → r ≠ .none →
      ∃ t, (s.endRequest.takeService v).done = .next t ∧ s.ticketEnds t c .refusedTicket r 0 := by
    intro r hr hne
    rw [State.takeService_refuses hr hne]
    exact State.endTicket_ends _ _ _ rfl rfl rfl hcalm hp hcur
  refine ⟨fun hk' hsel => ?_, fun hk' hsel => ?_, fun hk' hsel => ?_, fun hk' h1 h2 => ?_⟩
  · have hcheck : serviceCheck v = .none := by
      by_cases hcal : k = .calRequest
      · exact (serviceCheck_calRequest (v := v) hcal).trans (if_pos (hsel hcal))
      · exact serviceCheck_other hk' hcal
    rw [State.takeService_stands (s := s.endRequest) (v := v) hp hcheck hk']
    exact State.done_endRequest_none hserves.1 rfl rfl
  · have hcheck : serviceCheck v = .none := (serviceCheck_toneLoad (v := v) hk').trans (if_neg (Nat.not_lt.2 hsel))
    rw [State.takeService_readsImage (s := s.endRequest) (v := v) hp hcheck hk']
    exact State.done_requestRead _ _ _ hserves.1 rfl rfl
  · exact hrefuses _ ((serviceCheck_toneLoad (v := v) hk').trans (if_pos hsel)) (by decide)
  · exact hrefuses _ ((serviceCheck_calRequest (v := v) hk').trans (if_neg (not_or.2 ⟨h1, h2⟩))) (by decide)

end Sys2Proof.Machine
end

section
/-! PROOFS. A job context joins the intake list (R42, R51 to R58): its place in the order of the jobs, what the dispatcher
then finds, and the job's end, wait or attach. -/

namespace Sys2Proof.Machine

/-! ## A job put at its place (R53) -/

@[simp] theorem mem_insertJob {j k : Job} : ∀ {l : List Job}, k ∈ insertJob j l ↔ k = j ∨ k ∈ l
  | [] => by simp [insertJob]
  | q :: l => by
    unfold insertJob
    split
    · rw [List.mem_cons, mem_insertJob, List.mem_cons]; exact or_left_comm
    · rw [List.mem_cons, List.mem_cons]

/-- What a job does not satisfy is found as before. -/
theorem find?_insertJob_neg {p : Job → Bool} {j : Job} (h : p j = false) :
    ∀ l : List Job, (insertJob j l).find? p = l.find? p
  | [] => by simp [insertJob, h]
  | q :: l => by
    unfold insertJob
    split
    · rw [List.find?_cons, List.find?_cons, find?_insertJob_neg h]
    · rw [List.find?_cons, h]

/-- What a job alone satisfies is found to be that job. -/
theorem find?_insertJob_pos {p : Job → Bool} {j : Job} (h : p j = true) :
    ∀ {l : List Job}, (∀ k ∈ l, p k = false) → (insertJob j l).find? p = some j
  | [], _ => by simp [insertJob, h]
  | q :: l, hl => by
    unfold insertJob
    split
    · rw [List.find?_cons, hl q List.mem_cons_self]
      exact find?_insertJob_pos h (fun k hk => hl k (List.mem_cons_of_mem _ hk))
    · rw [List.find?_cons, h]

/-- A job that satisfies `p` or not: the others that do are as many as before. -/
theorem length_filter_insertJob (p : Job → Bool) (j : Job) :
    ∀ l : List Job, ((insertJob j l).filter p).length = (l.filter p).length + bit (p j) 1
  | [] => by cases h : p j <;> simp [insertJob, h, bit]
  | q :: l => by
    unfold insertJob
    split
    · cases h : p q
      · simp [h, length_filter_insertJob p j l]
      · simp [h, length_filter_insertJob p j l]; omega
    · cases h : p j <;> simp [List.filter_cons, h, bit]

/-- A change of the job of one slot, when that is the job put in, and its place in the order stays. -/
theorem map_insertJob {f : Job → Job} {j : Job} (hpost : (f j).post = j.post) (hslot : (f j).slot = j.slot) :
    ∀ {l : List Job}, (∀ k ∈ l, k.slotAddr ≠ j.slotAddr) →
      (insertJob j l).map (fun k => if k.slotAddr = j.slotAddr then f k else k) = insertJob (f j) l
  | [], _ => by simp [insertJob]
  | q :: l, hl => by
    have hrest : ∀ k ∈ l, k.slotAddr ≠ j.slotAddr := fun k hk => hl k (List.mem_cons_of_mem _ hk)
    have hbefore : jobBefore q (f j) = jobBefore q j := by simp only [jobBefore, hpost, hslot]
    have hkeep : l.map (fun k => if k.slotAddr = j.slotAddr then f k else k) = l := by
      conv_rhs => rw [← List.map_id l]
      exact List.map_congr_left (fun k hk => if_neg (hrest k hk))
    simp only [insertJob, hbefore]
    split
    · rw [List.map_cons, if_neg (hl q List.mem_cons_self), map_insertJob hpost hslot hrest]
    · rw [List.map_cons, List.map_cons, if_pos rfl, if_neg (hl q List.mem_cons_self), hkeep]

/-- No job has a slot that has no live context. -/
theorem State.slotAddr_ne_of_job_none {s : State} {a : Addr} (h : s.job a = none) : ∀ k ∈ s.jobs, k.slotAddr ≠ a := by
  simpa [State.job] using h

/-! ## What the dispatcher finds -/

/-- No station has a job to take just when the stations and jobs are matched (R54, R55). -/
theorem State.matched_iff_nextMatch {s : State} : s.matched ↔ s.nextMatch = none := by
  simp only [State.matched, State.nextMatch_eq_none, State.oldestFit, State.intake, List.find?_eq_none, List.mem_filter,
    beq_iff_eq, Bool.and_eq_true, Option.isNone_iff_eq_none, not_and, Bool.not_eq_true]
  exact ⟨fun h i hi j hj => h i j hi hj.1 hj.2, fun h i j hi hj hq he => h i hi j ⟨hj, hq⟩ he⟩

/-- The dispatcher's next step is the match, when no event and no return comes before it. -/
theorem State.dispatchStep_match {s : State} {i : StationId} {j : Job}
    (he : s.endQueue = [] ∨ (s.dispatcherWaits = true ∧ ∀ o r l rest, s.endQueue ≠ .ticket o r l :: rest))
    (hr : s.nextReturn = none ∨ s.roomForReturn = false) (hm : s.nextMatch = some (i, j)) :
    s.dispatchStep = some (s.attach i j) := by
  unfold State.dispatchStep
  rcases he with he | ⟨hw, _⟩
  · rcases hr with hr | hr
    · cases hw : s.dispatcherWaits <;> simp [he, hr, hm]
    · cases hw : s.dispatcherWaits <;> cases hn : s.nextReturn <;> simp [he, hr, hm]
  · rcases hr with hr | hr
    · simp [hw, hr, hm]
    · cases hn : s.nextReturn <;> simp [hw, hr, hm]

/-- One step of the dispatcher that leaves it at rest. -/
theorem State.settle_of_step {s u : State} (h : s.dispatchStep = some u) (hu : u.atRest) : s.settle = u := by
  have hfuel : ∀ n, settleDispatch (n + 1) s = u := by
    intro n
    simp only [settleDispatch, h]
    exact settleDispatch_of_rest hu n
  exact hfuel _

/-- A station fits the jobs it fitted, when neither it nor its calibration tables have changed. -/
theorem State.fitsJob_congr {s u : State} {i : StationId} (hst : u.st i = s.st i) (hcal : u.cals = s.cals) (j : Job) :
    u.fitsJob i j = s.fitsJob i j := by
  unfold State.fitsJob State.cal
  rw [hst, hcal]

/-- Of the stations, the lowest with an answer gives it. -/
theorem findSome?_allStations {β : Type} {f : StationId → Option β} {i : StationId} {b : β} (hi : f i = some b)
    (hlow : ∀ k, stationNat k < stationNat i → f k = none) : allStations.findSome? f = some b := by
  cases i
  · simp [allStations, hi]
  · simp [allStations, hi, hlow .s0 (by decide)]
  · simp [allStations, hi, hlow .s0 (by decide), hlow .s1 (by decide)]
  · simp [allStations, hi, hlow .s0 (by decide), hlow .s1 (by decide), hlow .s2 (by decide)]

/-- A station that fits a job carries its stock (R54, R57). -/
theorem State.stockCarried_of_fits {s : State} {i : StationId} {j : Job} (h : s.fitsJob i j = true) :
    s.stockCarried j = true := by
  have hall : i ∈ allStations := by cases i <;> decide
  simp only [State.fitsJob, Bool.and_eq_true] at h
  exact List.any_eq_true.2 ⟨i, hall, by simp [h.1.1, h.1.2]⟩

/-- A state `u` that is the calm `s` with one job `j` put in and stations changed: what the dispatcher then looks at. -/
structure State.jobPut (s u : State) (j : Job) : Prop where
  jobs : u.jobs = insertJob j s.jobs
  cals : u.cals = s.cals
  endQueue : u.endQueue = s.endQueue
  waits : u.endQueue = [] ∨ u.waiters = s.waiters
  noReturn : j.returnPending = false

section
variable {s u : State} {j : Job}

theorem State.jobPut.events (h : s.jobPut u j) (hcalm : s.calm) :
    u.endQueue = [] ∨ (u.dispatcherWaits = true ∧ ∀ o r l rest, u.endQueue ≠ .ticket o r l :: rest) := by
  obtain ⟨he, -, -⟩ := (State.atRest_iff _).1 (State.atRest_of_calm hcalm rfl : s.atRest)
  rcases h.waits with hnil | hwait
  · exact .inl hnil
  · rw [h.endQueue, show u.dispatcherWaits = s.dispatcherWaits by simp only [State.dispatcherWaits, hwait]]
    exact he

/-- The job waits for no return, and takes no place from the returns that wait. -/
theorem State.jobPut.returns (h : s.jobPut u j) (hcalm : s.calm) : u.nextReturn = none ∨ u.roomForReturn = false := by
  obtain ⟨-, hr, -⟩ := (State.atRest_iff _).1 hcalm
  refine hr.imp (fun hr => ?_) (fun hr => ?_)
  · rw [State.nextReturn, h.jobs, find?_insertJob_neg (by simp [h.noReturn])]
    exact hr
  · have hcount : u.intakeCount = s.intakeCount + bit (j.state == .queued) 1 := by
      rw [State.intakeCount, State.intake, h.jobs]
      exact length_filter_insertJob _ _ _
    simp only [State.roomForReturn, decide_eq_false_iff_not] at hr ⊢
    have hsame : ({ s with pass := none } : State).intakeCount = s.intakeCount := rfl
    have hplace : ({ s with pass := none } : State).placeHeld = 0 := rfl
    omega

/-- A job attached to no station leaves the stations' attached jobs. -/
theorem State.jobPut.attached_of_ne (h : s.jobPut u j) {k : StationId} (hj : j.station ≠ some k) :
    u.attached k = s.attached k := by
  rw [State.attached, h.jobs, find?_insertJob_neg (by simpa using hj)]
  rfl

/-- No free station has a fitting job among the others, and one that fits `j` when it is queued is not free. -/
theorem State.jobPut.nextMatch_none (h : s.jobPut u j) (hcalm : s.calm)
    (hfree : ∀ k, u.free k = true → s.free k = true ∧ u.st k = s.st k ∧ (j.state = .queued → s.fitsJob k j = false)) :
    u.nextMatch = none := by
  obtain ⟨-, -, hm⟩ := (State.atRest_iff _).1 (State.atRest_of_calm hcalm rfl : s.atRest)
  rw [← State.matched_iff_nextMatch] at hm ⊢
  intro k q hk hq hqueued hend
  obtain ⟨hsfree, hst, hfit⟩ := hfree k hk
  rw [State.fitsJob_congr hst h.cals]
  rw [h.jobs, mem_insertJob] at hq
  rcases hq with rfl | hq
  · exact hfit hqueued
  · exact hm k q hsfree hq hqueued hend

theorem State.jobPut.atRest (h : s.jobPut u j) (hcalm : s.calm)
    (hfree : ∀ k, u.free k = true → s.free k = true ∧ u.st k = s.st k ∧ (j.state = .queued → s.fitsJob k j = false)) :
    u.atRest :=
  (State.atRest_iff _).2 ⟨h.events hcalm, h.returns hcalm, h.nextMatch_none hcalm hfree⟩

/-- The match of a queued job: the lowest free station that it fits. -/
theorem State.jobPut.nextMatch_some (h : s.jobPut u j) (hcalm : s.calm) (hst : u.stations = s.stations)
    (hstation : j.station = none) (hq : j.state = .queued) (he : j.ending = none) {i : StationId} (hi : s.free i = true)
    (hfit : s.fitsJob i j = true) (hlow : ∀ k, stationNat k < stationNat i → s.free k = true → s.fitsJob k j = false) :
    u.nextMatch = some (i, j) := by
  obtain ⟨-, -, hm⟩ := (State.atRest_iff _).1 (State.atRest_of_calm hcalm rfl : s.atRest)
  rw [← State.matched_iff_nextMatch] at hm
  have hst' : ∀ k, u.st k = s.st k := fun k => by rw [State.st, hst]; rfl
  have hfree : ∀ k, u.free k = s.free k := fun k => by
    rw [State.free, State.free, hst', h.attached_of_ne (by simp [hstation])]
  have holdest : ∀ k, u.oldestFit k = (insertJob j s.jobs).find? (fun q =>
      (q.state == .queued) && (q.ending.isNone && s.fitsJob k q)) := fun k => by
    simp only [State.oldestFit, State.intake, h.jobs, List.find?_filter, State.fitsJob_congr (hst' k) h.cals,
      Bool.decide_and, Bool.decide_eq_true]
  have hothers : ∀ k, s.free k = true → ∀ q ∈ s.jobs,
      ((q.state == .queued) && (q.ending.isNone && s.fitsJob k q)) = false := by
    intro k hk q hmem
    simpa using hm k q hk hmem
  unfold State.nextMatch
  refine findSome?_allStations (i := i) ?_ (fun k hk => ?_)
  · rw [if_pos ((hfree i).trans hi), holdest, find?_insertJob_pos (by simp [hq, he, hfit]) (hothers i hi)]
    rfl
  · by_cases hkfree : s.free k = true
    · rw [if_pos ((hfree k).trans hkfree), holdest, find?_insertJob_neg (by simp [hlow k hk hkfree]),
        List.find?_eq_none.2 (fun q hmem => by simpa using hothers k hkfree q hmem)]
      rfl
    · rw [if_neg (by rw [hfree]; exact hkfree)]

end

/-! ## The job's context admitted (R53, R57) -/

/-- The state with a job context in the intake list, its place there no longer the candidate's. -/
def State.withJob (s : State) (p : Pass) (j : Job) : State :=
  { s with jobs := insertJob j s.jobs, pass := some { p with place := false } }

theorem State.admitJob_eq {s : State} {p : Pass} {j : Job} (hp : s.pass = some p) (hnone : s.job j.slotAddr = none) :
    s.admitJob j = ((s.withJob p j).testStock j).settle := by
  simp [State.admitJob, hnone, State.updPass, hp, State.withJob]

theorem State.testStock_carried {s : State} {j : Job} (h : s.stockCarried j = true) : s.testStock j = s := by
  simp [State.testStock, h]

/-- A queued job whose stock no station carries ends (R57). -/
theorem State.testStock_ends {s : State} {j : Job} (hq : j.state = .queued) (he : j.ending = none)
    (h : s.stockCarried j = false) (hwait : s.dispatcherWaits = false) :
    s.testStock j = s.finishJob j.slotAddr .noStock := by
  simp [State.testStock, State.endJob, hq, he, h, hwait]

/-- The end of a job at no station: its completion task joins the write list (R65). -/
theorem State.finishJob_unattached {s : State} {a : Addr} {j : Job} {o : TicketOutcome} (h : s.job a = some j)
    (hj : j.station = none) : s.finishJob a o = (s.updJob a (fun k => k.finished o)).addTask (.completion a) := by
  simp [State.finishJob, h, hj]

/-! ## The attach (R56) -/

/-- The job as its attach to station `i` leaves it. -/
def Job.attachedTo (j : Job) (i : StationId) : Job := { j with station := some i, lastStation := some i, state := .attached }

/-- The reading of the stop word that a load decision begins with (R58). -/
def decisionRequest (i : StationId) (j : Job) : Request := readRequest (.decision i) (addrPlus j.slotAddr 0x0C) 4

section
variable {s : State} {i : StationId} {j : Job}

/-- The state with a job attached to a station whose doze timer stops. -/
def State.attachedJob (s : State) (i : StationId) (j : Job) : State :=
  (s.updJob j.slotAddr (fun k => k.attachedTo i)).updSt i (fun x => { x with dozeTimer := none })

theorem State.attach_eq (s : State) (i : StationId) (j : Job) : s.attach i j =
    if (s.st i).state = .dozing then (s.attachedJob i j).beginWake i else (s.attachedJob i j).readyActions i := rfl

@[simp] theorem State.attachedJob_st (s : State) (i : StationId) (j : Job) :
    (s.attachedJob i j).st i = { s.st i with dozeTimer := none } := State.st_updSt_same _ _ _

/-- A DOZING station begins its wake. -/
theorem State.attach_dozing (h : (s.st i).state = .dozing) : s.attach i j =
    (s.updJob j.slotAddr (fun k => k.attachedTo i)).updSt i (fun x => { x with
      state := .waking, dozeTimer := none, holdTimer := none, wakeFromParked := false, wakeTimer := some 50 }) := by
  have hstate : ((s.attachedJob i j).st i).state = .dozing := by simp [h]
  rw [State.attach_eq, if_pos h, State.beginWake, hstate]
  exact State.updSt_updSt _ _ _ _

/-- A CALIBRATING station goes on, and one that waits in the photometer queue waits on. -/
theorem State.attach_waits (h : (s.st i).state = .calibrating ∨ ((s.st i).state = .ready ∧ (s.st i).stacked = none ∧
    (s.cal i).marked = true ∧ i ∈ s.photometerQueue)) : s.attach i j = s.attachedJob i j := by
  rw [State.attach_eq]
  rcases h with h | ⟨h, hstacked, hmarked, hqueue⟩
  · simp [h, State.readyActions]
  · have hmarked' : ((s.attachedJob i j).cal i).marked = true := hmarked
    have hask : ∀ u : State, u.photometerQueue = s.photometerQueue → u.askPhotometer i = u := fun u hu =>
      if_pos (.inr (hu ▸ hqueue))
    rw [if_neg (by simp [h]), State.readyActions, if_pos (by simp [h, hstacked]), if_pos hmarked']
    exact Eq.trans (hask _ (by rfl)) (State.updSt_updSt _ _ _ _)

/-- A READY station runs the first load decision, which reads the stop word. -/
theorem State.attach_decides (h : (s.st i).state = .ready) (hstacked : (s.st i).stacked = none)
    (hmay : s.mayDecide i = true) (hatt : (s.attachedJob i j).attached i = some (j.attachedTo i)) (hseen : j.stopSeen = false)
    (he : j.ending = none) (hout : s.stopOutstanding i = false) :
    s.attach i j = (s.attachedJob i j).withRequests [decisionRequest i j] := by
  let u : State := s.attachedJob i j
  have hmay' : u.mayDecide i = true := by
    have hst : u.st i = { s.st i with dozeTimer := none } := s.attachedJob_st i j
    rw [← hmay, State.mayDecide, State.mayDecide, hst]
    rfl
  have hmarked : (u.cal i).marked = false := by
    simp only [State.mayDecide, Bool.and_eq_true] at hmay'
    simpa using hmay'.2
  have hout' : u.stopOutstanding i = false := hout
  have hdecision : u.decisionOutstanding i = false := by
    simp only [State.stopOutstanding, Bool.or_eq_false_iff, List.any_eq_false, isStopReading] at hout'
    simp only [State.decisionOutstanding, Bool.or_eq_false_iff, List.any_eq_false]
    exact ⟨fun r hr => by have := hout'.1 r hr; simp_all, fun r hr => by have := hout'.2 r hr; simp_all⟩
  have hdecides : u.offer i = u.withRequests [decisionRequest i j] := by
    simp [State.offer, hatt, hmay', hdecision, State.runDecision, State.stopSeen, State.askStop, hout', hseen, he,
      Job.attachedTo, u]
    rfl
  have hidle : (u.withRequests [decisionRequest i j]).idle i = false := by
    have hatt' : (u.withRequests [decisionRequest i j]).attached i = some (j.attachedTo i) := hatt
    simp [State.idle, hatt']
  rw [State.attach_eq, if_neg (by simp [h]), State.readyActions, if_pos (by simp [h, hstacked])]
  show (if (u.cal i).marked = true then _ else (u.offer i).dozeIfIdle i) = _
  rw [if_neg (by simp [hmarked]), hdecides, State.dozeIfIdle, hidle]
  rfl

end

/-! ## The claim phase goes on (R40, R60) -/

/-- A request stands on the list or joins it at the end of the event. -/
def State.asks (s : State) (r : Request) : Prop := r ∈ s.port.list ∨ r ∈ s.port.arriving

theorem State.requestRead_asks {s : State} {r : Request} (p : Purpose) (a : Addr) (n : Nat) (h : s.asks r) :
    (s.requestRead p a n).asks r :=
  h.imp id (List.mem_append_left _)

theorem State.request_asks {s : State} {r : Request} (q : Request) (h : s.asks r) : (s.request q).asks r :=
  h.imp id (List.mem_append_left _)

/-- A pass-end reading asked for changes no request that stands: one outstanding for the station serves both as it is (R60). -/
theorem State.askStop_passEnd_asks {s : State} {r : Request} (i : StationId) (h : s.asks r) :
    (s.askStop i (.passEnd i)).asks r := by
  have hserves : ∀ q : Request, (if isStopReading i q then { q with purpose := servesBoth (.passEnd i) q.purpose } else q) = q := by
    intro q
    have hold : servesBoth (.passEnd i) q.purpose = q.purpose := by
      cases q.purpose <;> rfl
    rw [hold, ite_self]
  unfold State.askStop
  split
  · simp only [State.asks, hserves, List.map_id']
    exact h
  · split
    · exact State.requestRead_asks _ _ _ h
    · exact h

theorem State.passEndReadings_asks {s : State} {r : Request} (h : s.asks r) : s.passEndReadings.asks r := by
  have hfold : ∀ (l : List StationId) (u : State), u.asks r →
      (l.foldl (fun s i => if s.readsAtPassEnd i then s.askStop i (.passEnd i) else s) u).asks r := by
    intro l
    induction l with
    | nil => exact fun _ hu => hu
    | cons i l ih =>
      intro u hu
      refine ih _ ?_
      dsimp only
      split
      · exact State.askStop_passEnd_asks i hu
      · exact hu
  exact hfold _ _ h

theorem State.loadScanTimer_asks {s : State} {r : Request} (h : s.asks r) : s.loadScanTimer.asks r := by
  unfold State.loadScanTimer
  split <;> exact h

theorem State.startPass_asks {s : State} {r : Request} (h : s.asks r) : s.startPass.asks r := by
  unfold State.startPass
  dsimp only
  split
  · exact State.loadScanTimer_asks (State.passEndReadings_asks (s := { s with scanTimer := none, passPending := false }) h)
  · exact State.requestRead_asks _ _ _ h

theorem State.endPass_asks {s : State} {r : Request} (h : s.asks r) : s.endPass.asks r := by
  have hread : (({ s with pass := none } : State).passEndReadings).asks r :=
    State.passEndReadings_asks (s := { s with pass := none }) h
  unfold State.endPass
  dsimp only
  split
  · exact State.startPass_asks hread
  · exact State.loadScanTimer_asks hread

/-- The next candidate's turn leaves every request that stands (R40, R43). -/
theorem State.nextCandidate_asks {s : State} {r : Request} (h : s.asks r) : s.nextCandidate.asks r := by
  unfold State.nextCandidate
  split
  · split
    · exact State.endPass_asks h
    · dsimp only
      split
      · exact State.request_asks _ h
      · exact State.requestRead_asks _ _ _ h
  · exact h

theorem State.join_list_mem {s : State} {r : Request} (h : s.asks r) : r ∈ s.join.port.list := by
  have hlist : s.join.port.list = s.port.list ++ shuffle s.choices s.port.arriving := by simp [State.join]
  rw [hlist, List.mem_append]
  exact h.imp id (shuffle_perm _ _).mem_iff.2

/-! ## A fiche ticket past its checks (R42, R51 to R58) -/

/-- The claim phase goes on behind `v`, which differs from `s` in its jobs and stations and in the scan half, the write list
and the port. -/
theorem State.nextCandidate_done {s v : State} (hm : v.matched)
    (hb : v.behindScanner = ({ s with jobs := v.jobs, stations := v.stations } : State).behindScanner) :
    ∃ t, v.nextCandidate.done = .next t ∧ t.jobs = v.jobs ∧ t.stations = v.stations ∧
      ({ s with jobs := t.jobs, stations := t.stations } : State).onlyScanner t ∧ t.tasks = v.tasks ∧
      t.waiters = v.waiters ∧ t.matched ∧ ∀ r, v.asks r → r ∈ t.port.list := by
  obtain ⟨hscan, hlists⟩ := State.scanOnly_trans v.nextCandidate_scanOnly v.nextCandidate.join_scanOnly
  have hjobs : v.nextCandidate.join.jobs = v.jobs := congrArg (·.jobs) hscan
  have hst : v.nextCandidate.join.stations = v.stations := congrArg (·.stations) hscan
  have hcals : v.nextCandidate.join.cals = v.cals := congrArg (·.cals) hscan
  refine ⟨_, rfl, hjobs, hst, State.onlyScanner_of (by rw [hscan, hb, hjobs, hst]), congrArg (·.1) hlists,
    congrArg (·.2.1) hlists, ?_, fun r hr => State.join_list_mem (State.nextCandidate_asks hr)⟩
  intro i j hfree hj
  have hfree' : v.free i = true := by
    rw [← hfree]; unfold State.free State.attached State.st; rw [hjobs, hst]
  rw [State.fitsJob_congr (s := v) (by unfold State.st; rw [hst]) hcals]
  exact hm i j hfree' (hjobs ▸ hj)

end Sys2Proof.Machine
end

section
/-! PROOFS. The rest of a fiche ticket (R42, R51 to R58): refused, or made a job context that ends, waits or is attached. -/

namespace Sys2Proof.Machine

section
variable {s : State} {p : Pass} {c : Candidate} {head data : List Byte} {j : Job}

/-- A fiche ticket that fails a check ends with the check's reason (R42). -/
theorem State.takeFiche_refuses {ticket : List Byte} (h : ficheCheck ticket ≠ .none) :
    s.takeFiche c ticket = s.endTicket .refusedTicket (ficheCheck ticket) 0 := by
  unfold State.takeFiche
  split
  next h' => exact absurd h' h
  next => rfl

/-- A fiche ticket that passes the checks becomes a job context, and the claim phase goes on. -/
theorem State.takeFiche_admits {ticket : List Byte} (h : ficheCheck ticket = .none) (hp : s.pass = some p)
    (hnone : s.job c.addr = none) : s.takeFiche c ticket =
      ((s.withJob p (makeJob c ticket)).testStock (makeJob c ticket)).settle.nextCandidate := by
  rw [← State.admitJob_eq (j := makeJob c ticket) hp hnone]
  simp only [State.takeFiche, h]

/-- The dispatcher's events at rest when nothing waits to be added (R65). -/
theorem State.endQueue_of_calm (h : s.calm) (hw : s.waiters = []) : s.endQueue = [] := by
  obtain ⟨he, -, -⟩ := (State.atRest_iff _).1 (State.atRest_of_calm h rfl : s.atRest)
  exact he.resolve_right (fun hwait => by simp [State.dispatcherWaits, hw] at hwait)

/-- The job context of a slot that had none is found at the slot's address. -/
theorem State.withJob_job (hnone : s.job j.slotAddr = none) : (s.withJob p j).job j.slotAddr = some j := by
  have hothers : ∀ k ∈ s.jobs, (k.slotAddr == j.slotAddr) = false := by
    simpa using State.slotAddr_ne_of_job_none hnone
  exact find?_insertJob_pos (by simp) hothers

/-- The jobs once the context put in has been changed. -/
theorem State.updJob_withJob {f : Job → Job} (hpost : (f j).post = j.post) (hslot : (f j).slot = j.slot)
    (hnone : s.job j.slotAddr = none) : ((s.withJob p j).updJob j.slotAddr f).jobs = insertJob (f j) s.jobs :=
  map_insertJob hpost hslot (State.slotAddr_ne_of_job_none hnone)

/-- A queued job whose stock is carried nowhere ends NO_STOCK (R57, R65). -/
theorem State.withJob_ends (hcalm : s.calm) (hnone : s.job j.slotAddr = none) (hq : j.state = .queued) (he : j.ending = none)
    (hstation : j.station = none) (hstock : s.stockCarried j = false) (hroom : s.listRoom 1) :
    ∃ v, ((s.withJob p j).testStock j).settle = v ∧ v.jobs = insertJob (j.finished .noStock) s.jobs ∧
      v.stations = s.stations ∧ v.behindScanner = ({ s with jobs := v.jobs } : State).behindScanner ∧
      v.tasks = s.tasks ++ [.completion j.slotAddr] ∧ v.waiters = [] ∧ v.matched := by
  obtain ⟨-, hwaiters⟩ := id hroom
  have hwait : (s.withJob p j).dispatcherWaits = false := by
    show s.waiters.any _ = false
    simp [hwaiters]
  have hqueue : s.endQueue = [] := State.endQueue_of_calm hcalm hwaiters
  obtain ⟨plan, l, -, hadd⟩ := State.addTask_of_room (.completion j.slotAddr)
    (s := (s.withJob p j).updJob j.slotAddr (fun k => k.finished .noStock)) hroom
  let v : State := ({ (s.withJob p j).updJob j.slotAddr (fun k => k.finished .noStock) with
    tasks := s.tasks ++ [.completion j.slotAddr], plan := plan } : State).withRequests l
  have hjobs : v.jobs = insertJob (j.finished .noStock) s.jobs := State.updJob_withJob rfl rfl hnone
  have hput : s.jobPut v (j.finished .noStock) := ⟨hjobs, rfl, rfl, .inl hqueue, rfl⟩
  have hfree : ∀ k, v.free k = true → s.free k = true ∧ v.st k = s.st k ∧
      ((j.finished .noStock).state = .queued → s.fitsJob k (j.finished .noStock) = false) := by
    intro k hk
    have hatt : v.attached k = s.attached k := hput.attached_of_ne (by simp [Job.finished])
    refine ⟨?_, rfl, fun h => by cases h⟩
    rw [← hk, State.free, State.free, hatt]
    rfl
  have hends : (s.withJob p j).testStock j = v := by
    rw [State.testStock_ends (s := s.withJob p j) hq he hstock hwait, State.finishJob_unattached (State.withJob_job hnone) hstation, hadd]
    rfl
  refine ⟨v, ?_, hjobs, rfl, rfl, rfl, hwaiters, State.matched_iff_nextMatch.2 (hput.nextMatch_none hcalm hfree)⟩
  rw [hends, State.settle_of_rest (hput.atRest hcalm hfree)]

/-- A job that fits no free station waits in the intake list (R53, R54). -/
theorem State.withJob_waits (hcalm : s.calm) (hret : j.returnPending = false) (hstation : j.station = none)
    (hstock : s.stockCarried j = true) (hfits : ∀ i, s.free i = true → s.fitsJob i j = false) :
    ((s.withJob p j).testStock j).settle = s.withJob p j ∧ (s.withJob p j).matched := by
  have hput : s.jobPut (s.withJob p j) j := ⟨rfl, rfl, rfl, .inr rfl, hret⟩
  have hfree : ∀ k, (s.withJob p j).free k = true →
      s.free k = true ∧ (s.withJob p j).st k = s.st k ∧ (j.state = .queued → s.fitsJob k j = false) := by
    intro k hk
    have hatt : (s.withJob p j).attached k = s.attached k := hput.attached_of_ne (by simp [hstation])
    have hsame : s.free k = true := by
      rw [← hk, State.free, State.free, hatt]
      rfl
    exact ⟨hsame, rfl, fun _ => hfits k hsame⟩
  refine ⟨?_, State.matched_iff_nextMatch.2 (hput.nextMatch_none hcalm hfree)⟩
  rw [State.testStock_carried (s := s.withJob p j) hstock, State.settle_of_rest (hput.atRest hcalm hfree)]

/-- The attached job found at its station. -/
theorem State.withJob_attached {i : StationId} (hnone : s.job j.slotAddr = none) (hfree : s.attached i = none) :
    ((s.withJob p j).attachedJob i j).attached i = some (j.attachedTo i) := by
  have hothers : ∀ k ∈ s.jobs, (k.station == some i) = false := by simpa [State.attached] using hfree
  have hjobs : ((s.withJob p j).attachedJob i j).jobs = insertJob (j.attachedTo i) s.jobs := State.updJob_withJob rfl rfl hnone
  rw [State.attached, hjobs]
  exact find?_insertJob_pos (by simp [Job.attachedTo]) hothers

/-- A station waits with its job: it calibrates, or waits in the photometer queue (R56, R75). -/
def State.waitsAttached (s : State) (i : StationId) : Prop :=
  (s.st i).state = .calibrating ∨
    ((s.st i).state = .ready ∧ (s.st i).stacked = none ∧ (s.cal i).marked = true ∧ i ∈ s.photometerQueue)

/-- A station runs the first load decision of its job (R56, R58). -/
def State.decidesAttached (s : State) (i : StationId) : Prop :=
  (s.st i).state = .ready ∧ (s.st i).stacked = none ∧ s.mayDecide i = true

/-- A DOZING station at the beginning of its wake (R70). -/
def Station.wakes (x : Station) : Station :=
  { x with state := .waking, dozeTimer := none, holdTimer := none, wakeFromParked := false, wakeTimer := some 50 }

/-- What an attach makes of its station, and what it requests, by the station's state (R56). -/
theorem State.attach_spec {i : StationId} (hatt : (s.attachedJob i j).attached i = some (j.attachedTo i))
    (hseen : j.stopSeen = false) (he : j.ending = none) (hout : s.stopOutstanding i = false)
    (h : (s.st i).state = .dozing ∨ s.waitsAttached i ∨ s.decidesAttached i) : ∃ x l,
      s.attach i j = ((s.updJob j.slotAddr (fun k => k.attachedTo i)).updSt i (fun _ => x)).withRequests l ∧
      ((s.st i).state = .dozing → x = (s.st i).wakes) ∧ (s.waitsAttached i → x = { s.st i with dozeTimer := none }) ∧
      (s.decidesAttached i → x = { s.st i with dozeTimer := none } ∧ l = [decisionRequest i j]) := by
  rcases h with h | h | h
  · refine ⟨_, [], ?_, fun _ => rfl, fun hw => ?_, fun hd => ?_⟩
    · rw [State.attach_dozing h, State.withRequests_nil]
      exact State.updSt_congr rfl
    · rcases hw with hw | hw <;> simp [h] at hw
    · simp [h, State.decidesAttached] at hd
  · refine ⟨_, [], ?_, fun hz => ?_, fun _ => rfl, fun hd => ?_⟩
    · rw [State.attach_waits h, State.withRequests_nil]
      exact State.updSt_congr rfl
    · rcases h with h | h <;> simp [hz] at h
    · obtain ⟨hready, -, hmay⟩ := hd
      rcases h with h | ⟨-, -, hmarked, -⟩
      · simp [h] at hready
      · simp [State.mayDecide, hmarked] at hmay
  · obtain ⟨hready, hstacked, hmay⟩ := h
    refine ⟨_, [decisionRequest i j], ?_, fun hz => ?_, fun _ => rfl, fun _ => ⟨rfl, rfl⟩⟩
    · rw [State.attach_decides hready hstacked hmay hatt hseen he hout]
      exact congrArg (State.withRequests · _) (State.updSt_congr rfl)
    · simp [hready] at hz

/-- A job that fits a free station is attached to the lowest (R54 to R56). -/
theorem State.withJob_attaches {i : StationId} (hcalm : s.calm) (hnone : s.job j.slotAddr = none) (hq : j.state = .queued)
    (he : j.ending = none) (hstation : j.station = none) (hret : j.returnPending = false) (hseen : j.stopSeen = false)
    (hi : s.free i = true) (hfit : s.fitsJob i j = true) (hout : s.stopOutstanding i = false)
    (hlow : ∀ k, stationNat k < stationNat i → s.free k = true → s.fitsJob k j = false)
    (h : (s.st i).state = .dozing ∨ s.waitsAttached i ∨ s.decidesAttached i) : ∃ v x l,
      ((s.withJob p j).testStock j).settle = v ∧
      v = (({ s.withJob p j with jobs := insertJob (j.attachedTo i) s.jobs } : State).updSt i (fun _ => x)).withRequests l ∧
      v.matched ∧ ((s.st i).state = .dozing → x = (s.st i).wakes) ∧
      (s.waitsAttached i → x = { s.st i with dozeTimer := none }) ∧
      (s.decidesAttached i → x = { s.st i with dozeTimer := none } ∧ l = [decisionRequest i j]) := by
  have hput : s.jobPut (s.withJob p j) j := ⟨rfl, rfl, rfl, .inr rfl, hret⟩
  have hfreeAtt : s.attached i = none := by
    simp only [State.free, Bool.and_eq_true, Option.isNone_iff_eq_none] at hi
    exact hi.1.2
  have hatt := State.withJob_attached (p := p) hnone hfreeAtt
  obtain ⟨x, l, hattach, hspec⟩ := State.attach_spec (s := s.withJob p j) hatt hseen he hout h
  have hjobs : (s.withJob p j).updJob j.slotAddr (fun k => k.attachedTo i) =
      { s.withJob p j with jobs := insertJob (j.attachedTo i) s.jobs } := by
    rw [← State.updJob_withJob (p := p) (f := fun k => k.attachedTo i) rfl rfl hnone]
    rfl
  rw [hjobs] at hattach
  let v : State := (({ s.withJob p j with jobs := insertJob (j.attachedTo i) s.jobs } : State).updSt i (fun _ => x)).withRequests l
  have hputv : s.jobPut v (j.attachedTo i) := ⟨rfl, rfl, rfl, .inr rfl, hret⟩
  have hfree : ∀ k, v.free k = true → s.free k = true ∧ v.st k = s.st k ∧
      ((j.attachedTo i).state = .queued → s.fitsJob k (j.attachedTo i) = false) := by
    intro k hk
    have hki : k ≠ i := by
      rintro rfl
      have hv : v.attached k = some (j.attachedTo k) := by
        rw [← hatt, State.attached, State.attached]
        exact congrArg (List.find? _) (State.updJob_withJob (p := p) (f := fun q => q.attachedTo k) rfl rfl hnone).symm
      simp [State.free, hv] at hk
    have hst : v.st k = s.st k := State.st_updSt_other _ _ hki
    have hattk : v.attached k = s.attached k := hputv.attached_of_ne (by simp [Job.attachedTo, hki.symm])
    refine ⟨?_, hst, fun hqueued => by cases hqueued⟩
    rw [← hk, State.free, State.free, hattk, hst]
  have hstep : (s.withJob p j).dispatchStep = some v := by
    rw [State.dispatchStep_match (hput.events hcalm) (hput.returns hcalm)
      (hput.nextMatch_some hcalm rfl hstation hq he hi hfit hlow), hattach]
  refine ⟨v, x, l, ?_, rfl, State.matched_iff_nextMatch.2 (hputv.nextMatch_none hcalm hfree), hspec⟩
  rw [State.testStock_carried (s := s.withJob p j) (State.stockCarried_of_fits hfit),
    State.settle_of_step hstep (hputv.atRest hcalm hfree)]

end

/-- Settles O19: a fiche ticket by its checks, its stock and the free stations it fits; a service ticket by its checks. -/
theorem ticketRestDecides : Obligations.TicketRestDecides := by
  refine ⟨fun s p c head data hserves hd hp hph hcur hk hcalm hnone => ?_,
    fun s p c k head data hserves hd hp hph hcur hk => exec_ticketRestReadDone_service hserves hd hp hph hcur hk⟩
  intro job
  let u := s.endRequest
  have hcalm' : u.calm := State.calm_of_view hcalm rfl
  rw [exec_ticketRestReadDone_of_serves hserves hd hp hph, State.takeTicket_fiche (s := u) data hp hcur hk]
  refine ⟨fun hcheck => ?_, fun hcheck => ?_⟩
  · rw [State.takeFiche_refuses hcheck]
    exact State.endTicket_ends _ _ _ rfl rfl rfl hcalm hp hcur
  rw [State.takeFiche_admits (s := u) hcheck hp hnone]
  refine ⟨fun hstock hroom => ?_, fun hstock hfits => ?_, fun i hi hfit hout hlow => ?_⟩
  · obtain ⟨v, hv, hjobs, hst, hb, htasks, hwait, hm⟩ := State.withJob_ends (s := u) (p := p) (j := job) hcalm' hnone rfl rfl rfl
      hstock hroom
    obtain ⟨t, hdone, htjobs, htst, honly, httasks, htwait, htm, -⟩ := State.nextCandidate_done (s := s) hm (by rw [hb, hst]; rfl)
    rw [htst, hst] at honly
    exact ⟨t, by rw [hv]; exact hdone, htjobs.trans hjobs, honly, httasks.trans htasks, htwait.trans hwait, htm⟩
  · obtain ⟨hv, hm⟩ := State.withJob_waits (s := u) (p := p) (j := job) hcalm' rfl rfl hstock hfits
    obtain ⟨t, hdone, htjobs, htst, honly, httasks, -, htm, -⟩ := State.nextCandidate_done (s := s) hm rfl
    rw [htst] at honly
    exact ⟨t, by rw [hv]; exact hdone, htjobs, honly, httasks, htm⟩
  · intro x waits decides hx
    have hout' : u.stopOutstanding i = false := by
      simp only [State.stopOutstanding, Bool.or_eq_false_iff, List.any_eq_false] at hout ⊢
      simp only [u, State.endRequest, afterRequest_list, afterRequest_arriving]
      exact ⟨fun r hr => hout.1 r (List.mem_of_mem_tail hr), hout.2⟩
    obtain ⟨v, x', l, hv, rfl, hm, hdozes, hwaits, hdecides⟩ := State.withJob_attaches (s := u) (p := p) (j := job) hcalm' hnone
      rfl rfl rfl rfl rfl hi hfit hout' hlow hx
    obtain ⟨t, hdone, htjobs, htst, honly, httasks, -, htm, hasks⟩ := State.nextCandidate_done (s := s) hm rfl
    have hti : t.st i = x' := by
      rw [State.st, htst]
      exact State.st_updSt_same u i (fun _ => x')
    refine ⟨t, by rw [hv]; exact hdone, htjobs, honly, httasks, htm, fun k hki => ?_, fun hz => hti.trans (hdozes hz),
      fun hw => hti.trans (hwaits hw), fun hd => ⟨hti.trans (hdecides hd).1, hasks _ (.inr ?_)⟩⟩
    · rw [State.st, htst]
      exact State.st_updSt_other u (fun _ => x') hki
    · rw [(hdecides hd).2]
      exact List.mem_append_right _ List.mem_cons_self

end Sys2Proof.Machine
end

section
/-! PROOFS. A held slot read (R33, R39, R65): the job of its slot found, its end with the completion task added, and the read
phase going on. -/

namespace Sys2Proof.Machine

/-! ## The job of a slot (R51) -/

/-- A change of one job that leaves its slot's address changes what is found at a slot in that job alone. -/
theorem State.job_updJob {s : State} {a : Addr} {f : Job → Job} (hf : ∀ k, (f k).slotAddr = k.slotAddr) (b : Addr) :
    (s.updJob a f).job b = (s.job b).map (fun k => if k.slotAddr = a then f k else k) := by
  have hp : ∀ k, (if k.slotAddr = a then f k else k).slotAddr = k.slotAddr := by intro k; split <;> simp [hf]
  simp only [State.job, State.updJob, List.find?_map, Function.comp_def, hp]

/-- The job found at a slot's address has that address. -/
theorem State.slotAddr_of_job {s : State} {a : Addr} {j : Job} (h : s.job a = some j) : j.slotAddr = a := by
  simpa using List.find?_some h

/-- A write list with room, where nothing waits, keeps no end of a job waiting (R65). -/
theorem State.listRoom.not_dispatcherWaits {s : State} {n : Nat} (h : s.listRoom n) : s.dispatcherWaits = false := by
  obtain ⟨-, hwaiters⟩ := h
  simp [State.dispatcherWaits, hwaiters]

/-- The end of a job of the intake list: FINISHING, its completion task on the write list, one request at most (R65). -/
theorem State.endJob_unattached {s : State} {a : Addr} {j : Job} (o : TicketOutcome) (h : s.job a = some j)
    (hj : j.station = none) (hroom : s.listRoom 1) : ∃ (plan : List PlannedWrite) (l : List Request), l.length ≤ 1 ∧
      s.endJob a o = ({ s.updJob a (fun k => k.finished o) with
        tasks := s.tasks ++ [.completion a], plan := plan } : State).withRequests l := by
  obtain ⟨plan, l, hl, hadd⟩ := State.addTask_of_room (.completion a) (s := s.updJob a (fun k => k.finished o)) hroom
  refine ⟨plan, l, hl, ?_⟩
  rw [State.endJob, if_neg (by simp [hroom.not_dispatcherWaits]), State.finishJob_unattached h hj, hadd]
  rfl

/-! ## The held slot (R39) -/

theorem exec_slotReadDone_of_serves {s : State} {n : Nat} {data : List Byte} (h : s.serves .slotRead n)
    (hd : data.length = n) : exec (.slotReadDone data) s = (s.endRequest.takeSlot data).nextSlotRead.done :=
  State.completed_acts (act := fun s => (s.takeSlot data).nextSlotRead) h (fun r hp hn => by simp [answersRead, hp, hn, hd])

/-- A held slot's read is looked at for its stop word alone: the slot is no candidate (R39). -/
theorem State.takeSlot_held {s : State} {p : Pass} {n : Nat} {data : List Byte} (hp : s.pass = some p)
    (hph : p.phase = .slotRead n) (hheld : s.isHeld (slotAddress p.base n) = true) (hd : data.length = 16) :
    s.takeSlot data = s.examineHeld (slotAddress p.base n) (field data 0x0C 4) := by
  simp [State.takeSlot, hp, hph, hheld, slotStop, hd]

/-- A stop word of 0 leaves the slot's job as it is. -/
theorem State.examineHeld_zero (s : State) (a : Addr) : s.examineHeld a 0 = s := by
  unfold State.examineHeld
  split
  · exact if_neg (fun h => h.2.2 rfl)
  · rfl

/-- The jobs once a stop has ended the job of the slot at `a`. -/
def State.stopEnds (s : State) (a : Addr) : List Job :=
  s.jobsWith a (fun k => Job.finished { k with stopSeen := true } .stopped)

/-- A stop ends the slot's job of the intake list, STOPPED, when that leaves the dispatcher nothing to do (R39, R65). -/
theorem State.examineHeld_stop {s : State} {a : Addr} {j : Job} {stop : Nat} (h : s.job a = some j)
    (hq : j.state = .queued) (hj : j.station = none) (he : j.ending = none) (hroom : s.listRoom 1) (hstop : stop ≠ 0)
    (hrest : ({ s with jobs := s.stopEnds a } : State).atRest) : ∃ (plan : List PlannedWrite) (l : List Request),
      l.length ≤ 1 ∧ s.examineHeld a stop = ({ s with
        jobs := s.stopEnds a, tasks := s.tasks ++ [.completion a], plan := plan } : State).withRequests l := by
  let seen : Job → Job := fun k => { k with stopSeen := true }
  have hseen : (s.updJob a seen).job a = some (seen j) := by
    simp [State.job_updJob (f := seen) (fun _ => rfl), h, State.slotAddr_of_job h]
  obtain ⟨plan, l, hl, hend⟩ := State.endJob_unattached (s := s.updJob a seen) .stopped hseen hj hroom
  refine ⟨plan, l, hl, ?_⟩
  have hexamine : s.examineHeld a stop = ((s.updJob a seen).endJob a .stopped).settle := by
    simp only [State.examineHeld, h, hq, he, hstop, Option.isNone_none, ne_eq, not_false_eq_true, and_self, if_true]
    rfl
  rw [hexamine, hend, State.updJob_updJob (f := seen) (fun _ => rfl)]
  exact State.settle_of_rest (State.atRest_of_view hrest rfl (Nat.le_refl _))

/-- Settles O15: the held slot's stop word ends its queued job or leaves it, and the next slot is read. -/
theorem heldStopEndsTheJob : Obligations.HeldStopEndsTheJob := by
  intro s p n data j hserves hd hp hph hn hheld hj hq hstation he hroom ended hrest
  have haddr : j.slotAddr = slotAddress p.base n := State.slotAddr_of_job hj
  have hended : s.stopEnds (slotAddress p.base n) = ended := by rw [← haddr]; rfl
  rw [exec_slotReadDone_of_serves hserves hd, State.takeSlot_held (s := s.endRequest) hp hph hheld hd]
  by_cases hstop : field data 0x0C 4 = 0
  · rw [hstop, State.examineHeld_zero, State.nextSlotRead_next (s := s.endRequest) hp hph hn]
    refine ⟨_, State.done_requestRead _ _ _ hserves.1 rfl rfl, rfl, rfl, ?_⟩
    simp [State.endRequest]
  · obtain ⟨plan, l, -, hend⟩ := State.examineHeld_stop (s := s.endRequest) hj hq hstation he hroom hstop
      (State.atRest_of_view (hrest hstop) (by rw [← hended]; rfl) (Nat.le_refl _))
    let u : State := { s.endRequest with jobs := ended, tasks := s.tasks ++ [.completion j.slotAddr], plan := plan }
    have hexamine : s.endRequest.examineHeld (slotAddress p.base n) (field data 0x0C 4) = u.withRequests l := by
      rw [hend, ← haddr, show s.endRequest.stopEnds j.slotAddr = ended from rfl]
      rfl
    obtain ⟨l', c, -, hdone⟩ := State.done_withRequests_perm (s := s)
      (u := { u with pass := some { p with phase := .slotRead (n + 1) } })
      (l ++ [readRequest .slotRead (slotAddress p.base (n + 1)) 16]) hserves.1 rfl rfl
    rw [hexamine, State.nextSlotRead_next (s := u.withRequests l) hp hph hn]
    rw [← State.withRequests_append] at hdone
    exact ⟨_, hdone, rfl, rfl, (if_pos hstop).symm ▸ ⟨rfl, rfl⟩⟩

end Sys2Proof.Machine
end

section
/-! PROOFS. A sheet stacked (R46, R62, R65, R75, R80): what a change at one station leaves of the dispatcher's match, the pages
of the sheet counted, its release task, and the station that then offers a load or whose job ends. -/

namespace Sys2Proof.Machine

/-! ## The dispatcher at rest (R54, R55) -/

/-- A state with the jobs, the events and the pass of one at rest is at rest, when each of its free stations was free there and
fits the same jobs. -/
theorem State.atRest_of_matches {v u : State} (h : v.atRest) (hw : u.waiters = v.waiters) (he : u.endQueue = v.endQueue)
    (hj : u.jobs = v.jobs) (hp : u.pass = v.pass)
    (hm : ∀ k, u.free k = true → v.free k = true ∧ u.fitsJob k = v.fitsJob k) : u.atRest := by
  rw [State.atRest_iff] at h ⊢
  obtain ⟨hevents, hreturn, hmatch⟩ := h
  have hintake : u.intake = v.intake := by simp only [State.intake, hj]
  refine ⟨?_, hreturn.imp (fun hr => ?_) (fun hr => ?_), State.nextMatch_eq_none.2 (fun k hk => ?_)⟩
  · rw [he, State.dispatcherWaits, hw]; exact hevents
  · rw [State.nextReturn, hj]; exact hr
  · have hcount : u.intakeCount = v.intakeCount := by rw [State.intakeCount, hintake]; rfl
    rw [State.roomForReturn, hcount, State.placeHeld, hp]; exact hr
  · obtain ⟨hfree, hfits⟩ := hm k hk
    rw [State.oldestFit, hintake, hfits]
    exact State.nextMatch_eq_none.1 hmatch k hfree

/-- Two states with the same jobs and, at station `k`, the same station, agree whether that is free. -/
theorem State.free_congr {u v : State} {k : StationId} (hj : u.jobs = v.jobs) (hst : u.st k = v.st k) :
    u.free k = v.free k := by
  simp only [State.free, State.attached, hj, hst]

/-- A dispatcher at rest stays so when of the stations one alone differs, and not in what makes it free and fit (R54). -/
theorem State.atRest_of_station {v u : State} {i : StationId} (h : v.atRest) (hw : u.waiters = v.waiters)
    (he : u.endQueue = v.endQueue) (hj : u.jobs = v.jobs) (hp : u.pass = v.pass) (hcals : u.cals = v.cals)
    (hstate : (u.st i).state = (v.st i).state) (hsheet : (u.st i).sheet = (v.st i).sheet)
    (hsupply : (u.st i).supply = (v.st i).supply) (hstock : (u.st i).stock = (v.st i).stock)
    (hothers : ∀ k, k ≠ i → u.st k = v.st k) : u.atRest := by
  refine State.atRest_of_matches h hw he hj hp (fun k hk => ?_)
  by_cases hki : k = i
  · subst hki
    refine ⟨?_, funext (fun q => ?_)⟩
    · rw [← hk]
      simp only [State.free, State.attached, hj, hstate, hsheet, hsupply]
    · rw [State.fitsJob, State.fitsJob, hstock, show u.cal k = v.cal k from congrArg (PerStation.get · k) hcals]
  · have hst := hothers k hki
    exact ⟨(State.free_congr hj hst).symm.trans hk, funext (fun q => State.fitsJob_congr hst hcals q)⟩

/-- A dispatcher at rest that nothing keeps waiting has no event waiting for it (R65). -/
theorem State.atRest.endQueue {s : State} (h : s.atRest) (hw : s.waiters = []) : s.endQueue = [] := by
  obtain ⟨he, -, -⟩ := (State.atRest_iff _).1 h
  exact he.resolve_right (fun hwait => by simp [State.dispatcherWaits, hw] at hwait)

/-! ## The pages of a stacked sheet (R62) -/

@[simp] theorem Job.stackedSheet_station (j : Job) (sh : Sheet) : (j.stackedSheet sh).station = j.station := rfl

/-- How many of the entries carry a page and have a status. -/
def statusPages (status : FrameStatus) (entries : List FrameEntry) : Nat :=
  ((entries.filter (·.page.isSome)).filter (·.status == status)).length

/-- The pages of a stacked sheet count EXPOSED, FAILED_READ or NOT_EXPOSED by their frames' statuses. -/
theorem PageCounts.add_stacked (c : PageCounts) (entries : List FrameEntry) :
    c.add FrameStatus.stackedRelease entries = { c with
      exposed := c.exposed + statusPages .ok entries, failedRead := c.failedRead + statusPages .voidRead entries,
      notExposed := c.notExposed + statusPages .voidStop entries } := by
  induction entries generalizing c with
  | nil => rfl
  | cons e entries ih =>
    rw [PageCounts.add, List.foldl_cons, ← PageCounts.add, ih]
    cases hp : e.page with
    | none => simp [statusPages, hp]
    | some n => cases hs : e.status <;> simp [statusPages, hp, hs, FrameStatus.stackedRelease] <;> omega

/-- The outcome of a job whose sheet has been counted (R65). -/
theorem Job.stackedOutcome_stackedSheet (j : Job) (sh : Sheet) : (j.stackedSheet sh).stackedOutcome =
    if j.stopSeen = true ∧ (0 < j.counts.notExposed + statusPages .voidStop sh.map ∨ j.nextPage < j.pageCount) then .stopped
    else if j.counts.exposed + statusPages .ok sh.map = j.pageCount then .doneOk else .doneWithVoids := by
  have hcounts : (j.stackedSheet sh).counts = _ := PageCounts.add_stacked j.counts sh.map
  simp only [Job.stackedOutcome, Bool.and_eq_true, Bool.or_eq_true, decide_eq_true_eq]
  simp only [hcounts]
  rfl

/-! ## What a READY station does (R72, R75, R139) -/

/-- A station offers a load to its job, and the decision's reading of the stop word is requested (R58, R75). -/
theorem State.offer_reads {s : State} {i : StationId} {j : Job} (hj : s.attached i = some j) (ha : j.state = .attached)
    (he : j.ending = none) (hseen : j.stopSeen = false) (hmay : s.mayDecide i = true) (hout : s.stopOutstanding i = false) :
    s.offer i = s.withRequests [decisionRequest i j] := by
  have hdecision : s.decisionOutstanding i = false := by
    simp only [State.stopOutstanding, Bool.or_eq_false_iff, List.any_eq_false, isStopReading] at hout
    simp only [State.decisionOutstanding, Bool.or_eq_false_iff, List.any_eq_false]
    exact ⟨fun r hr => by have := hout.1 r hr; simp_all, fun r hr => by have := hout.2 r hr; simp_all⟩
  simp [State.offer, hj, ha, he, hmay, hdecision, State.runDecision, State.stopSeen, hseen, State.askStop, hout]
  rfl

/-- A READY station with a job and no calibration to do offers it a load, and its doze timer stays stopped. -/
theorem State.readyActions_reads {s : State} {i : StationId} {j : Job} (hready : (s.st i).state = .ready)
    (hstacked : (s.st i).stacked = none) (hmarked : (s.cal i).marked = false) (hqueue : i ∉ s.photometerQueue)
    (hj : s.attached i = some j) (ha : j.state = .attached) (he : j.ending = none) (hseen : j.stopSeen = false)
    (hout : s.stopOutstanding i = false) : s.readyActions i = s.withRequests [decisionRequest i j] := by
  have hmay : s.mayDecide i = true := by simp [State.mayDecide, hready, hmarked, hqueue]
  have hidle : (s.withRequests [decisionRequest i j]).idle i = false := by
    have hatt : (s.withRequests [decisionRequest i j]).attached i = some j := hj
    simp [State.idle, hatt]
  rw [State.readyActions, if_pos ⟨hready, by simp [hstacked]⟩, if_neg (by simp [hmarked]),
    State.offer_reads hj ha he hseen hmay hout, State.dozeIfIdle, hidle]
  rfl

/-- `t` is `s` with station `i` perhaps gone on in its idling: its doze timer loaded or stopped, the photometer asked for or
granted to it (R72, R139, R143). -/
structure State.idlesAt (s t : State) (i : StationId) : Prop where
  jobs : t.jobs = s.jobs
  tasks : t.tasks = s.tasks
  waiters : t.waiters = s.waiters
  endQueue : t.endQueue = s.endQueue
  pass : t.pass = s.pass
  others : ∀ k, k ≠ i → t.st k = s.st k ∧ t.cal k = s.cal k
  sheet : (t.st i).sheet = (s.st i).sheet
  stacked : (t.st i).stacked = (s.st i).stacked
  carries : (t.st i).stock = (s.st i).stock ∧ (t.st i).supply = (s.st i).supply
  tables : (t.cal i).valid = (s.cal i).valid ∧ (t.cal i).statuses = (s.cal i).statuses
  state : (t.st i).state = (s.st i).state ∨ ((s.st i).state = .ready ∧ (t.st i).state = .calibrating)

theorem State.idlesAt.refl (s : State) (i : StationId) : s.idlesAt s i :=
  ⟨rfl, rfl, rfl, rfl, rfl, fun _ _ => ⟨rfl, rfl⟩, rfl, rfl, ⟨rfl, rfl⟩, ⟨rfl, rfl⟩, .inl rfl⟩

/-- A station goes on in its idling by a doze timer loaded or stopped. -/
theorem State.idlesAt_dozeTimer (s : State) (i : StationId) (d : Option Nat) :
    s.idlesAt (s.updSt i (fun x => { x with dozeTimer := d })) i := by
  refine ⟨rfl, rfl, rfl, rfl, rfl, fun k hk => ⟨State.st_updSt_other _ _ hk, rfl⟩, ?_, ?_, ⟨?_, ?_⟩, ⟨rfl, rfl⟩, .inl ?_⟩
  all_goals rw [State.st_updSt_same]

theorem State.dozeIfIdle_idlesAt (s : State) (i : StationId) : s.idlesAt (s.dozeIfIdle i) i := by
  rcases State.dozeIfIdle_cases s i with ⟨-, -, h⟩ | ⟨-, h⟩
  · rw [h]; exact State.idlesAt_dozeTimer s i _
  · rw [h]; exact .refl s i

/-- The photometer asked for by a READY station whose doze timer stops: granted, waited for, or held or waited for already. -/
theorem State.askPhotometer_idlesAt {s : State} {i : StationId} (h : (s.st i).state = .ready) :
    s.idlesAt ((s.updSt i (fun x => { x with dozeTimer := none })).askPhotometer i) i := by
  have hdoze := State.idlesAt_dozeTimer s i none
  rcases State.askPhotometer_cases (s.updSt i (fun x => { x with dozeTimer := none })) i with
    ⟨-, hask⟩ | ⟨-, -, hask⟩ | ⟨-, -, -, hask⟩
  · rw [hask]; exact hdoze
  · rw [hask]
    refine ⟨rfl, rfl, rfl, rfl, rfl, fun k hk => ?_, ?_, ?_, ⟨?_, ?_⟩, ⟨?_, ?_⟩, .inr ⟨h, ?_⟩⟩
    · obtain ⟨-, -, hothers, -⟩ := State.grantPhotometer_spec (s.updSt i (fun x => { x with dozeTimer := none })) i
      exact ⟨(hothers k hk).1.trans (State.st_updSt_other _ _ hk), (hothers k hk).2⟩
    all_goals simp [State.grantPhotometer, State.st, State.cal, State.updSt, State.updCal]
  · rw [hask]
    exact ⟨rfl, rfl, rfl, rfl, rfl, hdoze.others, hdoze.sheet, hdoze.stacked, hdoze.carries, hdoze.tables, hdoze.state⟩

/-- What a READY station without a job does is to go on in its idling. -/
theorem State.readyActions_idlesAt {s : State} {i : StationId} (h : s.attached i = none) : s.idlesAt (s.readyActions i) i := by
  have hoffer : s.offer i = s := by simp [State.offer, h]
  unfold State.readyActions
  split
  next hready =>
    split
    · exact State.askPhotometer_idlesAt hready.1
    · rw [hoffer]; exact s.dozeIfIdle_idlesAt i
  · exact .refl s i

section
variable {s t : State} {i : StationId}

/-- A station that goes on in its idling stays free, or not. -/
theorem State.idlesAt.free (h : s.idlesAt t i) (k : StationId) : t.free k = s.free k := by
  by_cases hk : k = i
  · subst hk
    have hstate : ((t.st k).state == .ready || (t.st k).state == .dozing || (t.st k).state == .calibrating) =
        ((s.st k).state == .ready || (s.st k).state == .dozing || (s.st k).state == .calibrating) := by
      rcases h.state with hs | ⟨hs, ht⟩
      · rw [hs]
      · rw [hs, ht]; rfl
    simp only [State.free, State.attached, h.jobs, h.sheet, h.carries, hstate]
  · exact State.free_congr h.jobs (h.others k hk).1

/-- It fits the jobs it fitted. -/
theorem State.idlesAt.fitsJob (h : s.idlesAt t i) (k : StationId) : t.fitsJob k = s.fitsJob k := by
  funext j
  by_cases hk : k = i
  · subst hk
    simp only [State.fitsJob, h.carries, h.tables]
  · simp only [State.fitsJob, h.others k hk]

/-- It leaves the dispatcher at rest. -/
theorem State.idlesAt.atRest (h : s.idlesAt t i) (hrest : s.atRest) : t.atRest :=
  State.atRest_of_matches hrest h.waiters h.endQueue h.jobs h.pass
    (fun k hk => ⟨(h.free k).symm.trans hk, h.fitsJob k⟩)

end

/-! ## The handover of a stacked sheet (R62) -/

/-- A request for a stop word is none of the writer's. -/
theorem isStopReading_of_writer {r : Request} (h : r.purpose.channel = .writer) (i : StationId) : isStopReading i r = false := by
  cases hp : r.purpose <;> simp_all [isStopReading, Purpose.channel]

/-- The requests that a task begun may make are the writer's. -/
theorem State.beginTask_arriving {s : State} {r : Request} (h : r ∈ s.beginTask.port.arriving) :
    r ∈ s.port.arriving ∨ r.purpose.channel = .writer := by
  have hissue : ∀ u : State, r ∈ u.issueWrite.port.arriving → r ∈ u.port.arriving ∨ r.purpose.channel = .writer := by
    intro u hu
    unfold State.issueWrite at hu
    split at hu
    · simp only [State.requestWrite, State.request, List.mem_append, List.mem_singleton] at hu
      refine hu.imp id (fun hr => ?_)
      rw [hr]
      dsimp only
      split <;> rfl
    · exact .inl hu
  unfold State.beginTask at h
  split at h
  next k _ _ _ => exact hissue { s with plan := s.taskWrites k } h
  next => exact .inl h

/-- The requests that a task added may make are the writer's. -/
theorem State.addTask_arriving {s : State} {k : Task} {r : Request} (h : r ∈ (s.addTask k).port.arriving) :
    r ∈ s.port.arriving ∨ r.purpose.channel = .writer := by
  unfold State.addTask at h
  split at h
  · exact State.beginTask_arriving (s := { s with tasks := s.tasks ++ [k] }) h
  · exact .inl h

/-- The release task of a stacked sheet (R46). -/
def releaseTask (i : StationId) (j : Job) (sh : Sheet) : Task :=
  .release j.slotAddr j.ticket i sh.index sh.serial (sh.map.filter (·.page.isSome))

/-- A station whose sheet has been carried off and not yet counted (R80). -/
def Station.carriedOff (x : Station) (sh : Sheet) : Station :=
  { x with state := .ready, sheet := none, stacked := some sh, activity := .idle }

/-- The sheet stacked with room on the write list: its release task joins, and the dispatcher acts at once. -/
theorem State.stackSheet_of_room {s : State} {i : StationId} {j : Job} {sh : Sheet} (hs : s.port.arriving = [])
    (hroom : s.listRoom 1) : ∃ (plan : List PlannedWrite) (l : List Request), (∀ r ∈ l, r.purpose.channel = .writer) ∧
      s.stackSheet i j sh = (((((({ s with tasks := s.tasks ++ [releaseTask i j sh], plan := plan } : State).updSt i
        (fun x => x.carriedOff sh)).withRequests l).handover i).readyActions i).settle) := by
  let u : State := s.updSt i (fun x => x.carriedOff sh)
  obtain ⟨plan, l, -, hadd⟩ := State.addTask_of_room (s := u) (releaseTask i j sh) hroom
  refine ⟨plan, l, fun r hr => ?_, ?_⟩
  · have harr : r ∈ (u.addTask (releaseTask i j sh)).port.arriving := by
      rw [hadd]; exact List.mem_append_right _ hr
    exact (State.addTask_arriving harr).resolve_left (by simp [u, hs])
  · obtain ⟨hlength, hwaiters⟩ := id hroom
    have hwait : (({ u with tasks := u.tasks ++ [releaseTask i j sh], plan := plan } : State).withRequests l).dispatcherWaits =
        false := hroom.not_dispatcherWaits
    have hevent : s.stackSheet i j sh = ((u.addTask (releaseTask i j sh)).stackedEvent i).settle :=
      if_pos ⟨hlength, by simp [hwaiters]⟩
    rw [hevent, hadd, State.stackedEvent, if_neg (by simp [hwait])]
    rfl

/-- The handover of a sheet with pages left and no stop: the sheet is counted, and the job goes on in ATTACHED (R62). -/
theorem State.handover_goesOn {s : State} {i : StationId} {j : Job} {sh : Sheet} (hsh : (s.st i).stacked = some sh)
    (hj : s.attached i = some j) (hevents : s.endQueue = []) (hstop : j.stopSeen = false) (hpages : j.nextPage < j.pageCount) :
    s.handover i = (s.updSt i (fun x => { x with stacked := none })).updJob j.slotAddr
      (fun k => { k.stackedSheet sh with state := .attached }) := by
  have hqueue : s.endQueue.filter (· != .stacked i) = s.endQueue := by rw [hevents]; rfl
  have hgoes : ((j.stackedSheet sh).stopSeen || decide ((j.stackedSheet sh).pageCount ≤ (j.stackedSheet sh).nextPage)) =
      false := by
    show (j.stopSeen || decide (j.pageCount ≤ j.nextPage)) = false
    simpa [hstop] using hpages
  simp only [State.handover, hsh, hj, hqueue, hgoes, Bool.false_eq_true, if_false]
  exact State.updJob_updJob (f := fun k => k.stackedSheet sh) (fun _ => rfl)

/-- The handover of a job's last sheet: the sheet is counted, and the job ends with its outcome (R62, R65). -/
theorem State.handover_ends {s : State} {i : StationId} {j : Job} {sh : Sheet} (hsh : (s.st i).stacked = some sh)
    (hj : s.attached i = some j) (hevents : s.endQueue = []) (hwait : s.dispatcherWaits = false)
    (hlast : j.stopSeen = true ∨ j.pageCount ≤ j.nextPage) :
    s.handover i = ((s.updSt i (fun x => { x with stacked := none })).updJob j.slotAddr (fun k => k.stackedSheet sh)).finishJob
      j.slotAddr (j.stackedSheet sh).stackedOutcome := by
  have hqueue : s.endQueue.filter (· != .stacked i) = s.endQueue := by rw [hevents]; rfl
  have hends : ((j.stackedSheet sh).stopSeen || decide ((j.stackedSheet sh).pageCount ≤ (j.stackedSheet sh).nextPage)) =
      true := by
    show (j.stopSeen || decide (j.pageCount ≤ j.nextPage)) = true
    simpa using hlast
  simp only [State.handover, hsh, hj, hqueue, hends, if_true, State.endJob]
  exact if_neg (by simpa [State.dispatcherWaits] using hwait)

/-! ## SHEET_STACKED (R46, R62, R80) -/

theorem exec_sheetStacked_closing {s : State} {i : StationId} {j : Job} {sh : Sheet} (hclosing : (s.st i).state = .closing)
    (hj : s.attached i = some j) (hsh : (s.st i).sheet = some sh) :
    exec (.sheetStacked i) s = (s.stackSheet i j sh).done := by
  simp [exec, execSheetStacked, hclosing, hj, hsh]

/-- A station whose sheet has been stacked and counted. -/
def Station.emptied (x : Station) : Station := { x with state := .ready, sheet := none, stacked := none, activity := .idle }

/-- A job whose sheet has been counted, and which goes on in ATTACHED (R62). -/
def Job.goesOn (j : Job) (sh : Sheet) : Job := { j.stackedSheet sh with state := .attached }

theorem Job.goesOn_slotAddr (j : Job) (sh : Sheet) : (j.goesOn sh).slotAddr = j.slotAddr := by cases j; rfl
theorem Job.goesOn_station (j : Job) (sh : Sheet) : (j.goesOn sh).station = j.station := by cases j; rfl
theorem Job.goesOn_state (j : Job) (sh : Sheet) : (j.goesOn sh).state = .attached := rfl
theorem Job.goesOn_ending (j : Job) (sh : Sheet) : (j.goesOn sh).ending = j.ending := by cases j; rfl
theorem Job.goesOn_stopSeen (j : Job) (sh : Sheet) : (j.goesOn sh).stopSeen = j.stopSeen := by cases j; rfl

section
variable {s : State} {i : StationId} {j : Job} {sh : Sheet}

/-- The handover of a sheet with pages left and no stop, at a station with no calibration to do: the job goes on, and its next
load decision's reading is requested (R62, R75). -/
theorem State.handover_reads (hready : (s.st i).state = .ready) (hsh : (s.st i).stacked = some sh) (hj : s.attached i = some j)
    (hevents : s.endQueue = []) (hstop : j.stopSeen = false) (hpages : j.nextPage < j.pageCount) (he : j.ending = none)
    (hmarked : (s.cal i).marked = false) (hqueue : i ∉ s.photometerQueue) (hout : s.stopOutstanding i = false) :
    (s.handover i).readyActions i = ((s.updSt i (fun x => { x with stacked := none })).updJob j.slotAddr
      (fun k => k.goesOn sh)).withRequests [decisionRequest i j] := by
  let v : State := (s.updSt i (fun x => { x with stacked := none })).updJob j.slotAddr (fun k => k.goesOn sh)
  have hover : s.handover i = v := State.handover_goesOn hsh hj hevents hstop hpages
  have hst : v.st i = { s.st i with stacked := none } := State.st_updSt_same s i (fun x => { x with stacked := none })
  have hatt : v.attached i = some (j.goesOn sh) := by
    rw [State.attached_updJob (f := fun k => k.goesOn sh) (fun q => q.goesOn_station sh), State.attached_updSt, hj]
    exact congrArg some (if_pos rfl)
  have hrequest : decisionRequest i (j.goesOn sh) = decisionRequest i j := by rw [decisionRequest, Job.goesOn_slotAddr]; rfl
  rw [hover, State.readyActions_reads (s := v) (by rw [hst]; exact hready) (by rw [hst]) hmarked hqueue hatt
    (j.goesOn_state sh) ((j.goesOn_ending sh).trans he) ((j.goesOn_stopSeen sh).trans hstop) hout, hrequest]

/-- SHEET_STACKED with pages left and no stop (R62, R75). -/
theorem exec_sheetStacked_goesOn (hsettled : s.settled) (hclosing : (s.st i).state = .closing) (hj : s.attached i = some j)
    (hsh : (s.st i).sheet = some sh) (hstop : j.stopSeen = false) (hpages : j.nextPage < j.pageCount) (he : j.ending = none)
    (hmarked : (s.cal i).marked = false) (hqueue : i ∉ s.photometerQueue) (hroom : s.listRoom 1)
    (hout : s.stopOutstanding i = false)
    (hrest : ({ s with jobs := s.jobsWith j.slotAddr (fun k => k.goesOn sh) } : State).atRest) :
    ∃ (plan : List PlannedWrite) (l : List Request), exec (.sheetStacked i) s = ((({ s with
      jobs := s.jobsWith j.slotAddr (fun k => k.goesOn sh), plan := plan,
      tasks := s.tasks ++ [releaseTask i j sh] } : State).updSt i Station.emptied).withRequests
        (l ++ [decisionRequest i j])).done := by
  obtain ⟨-, hwaiters⟩ := id hroom
  obtain ⟨plan, l, hl, hstack⟩ := State.stackSheet_of_room (i := i) (j := j) (sh := sh) hsettled.1 hroom
  let u : State := (({ s with tasks := s.tasks ++ [releaseTask i j sh], plan := plan } : State).updSt i
    (fun x => x.carriedOff sh)).withRequests l
  let v : State := (({ s with
    jobs := s.jobsWith j.slotAddr (fun k => k.goesOn sh), plan := plan,
    tasks := s.tasks ++ [releaseTask i j sh] } : State).updSt i Station.emptied).withRequests (l ++ [decisionRequest i j])
  have hust : u.st i = (s.st i).carriedOff sh := State.st_updSt_same s i _
  have huout : u.stopOutstanding i = false := by
    simp only [State.stopOutstanding, Bool.or_eq_false_iff, List.any_eq_false] at hout ⊢
    refine ⟨hout.1, fun r hr => ?_⟩
    rcases List.mem_append.1 hr with hr | hr
    · exact hout.2 r hr
    · simp [isStopReading_of_writer (hl r hr) i]
  have hacts : (u.handover i).readyActions i = v := by
    rw [State.handover_reads (s := u) (by rw [hust]; rfl) (by rw [hust]; rfl) hj (hrest.endQueue hwaiters) hstop hpages he
      hmarked hqueue huout]
    have hempty : (fun x : Station => { x.carriedOff sh with stacked := none }) = Station.emptied := rfl
    simp only [u, v, ← State.withRequests_append, State.withRequests_updSt, State.updSt_updSt, hempty]
    rfl
  let before : State := { s with jobs := s.jobsWith j.slotAddr (fun k => k.goesOn sh) }
  have hrest' : v.atRest := by
    refine State.atRest_of_matches hrest rfl rfl rfl rfl (fun k hk => ?_)
    have hki : k ≠ i := by
      rintro rfl
      have hatt : v.attached k = some (j.goesOn sh) := by
        have hupd := State.attached_updJob (s := s) (a := j.slotAddr) (f := fun k => k.goesOn sh) (fun q => q.goesOn_station sh) k
        rw [hj] at hupd
        exact hupd.trans (congrArg some (if_pos rfl))
      simp [State.free, hatt] at hk
    have hst : v.st k = before.st k := State.st_updSt_other s Station.emptied hki
    exact ⟨(State.free_congr (u := v) (v := before) rfl hst).symm.trans hk, funext (fun q => State.fitsJob_congr hst rfl q)⟩
  exact ⟨plan, l, by rw [exec_sheetStacked_closing hclosing hj hsh, hstack, hacts, State.settle_of_rest hrest']⟩

/-- The end of the job whose last sheet has been counted, at the station that is READY again: its completion task joins the
write list, and the station idles (R65, R72). -/
theorem State.finishJob_stacked {a : Addr} {o : TicketOutcome} (hjob : s.job a = some j) (hstation : j.station = some i)
    (hroom : s.listRoom 1) (hnone : ∀ k ∈ s.jobs, k.station = some i → k.slotAddr = a)
    (hrest : (s.updJob a (fun k => k.finished o)).atRest) : ∃ t : State,
      ((s.finishJob a o).readyActions i).settle = t ∧ t.tasks = s.tasks ++ [.completion a] ∧
      t.waiters = [] ∧ t.jobs = s.jobsWith a (fun k => k.finished o) ∧ (t.st i).sheet = (s.st i).sheet ∧
      (t.st i).stacked = (s.st i).stacked ∧ ∀ k, k ≠ i → t.st k = s.st k := by
  let d : State := (s.updJob a (fun k => k.finished o)).dozeIfIdle i
  have hd : (s.updJob a (fun k => k.finished o)).idlesAt d i := State.dozeIfIdle_idlesAt _ i
  have hdroom : d.listRoom 1 := by rw [State.listRoom, hd.tasks, hd.waiters]; exact hroom
  obtain ⟨plan, l, -, hadd⟩ := State.addTask_of_room (s := d) (.completion a) hdroom
  let e : State := ({ d with tasks := d.tasks ++ [.completion a], plan := plan } : State).withRequests l
  have hfinish : s.finishJob a o = e := by
    refine Eq.trans ?_ hadd
    simp only [State.finishJob, hjob, hstation]
    rfl
  have hatt : e.attached i = none := by
    have hjobs : e.jobs = (s.updJob a (fun k => k.finished o)).jobs := hd.jobs
    rw [State.attached, hjobs, List.find?_eq_none]
    simp only [State.updJob, List.mem_map]
    rintro _ ⟨k, hk, rfl⟩
    split
    next => simp [Job.finished]
    next hne => simpa using fun h => hne (hnone k hk h)
  have hr : e.idlesAt (e.readyActions i) i := State.readyActions_idlesAt hatt
  have hrest' : (e.readyActions i).atRest :=
    hr.atRest (State.atRest_of_view (hd.atRest hrest) rfl (Nat.le_refl _))
  obtain ⟨-, hwaiters⟩ := hroom
  refine ⟨e.readyActions i, by rw [hfinish, State.settle_of_rest hrest'], ?_, ?_, ?_, ?_, ?_, fun k hk => ?_⟩
  · rw [hr.tasks]
    exact congrArg (· ++ [Task.completion a]) hd.tasks
  · rw [hr.waiters]
    exact hd.waiters.trans hwaiters
  · rw [hr.jobs]
    exact hd.jobs
  · rw [hr.sheet]
    exact hd.sheet
  · rw [hr.stacked]
    exact hd.stacked
  · rw [(hr.others k hk).1]
    exact (hd.others k hk).1

/-- SHEET_STACKED of a job's last sheet (R62, R65). -/
theorem exec_sheetStacked_ends {o : TicketOutcome} (hsettled : s.settled) (hclosing : (s.st i).state = .closing)
    (hj : s.attached i = some j) (hsh : (s.st i).sheet = some sh) (hlast : j.stopSeen = true ∨ j.pageCount ≤ j.nextPage)
    (honly : ∀ k ∈ s.jobs, k.slotAddr = j.slotAddr ∨ k.station = some i → k = j) (hroom : s.listRoom 2)
    (ho : (j.stackedSheet sh).stackedOutcome = o)
    (hrest : ({ s with
      jobs := s.jobsWith j.slotAddr (fun k => (k.stackedSheet sh).finished o),
      stations := (s.updSt i (fun x => { x with state := .ready, sheet := none })).stations } : State).atRest) :
    ∃ t, exec (.sheetStacked i) s = .next t ∧
      t.tasks = s.tasks ++ [releaseTask i j sh, .completion j.slotAddr] ∧ t.waiters = [] ∧
      t.jobs = s.jobsWith j.slotAddr (fun k => (k.stackedSheet sh).finished o) ∧ (t.st i).sheet = none ∧
      (t.st i).stacked = none ∧ ∀ k, k ≠ i → t.st k = s.st k := by
  obtain ⟨hlength, hwaiters⟩ := hroom
  obtain ⟨hmem, hstation⟩ := State.attached_spec hj
  obtain ⟨plan, l, -, hstack⟩ := State.stackSheet_of_room (j := j) (sh := sh) (s := s) (i := i) hsettled.1
    ⟨by omega, hwaiters⟩
  let u : State := (({ s with tasks := s.tasks ++ [releaseTask i j sh], plan := plan } : State).updSt i
    (fun x => x.carriedOff sh)).withRequests l
  let v : State := (u.updSt i (fun x => { x with stacked := none })).updJob j.slotAddr (fun k => k.stackedSheet sh)
  have hust : u.st i = (s.st i).carriedOff sh := State.st_updSt_same _ _ _
  have hvst : v.st i = (s.st i).emptied := by
    show (u.updSt i _).st i = _
    rw [State.st_updSt_same, hust]
    rfl
  have hothers : ∀ k, k ≠ i → v.st k = s.st k := fun k hk =>
    (State.st_updSt_other u _ hk).trans (State.st_updSt_other s _ hk)
  have hover : u.handover i = v.finishJob j.slotAddr o := by
    rw [← ho]
    exact State.handover_ends (s := u) (by rw [hust]; rfl) hj (hrest.endQueue hwaiters)
      (by show s.waiters.any _ = false; rw [hwaiters]; rfl) hlast
  have hjobs : v.jobsWith j.slotAddr (fun k => k.finished o) =
      s.jobsWith j.slotAddr (fun k => (k.stackedSheet sh).finished o) :=
    congrArg State.jobs (State.updJob_updJob (s := u) (a := j.slotAddr) (f := fun k => k.stackedSheet sh)
      (g := fun k => k.finished o) (fun _ => rfl))
  have hjob : v.job j.slotAddr = some (j.stackedSheet sh) := by
    have hfound : s.job j.slotAddr = some j := by
      obtain ⟨k, hk⟩ := Option.isSome_iff_exists.1 (List.find?_isSome
        (p := fun k : Job => k.slotAddr == j.slotAddr) |>.2 ⟨j, hmem, beq_self_eq_true j.slotAddr⟩)
      rw [State.job, hk, honly k (List.mem_of_find?_eq_some hk) (.inl (by simpa using List.find?_some hk))]
    have hupd := State.job_updJob (s := s) (a := j.slotAddr) (f := fun k => k.stackedSheet sh) (fun _ => rfl) j.slotAddr
    rw [hfound] at hupd
    exact hupd.trans (congrArg some (if_pos rfl))
  have hvroom : v.listRoom 1 := by
    have htasks : v.tasks = s.tasks ++ [releaseTask i j sh] := rfl
    exact ⟨by rw [htasks, List.length_append, List.length_singleton]; exact hlength, hwaiters⟩
  have hnone : ∀ k ∈ v.jobs, k.station = some i → k.slotAddr = j.slotAddr := by
    show ∀ k ∈ s.jobs.map _, _
    simp only [List.mem_map]
    rintro _ ⟨k, hk, rfl⟩
    split
    next ha => exact fun _ => ha
    next => exact fun h => congrArg Job.slotAddr (honly k hk (.inr h))
  have hvrest : (v.updJob j.slotAddr (fun k => k.finished o)).atRest := by
    have hready : (State.updSt s i (fun x => { x with state := .ready, sheet := none })).st i =
        { s.st i with state := .ready, sheet := none } := State.st_updSt_same s i _
    have hkeep : ∀ k, k ≠ i → v.st k = (s.updSt i (fun x => { x with state := .ready, sheet := none })).st k :=
      fun k hk => (hothers k hk).trans (State.st_updSt_other s _ hk).symm
    refine State.atRest_of_station (i := i) hrest rfl rfl hjobs rfl rfl ?_ ?_ ?_ ?_ hkeep
    · exact (congrArg Station.state hvst).trans (congrArg Station.state hready).symm
    · exact (congrArg Station.sheet hvst).trans (congrArg Station.sheet hready).symm
    · exact (congrArg Station.supply hvst).trans (congrArg Station.supply hready).symm
    · exact (congrArg Station.stock hvst).trans (congrArg Station.stock hready).symm
  obtain ⟨t, hsettle, htasks, hwait, htjobs, hsheet, hstacked, hst⟩ := State.finishJob_stacked (s := v) (i := i)
    (o := o) hjob ((j.stackedSheet_station sh).trans hstation) hvroom hnone hvrest
  refine ⟨t.join, ?_, ?_, hwait, htjobs.trans hjobs, hsheet.trans ?_, hstacked.trans ?_,
    fun k hk => (hst k hk).trans (hothers k hk)⟩
  · rw [exec_sheetStacked_closing hclosing hj hsh, hstack, hover]
    exact congrArg State.done hsettle
  · exact htasks.trans (List.append_assoc _ _ _)
  · rw [hvst]; rfl
  · rw [hvst]; rfl

end

/-- Settles O41: the release task and then the job that goes on, its decision's reading requested, or the job's end. -/
theorem sheetStackedActs : Obligations.SheetStackedActs := by
  refine ⟨?_, ?_⟩
  · intro s i j sh hsettled hclosing hj hsh hstop hpages he hmarked hqueue hroom hout _ goesOn hrest
    obtain ⟨plan, l, hexec⟩ :=
      exec_sheetStacked_goesOn hsettled hclosing hj hsh hstop hpages he hmarked hqueue hroom hout hrest
    exact ⟨_, hexec, rfl, State.join_list_mem (.inr (List.mem_append_right _ (List.mem_append_right _ List.mem_cons_self)))⟩
  · intro s i j sh hsettled hclosing hj hsh hlast honly hroom pages exposed outcome ended hrest
    exact exec_sheetStacked_ends hsettled hclosing hj hsh hlast honly hroom (Job.stackedOutcome_stackedSheet j sh) hrest

end Sys2Proof.Machine
end

section
/-! PROOFS. The course of a pass (R36 to R43, R60): the candidates sorted, the stop words read at its end, its start and end,
and the turn of a candidate up to its claim. -/

namespace Sys2Proof.Machine

/-! ## The candidate list (R38) -/

theorem candidateBefore_iff {a b : Candidate} :
    candidateBefore a b = true ↔ a.post < b.post ∨ (a.post = b.post ∧ a.slot ≤ b.slot) := by
  simp [candidateBefore]

theorem insertCandidate_perm (c : Candidate) : ∀ l : List Candidate, (insertCandidate c l).Perm (c :: l)
  | [] => .refl _
  | d :: l => by
    unfold insertCandidate
    split
    · exact ((insertCandidate_perm c l).cons d).trans (.swap c d l)
    · exact .refl _

/-- A candidate put at its place keeps the list in order. -/
theorem insertCandidate_pairwise (c : Candidate) : ∀ {l : List Candidate},
    l.Pairwise (fun a b => candidateBefore a b = true) → (insertCandidate c l).Pairwise (fun a b => candidateBefore a b = true)
  | [], _ => List.pairwise_singleton _ c
  | d :: l, h => by
    obtain ⟨hd, hl⟩ := List.pairwise_cons.1 h
    unfold insertCandidate
    split
    next hdc =>
      refine List.pairwise_cons.2 ⟨fun b hb => ?_, insertCandidate_pairwise c hl⟩
      rcases List.mem_cons.1 ((insertCandidate_perm c l).mem_iff.1 hb) with rfl | hb
      · exact hdc
      · exact hd b hb
    next hdc =>
      have hcd : candidateBefore c d = true := by simp only [candidateBefore_iff] at hdc ⊢; omega
      refine List.pairwise_cons.2 ⟨fun b hb => ?_, h⟩
      rcases List.mem_cons.1 hb with rfl | hb
      · exact hcd
      · have hdb := hd b hb
        simp only [candidateBefore_iff] at hcd hdb ⊢
        omega

/-- The sorted list holds the same candidates, by post number and slot index. -/
theorem sortCandidates_spec (l : List Candidate) : (sortCandidates l).Perm l ∧
    (sortCandidates l).Pairwise (fun a b => candidateBefore a b = true) := by
  have hfold : ∀ (l acc : List Candidate), acc.Pairwise (fun a b => candidateBefore a b = true) →
      (l.foldl (fun acc c => insertCandidate c acc) acc).Perm (l ++ acc) ∧
      (l.foldl (fun acc c => insertCandidate c acc) acc).Pairwise (fun a b => candidateBefore a b = true) := by
    intro l
    induction l with
    | nil => exact fun acc h => ⟨.refl _, h⟩
    | cons c l ih =>
      intro acc h
      obtain ⟨hperm, hpair⟩ := ih (insertCandidate c acc) (insertCandidate_pairwise c h)
      refine ⟨hperm.trans (((insertCandidate_perm c acc).append_left l).trans ?_), hpair⟩
      exact List.perm_middle
  have h := hfold l [] List.Pairwise.nil
  rwa [List.append_nil] at h

/-! ## The readings at a pass's end (R60) -/

/-- The reading of its job's stop word that station `i` makes at a pass's end. -/
def passEndRequest (i : StationId) (j : Job) : Request := readRequest (.passEnd i) (addrPlus j.slotAddr 0x0C) 4

/-- The reading that station `i` makes when a pass ends, if it makes one: none while one of its own is outstanding. -/
def State.passEndRequest? (s : State) (i : StationId) : Option Request :=
  if s.readsAtPassEnd i && !s.stopOutstanding i then (s.attached i).map (passEndRequest i) else none

theorem State.passEndReads_iff {s : State} {i : StationId} {j : Job} : s.passEndReads i j ↔
    s.attached i = some j ∧ s.readsAtPassEnd i = true ∧ s.stopOutstanding i = false := by
  unfold State.passEndReads State.readsAtPassEnd
  cases hj : s.attached i with
  | none => simp
  | some k =>
    simp only [Option.some.injEq]
    refine ⟨?_, ?_⟩
    · rintro ⟨rfl, h⟩
      simp_all [or_assoc]
    · rintro ⟨rfl, h⟩
      simp_all [or_assoc]

theorem State.passEndRequest?_eq_some {s : State} {i : StationId} {r : Request} :
    s.passEndRequest? i = some r ↔ ∃ j, s.passEndReads i j ∧ r = passEndRequest i j := by
  simp only [State.passEndRequest?, State.passEndReads_iff, Option.ite_none_right_eq_some, Bool.and_eq_true,
    Option.map_eq_some_iff, Bool.not_eq_true']
  exact ⟨fun ⟨⟨hr, ho⟩, j, hj, he⟩ => ⟨j, ⟨hj, hr, ho⟩, he.symm⟩,
    fun ⟨j, ⟨hj, hr, ho⟩, he⟩ => ⟨⟨hr, ho⟩, j, hj, he.symm⟩⟩

/-- The readings made when a pass ends, in the stations' order. -/
def State.passEndRequests (s : State) : List Request := allStations.filterMap s.passEndRequest?

theorem State.mem_passEndRequests {s : State} {r : Request} :
    r ∈ s.passEndRequests ↔ ∃ i j, s.passEndReads i j ∧ r = passEndRequest i j := by
  have hall : ∀ i : StationId, i ∈ allStations := by intro i; cases i <;> decide
  simp [State.passEndRequests, hall, State.passEndRequest?_eq_some]

/-- The stations' readings differ in their purposes. -/
theorem State.passEndRequests_nodup (s : State) : s.passEndRequests.Nodup := by
  have hpurpose : ∀ i r, s.passEndRequest? i = some r → r.purpose = .passEnd i := by
    intro i r h
    obtain ⟨j, -, rfl⟩ := State.passEndRequest?_eq_some.1 h
    rfl
  refine List.Nodup.filterMap (fun i k r hi hk => ?_) (by decide)
  have hsame := (hpurpose i r hi).symm.trans (hpurpose k r hk)
  cases hsame
  rfl

/-- A reading asked for at a pass's end: one outstanding for the station serves both as it is (R60). -/
theorem State.askStop_passEnd (s : State) (i : StationId) : (if s.readsAtPassEnd i then s.askStop i (.passEnd i) else s) =
    s.withRequests (s.passEndRequest? i).toList := by
  have hserves : ∀ q : Request,
      (if isStopReading i q then { q with purpose := servesBoth (.passEnd i) q.purpose } else q) = q := by
    intro q
    rw [show servesBoth (.passEnd i) q.purpose = q.purpose by cases q.purpose <;> rfl, ite_self]
  cases hr : s.readsAtPassEnd i
  · simp [State.passEndRequest?, hr]
  · cases ho : s.stopOutstanding i
    · cases hj : s.attached i with
      | none => simp [State.passEndRequest?, State.askStop, hr, ho, hj]
      | some j =>
        simp only [State.passEndRequest?, State.askStop, hr, ho, hj]
        rfl
    · simp [State.passEndRequest?, State.askStop, hr, ho, hserves]

/-- Requests that read no stop word for a station leave its reading at a pass's end. -/
theorem State.passEndRequest?_withRequests {s : State} {l : List Request} {k : StationId}
    (h : ∀ r ∈ l, isStopReading k r = false) : (s.withRequests l).passEndRequest? k = s.passEndRequest? k := by
  have hnone : l.any (isStopReading k) = false := by simpa using h
  have hout : (s.withRequests l).stopOutstanding k = s.stopOutstanding k := by
    simp only [State.stopOutstanding, State.withRequests, List.any_append, hnone, Bool.or_false]
  rw [State.passEndRequest?, State.passEndRequest?, hout]
  rfl

/-- A station's reading at a pass's end is no reading for another station. -/
theorem State.passEndRequest?_other {s : State} {i k : StationId} (h : k ≠ i) :
    ∀ r ∈ (s.passEndRequest? i).toList, isStopReading k r = false := by
  intro r hr
  obtain ⟨j, -, rfl⟩ := State.passEndRequest?_eq_some.1 (Option.mem_toList.1 hr)
  simp [isStopReading, passEndRequest, readRequest, h.symm]

/-- The stop words read when a pass ends are one reading for each station that makes one. -/
theorem State.passEndReadings_eq (s : State) : s.passEndReadings = s.withRequests s.passEndRequests := by
  have hfold : ∀ (l : List StationId) (s : State), l.Nodup →
      l.foldl (fun s i => if s.readsAtPassEnd i then s.askStop i (.passEnd i) else s) s =
        s.withRequests (l.filterMap s.passEndRequest?) := by
    intro l
    induction l with
    | nil => intro s _; simp
    | cons i l ih =>
      intro s h
      obtain ⟨hi, hl⟩ := List.nodup_cons.1 h
      have hrest : l.filterMap (s.withRequests (s.passEndRequest? i).toList).passEndRequest? = l.filterMap s.passEndRequest? :=
        List.filterMap_congr (fun k hk =>
          State.passEndRequest?_withRequests (State.passEndRequest?_other (fun he => hi (he ▸ hk))))
      rw [List.foldl_cons, State.askStop_passEnd, ih _ hl, hrest, State.withRequests_append]
      congr 1
      cases hr : s.passEndRequest? i <;> simp [hr]
  exact hfold allStations s (by decide)

/-- The end of an event that ends no request and makes several: they join the list in some order. -/
theorem State.done_withRequests_settled {s u : State} (l : List Request) (hs : s.port.arriving = []) (hc : u.ctrl = s.ctrl)
    (hu : u.port = s.port) : ∃ (l' : List Request) (n : Nat), l'.Perm l ∧
      (u.withRequests l).done = .next { u with port := s.portWith l', choices := n } := by
  have harr : (u.withRequests l).port.arriving = l := by simp [State.withRequests, hu, hs]
  refine ⟨shuffle u.choices l, u.choices + choicesFor l.length, shuffle_perm l u.choices, ?_⟩
  rw [State.done, State.join, harr]
  show Host.Outcome.next { u with
    port := settlePort u.ctrl { u.port with list := u.port.list ++ _, arriving := [] }, choices := _ } = _
  rw [hc, hu]
  rfl

@[simp] theorem State.portWith_list (s : State) (l : List Request) : (s.portWith l).list = s.port.list ++ l :=
  settlePort_list _ _
@[simp] theorem State.portAfter_list (s : State) (l : List Request) : (s.portAfter l).list = s.port.list.tail ++ l :=
  settlePort_list _ _

/-! ## The start and the end of a pass (R36, R37, R38, R43) -/

theorem State.loadScanTimer_eq (s : State) : s.loadScanTimer = { s with
    scanTimer := if s.ctrl.scanEn = true ∧ s.scanIvl ≠ 0 then some s.scanIvl else s.scanTimer } := by
  simp only [State.loadScanTimer, Bool.and_eq_true, bne_iff_ne]
  split <;> rfl

/-- A pass at its start, over the board as the registers give it. -/
def State.newPass (s : State) : Pass :=
  { base := s.brdBase, slots := s.brdSlots, phase := .slotRead 0, candidates := [], current := none, place := false }

/-- The read of slot 0 that a pass begins with. -/
def State.firstSlotRead (s : State) : Request := readRequest .slotRead (slotAddress s.brdBase 0) 16

theorem State.startPass_reads {s : State} (h : s.brdSlots ≠ 0) : s.startPass =
    ({ s with scanTimer := none, passPending := false, pass := some s.newPass } : State).withRequests [s.firstSlotRead] :=
  if_neg h

/-- With BRDSLOTS 0 the pass ends at once. -/
theorem State.startPass_empty {s : State} (h : s.brdSlots = 0) : s.startPass = ({ s with
    scanTimer := if s.ctrl.scanEn = true ∧ s.scanIvl ≠ 0 then some s.scanIvl else none,
    passPending := false } : State).withRequests s.passEndRequests := by
  have hstart : s.startPass = ({ s with scanTimer := none, passPending := false } : State).passEndReadings.loadScanTimer := if_pos h
  rw [hstart, State.passEndReadings_eq, State.loadScanTimer_eq]
  rfl

/-- A pass ends with none pending. -/
theorem State.endPass_ends {s : State} (h : ¬(s.passPending = true ∧ s.ctrl.scanEn = true)) : s.endPass = ({ s with
    pass := none, passPending := false,
    scanTimer := if s.ctrl.scanEn = true ∧ s.scanIvl ≠ 0 then some s.scanIvl else s.scanTimer } : State).withRequests
      s.passEndRequests := by
  rw [State.endPass, if_neg (by simpa using h), State.passEndReadings_eq, State.loadScanTimer_eq]
  rfl

/-- A pass ends with one pending, which starts at once. -/
theorem State.endPass_again {s : State} (h : s.passPending = true ∧ s.ctrl.scanEn = true) (hslots : s.brdSlots ≠ 0) :
    s.endPass = ({ s with scanTimer := none, passPending := false, pass := some s.newPass } : State).withRequests
      (s.passEndRequests ++ [s.firstSlotRead]) := by
  let u : State := ({ s with pass := none } : State).withRequests s.passEndRequests
  have hend : s.endPass = ({ s with pass := none } : State).passEndReadings.startPass := if_pos (by simpa using h)
  have hread : ({ s with pass := none } : State).passEndReadings = u := State.passEndReadings_eq _
  rw [hend, hread, State.startPass_reads (s := u) hslots, ← State.withRequests_append]
  rfl

/-- STAT shows SCANNING in bit 2 (R168). -/
theorem State.statWord_scanning (s : State) : s.statWord.getLsbD 2 = s.pass.isSome := by
  have hbit : ∀ (b : Bool) (w : Nat), bit b w = if b then w else 0 := fun _ _ => rfl
  have hstat : s.statWord.getLsbD 2 = decide (bit s.pass.isSome 1 = 1) := by
    rw [State.statWord, BitVec.getLsbD_ofNat, Nat.testBit_eq_decide_div_mod_eq]
    simp only [Nat.reduceLT, decide_true, Bool.true_and, decide_eq_decide, hbit]
    split <;> split <;> split <;> omega
  rw [hstat]
  cases s.pass.isSome <;> rfl

/-- What a pass that starts makes of the state, whatever starts it (R36, R37). -/
theorem exec_starts {s : State} {c : Instr} (hen : s.ctrl.scanEn = true) (hp : s.pass = none)
    (hc : c = .look ∨ (c = .scanTimerExpiry ∧ s.scanTimer ≠ none)) : exec c s = s.startPass.done := by
  rcases hc with rfl | ⟨rfl, ht⟩
  · simp [exec, execLook, hen, hp]
  · simp [exec, execScanTimerExpiry, hen, hp, Option.isSome_iff_ne_none.2 ht]

/-- Settles O9: the reset state, with the queue of commands and the count of choices kept (log 21). -/
theorem powerOnResetState : Obligations.PowerOnResetState := fun _ => rfl

/-- Settles O13: the LOOK that is ignored or set pending, and the start of a pass over a board or over none. -/
theorem passStarts : Obligations.PassStarts := by
  intro s hs
  refine ⟨fun hen => by simp [exec, execLook, hen], fun hen hp => ?_, fun hen hp c hc => ⟨fun hslots => ?_, fun hslots => ?_⟩⟩
  · have hlook : exec .look s = ({ s with passPending := true } : State).done := by
      simp [exec, execLook, hen, Option.isSome_iff_ne_none.2 hp]
    rw [hlook]
    exact State.done_of_settled (s := { s with passPending := true }) hs
  · rw [exec_starts hen hp hc, State.startPass_reads hslots]
    exact State.done_request_one hs.1 rfl rfl
  · rw [exec_starts hen hp hc, State.startPass_empty hslots]
    obtain ⟨l, n, hperm, hdone⟩ := State.done_withRequests_settled (s := s) (u := { s with
      scanTimer := if s.ctrl.scanEn = true ∧ s.scanIvl ≠ 0 then some s.scanIvl else none,
      passPending := false }) s.passEndRequests hs.1 rfl rfl
    refine ⟨_, l, hdone, ?_, ?_, s.portWith_list l, hperm.nodup_iff.2 s.passEndRequests_nodup,
      fun r => hperm.mem_iff.trans State.mem_passEndRequests⟩
    · by_cases hivl : s.scanIvl = 0 <;> simp [hen, hivl]
    · rw [State.statWord_scanning]
      simp [hp]

/-! ## The read phase (R38, R40) -/

section
variable {s : State} {p : Pass} {n : Nat} {data : List Byte}

/-- A slot that is not held and not POSTED is passed over. -/
theorem State.takeSlot_passed (hp : s.pass = some p) (hph : p.phase = .slotRead n)
    (hheld : s.isHeld (slotAddress p.base n) = false) (hstate : slotState data ≠ 1) : s.takeSlot data = s := by
  simp [State.takeSlot, hp, hph, hheld, statePosted, hstate]

/-- A POSTED slot that is not held is a candidate. -/
theorem State.takeSlot_posted (hp : s.pass = some p) (hph : p.phase = .slotRead n)
    (hheld : s.isHeld (slotAddress p.base n) = false) (hstate : slotState data = 1) : s.takeSlot data = { s with
      pass := some { p with candidates := p.candidates ++
        [{ slot := n, addr := slotAddress p.base n, post := slotPost data, ticket := slotTicket data }] } } := by
  simp [State.takeSlot, hp, hph, hheld, statePosted, hstate, State.updPass]

/-- After the last slot, with every held slot reached: the claim phase, over the candidates in order. -/
theorem State.nextSlotRead_last (hp : s.pass = some p) (hph : p.phase = .slotRead n) (hn : p.slots ≤ n + 1)
    (hheld : s.unreachedHeld p = []) : s.nextSlotRead =
      ({ s with pass := some { p with candidates := sortCandidates p.candidates } } : State).nextCandidate := by
  simp [State.nextSlotRead, hp, hph, Nat.not_lt.2 hn, hheld, State.readHeld]

/-- What is requested for a candidate whose turn has come: its claim, or with the intake list full its kind code (R40). -/
def State.turnRequest (s : State) (c : Candidate) : Request :=
  if s.intakeCount < 8 then claimRequest c else readRequest .kindPeek c.ticket 16

/-- The pass at candidate `c`'s turn, `rest` behind it. -/
def State.atTurn (s : State) (p : Pass) (c : Candidate) (rest : List Candidate) : Pass :=
  { p with candidates := rest, current := some c, place := decide (s.intakeCount < 8),
           phase := if s.intakeCount < 8 then .claim else .kindPeek }

theorem State.nextCandidate_turn {c : Candidate} {rest : List Candidate} (hp : s.pass = some p) (hc : p.candidates = c :: rest) :
    s.nextCandidate = ({ s with pass := some (s.atTurn p c rest) } : State).withRequests [s.turnRequest c] := by
  by_cases hroom : s.intakeCount < 8
  · rw [State.nextCandidate_claims hp hc hroom, State.atTurn, State.turnRequest, State.withRequests_one]
    simp only [hroom, decide_true, if_true]
  · simp [State.nextCandidate, hp, hc, Config.intakePlaces, hroom, State.atTurn, State.turnRequest]
    rfl

/-- The turn of the next candidate at the end of a request of the scan half. -/
theorem State.nextCandidate_turn_done {u : State} {c : Candidate} {rest : List Candidate} (hs : s.port.arriving = [])
    (hctrl : u.ctrl = s.ctrl) (hu : u.port = s.endRequest.port) (hp : u.pass = some p) (hc : p.candidates = c :: rest) :
    u.nextCandidate.done = .next { u with port := s.portAfter [u.turnRequest c], pass := some (u.atTurn p c rest) } := by
  rw [State.nextCandidate_turn hp hc]
  exact State.done_withRequests (l := [u.turnRequest c]) (u := { u with pass := some (u.atTurn p c rest) }) hs hctrl hu
    (Nat.le_refl 1)

/-- The slot read that ends was no reading of a stop word for a station. -/
theorem State.passEndRequests_endRequest (h : s.serves .slotRead n) : s.endRequest.passEndRequests = s.passEndRequests := by
  obtain ⟨-, r, hr, hpurpose, -⟩ := h
  have hlist : s.port.list = r :: s.port.list.tail := by
    obtain ⟨-, -, hhead⟩ := State.serving_some hr
    cases hl : s.port.list <;> simp_all
  have hout : ∀ i, s.endRequest.stopOutstanding i = s.stopOutstanding i := by
    intro i
    have hread : isStopReading i r = false := by simp [isStopReading, hpurpose]
    simp only [State.stopOutstanding, State.endRequest, afterRequest_list, afterRequest_arriving]
    rw [hlist, List.any_cons, hread]
    rfl
  refine List.filterMap_congr (fun i _ => ?_)
  rw [State.passEndRequest?, State.passEndRequest?, hout]
  rfl

/-- SLOT_READ_DONE of a slot that is not held, a later one to come. -/
theorem exec_slotReadDone_next (hserves : s.serves .slotRead 16) (hd : data.length = 16) (hp : s.pass = some p)
    (hph : p.phase = .slotRead n) (hn : n + 1 < p.slots) (hheld : s.isHeld (slotAddress p.base n) = false) :
    exec (.slotReadDone data) s = .next { s with
      port := s.portAfter [readRequest .slotRead (slotAddress p.base (n + 1)) 16],
      pass := some { p with
        phase := .slotRead (n + 1),
        candidates := if slotState data = 1 then
            p.candidates ++ [{ slot := n, addr := slotAddress p.base n, post := slotPost data, ticket := slotTicket data }]
          else p.candidates } } := by
  let q : Pass := { p with candidates := if slotState data = 1 then
      p.candidates ++ [{ slot := n, addr := slotAddress p.base n, post := slotPost data, ticket := slotTicket data }]
    else p.candidates }
  have htake : s.endRequest.takeSlot data = { s.endRequest with pass := some q } := by
    by_cases hstate : slotState data = 1
    · rw [State.takeSlot_posted (s := s.endRequest) hp hph hheld hstate]
      simp only [q, if_pos hstate]
    · have hq : q = p := by simp only [q, if_neg hstate]
      rw [State.takeSlot_passed (s := s.endRequest) hp hph hheld hstate, hq, ← hp]
      rfl
  rw [exec_slotReadDone_of_serves hserves hd, htake, State.nextSlotRead_next (p := q) rfl hph hn]
  exact State.done_requestRead _ _ _ hserves.1 rfl rfl

/-- SLOT_READ_DONE of the last slot, neither held nor POSTED, no other slot held. -/
theorem exec_slotReadDone_last (hserves : s.serves .slotRead 16) (hd : data.length = 16) (hp : s.pass = some p)
    (hph : p.phase = .slotRead n) (hn : p.slots ≤ n + 1) (hreached : s.unreachedHeld p = [])
    (hheld : s.isHeld (slotAddress p.base n) = false) (hstate : slotState data ≠ 1) : exec (.slotReadDone data) s =
      ({ s.endRequest with pass := some { p with candidates := sortCandidates p.candidates } } : State).nextCandidate.done := by
  rw [exec_slotReadDone_of_serves hserves hd, State.takeSlot_passed (s := s.endRequest) hp hph hheld hstate,
    State.nextSlotRead_last (s := s.endRequest) hp hph hn hreached]

/-- The end of a pass at the read of its last slot. -/
theorem State.endPass_slotRead (hserves : s.serves .slotRead 16) (hslots : s.brdSlots ≠ 0) (q : Pass) : ∃ t l,
    ({ s.endRequest with pass := some q } : State).endPass.done = .next t ∧
      t.port.list = s.port.list.tail ++ l ∧ l.Nodup ∧
      (¬(s.passPending = true ∧ s.ctrl.scanEn = true) → t = { s with
          pass := none, passPending := false, port := t.port, choices := t.choices,
          scanTimer := if s.ctrl.scanEn = true ∧ s.scanIvl ≠ 0 then some s.scanIvl else s.scanTimer } ∧
        t.statWord.getLsbD 2 = false ∧ ∀ r, r ∈ l ↔ ∃ i j, s.passEndReads i j ∧ r = passEndRequest i j) ∧
      (s.passPending = true ∧ s.ctrl.scanEn = true → t = { s with
          pass := some s.newPass, passPending := false, port := t.port, choices := t.choices, scanTimer := none } ∧
        ∀ r, r ∈ l ↔ r = s.firstSlotRead ∨ ∃ i j, s.passEndReads i j ∧ r = passEndRequest i j) := by
  have hreadings : ({ s.endRequest with pass := some q } : State).passEndRequests = s.passEndRequests :=
    State.passEndRequests_endRequest hserves
  by_cases hagain : s.passPending = true ∧ s.ctrl.scanEn = true
  · rw [State.endPass_again (s := { s.endRequest with pass := some q }) hagain hslots, hreadings]
    obtain ⟨l, n, hperm, hdone⟩ := State.done_withRequests_perm (s := s) (u := { s.endRequest with
      scanTimer := none, passPending := false, pass := some s.newPass }) (s.passEndRequests ++ [s.firstSlotRead]) hserves.1 rfl rfl
    have hnew : s.firstSlotRead ∉ s.passEndRequests := by
      intro hr
      obtain ⟨i, j, -, he⟩ := State.mem_passEndRequests.1 hr
      cases congrArg Request.purpose he
    refine ⟨_, l, hdone, s.portAfter_list l, hperm.nodup_iff.2 ?_, fun h => absurd hagain h, fun _ => ⟨rfl, fun r => ?_⟩⟩
    · exact List.nodup_append_comm.1 (List.nodup_cons.2 ⟨hnew, s.passEndRequests_nodup⟩)
    · rw [hperm.mem_iff, List.mem_append, List.mem_singleton, State.mem_passEndRequests]
      exact or_comm
  · rw [State.endPass_ends (s := { s.endRequest with pass := some q }) hagain, hreadings]
    obtain ⟨l, n, hperm, hdone⟩ := State.done_withRequests_perm (s := s) (u := { s.endRequest with
      pass := none, passPending := false,
      scanTimer := if s.ctrl.scanEn = true ∧ s.scanIvl ≠ 0 then some s.scanIvl else s.scanTimer }) s.passEndRequests
        hserves.1 rfl rfl
    exact ⟨_, l, hdone, s.portAfter_list l, hperm.nodup_iff.2 s.passEndRequests_nodup, fun _ => ⟨rfl,
      State.statWord_scanning _, fun r => hperm.mem_iff.trans State.mem_passEndRequests⟩, fun h => absurd h hagain⟩

end

/-- Settles O14: a slot with a later one to come; the last slot with candidates or with none; the order of the candidates. -/
theorem slotReadPhase : Obligations.SlotReadPhase := by
  refine ⟨fun s p n data hserves hd hp hph hn hheld => exec_slotReadDone_next hserves hd hp hph hn hheld,
    fun s p n data hserves hd hp hph hn hreached hheld hstate => ?_, fun l => ?_⟩
  · rw [exec_slotReadDone_last hserves hd hp hph hn hreached hheld hstate]
    refine ⟨fun c rest hc => ?_, fun hnone hslots => ?_⟩
    · exact State.nextCandidate_turn_done (p := { p with candidates := sortCandidates p.candidates }) hserves.1 rfl rfl rfl hc
    · have hend : ({ s.endRequest with pass := some { p with candidates := sortCandidates p.candidates } } : State).nextCandidate =
          ({ s.endRequest with pass := some { p with candidates := sortCandidates p.candidates } } : State).endPass := by
        simp [State.nextCandidate, hnone, sortCandidates]
      rw [hend]
      exact State.endPass_slotRead hserves hslots _
  · obtain ⟨hperm, hpair⟩ := sortCandidates_spec l
    exact ⟨hperm, hpair.imp candidateBefore_iff.1⟩

end Sys2Proof.Machine
end

section
/-! PROOFS. The claim of a candidate (R40, R41, R173) and the end of its slot's task at DONE (R33, R49, R66). -/

namespace Sys2Proof.Machine

/-! ## The kind code and the claim (R40, R41) -/

section
variable {s : State} {p : Pass} {c : Candidate} {n : Nat} {data : List Byte}

theorem exec_kindPeekDone_of_serves (h : s.serves .kindPeek n) (hd : data.length = n) :
    exec (.kindPeekDone data) s = (s.endRequest.takePeek data).done :=
  State.completed_acts (act := fun s => s.takePeek data) h (fun r hp hn => by simp [answersRead, hp, hn, hd])

/-- A candidate of another kind than the fiche kind is claimed. -/
theorem State.takePeek_claims (hk : field data 0 2 ≠ 1) (hp : s.pass = some p) (hc : p.current = some c) :
    s.takePeek data = ({ s with pass := some { p with phase := .claim } } : State).withRequests [claimRequest c] := by
  simp [State.takePeek, ticketKind, ficheKind, hk, hp, hc, State.updPass]
  rfl

/-- A fiche candidate without a place is passed over, its slot left as it is. -/
theorem State.takePeek_passes (hk : field data 0 2 = 1) (hp : s.pass = some p) (hplace : p.place = false) :
    s.takePeek data = s.nextCandidate := by
  simp [State.takePeek, ticketKind, ficheKind, hk, State.skipCandidate, State.giveUpPlace, hp, hplace]

/-- The claim's read that found POSTED: the write of TAKEN follows within the same request, which stays on the bus (R173). -/
theorem exec_claimReadDone_posted (h : s.serves .claim n) (hd : data.length = n) (hlock : s.port.lockedWrite = false)
    (hstate : slotState data = 1) (hp : s.pass = some p) (hc : p.current = some c) :
    exec (.claimReadDone data) s = .next { s with
      port := { s.port with lockedWrite := true, transfer := 0, transferWait := s.ctrl.wait },
      pass := some { p with current := some { c with post := slotPost data, ticket := slotTicket data } } } := by
  obtain ⟨harr, r, hr, hpurpose, hlen⟩ := h
  obtain ⟨hmaster, -, -⟩ := State.serving_some hr
  have hlocks : exec (.claimReadDone data) s = (s.lockWrite data).done := by
    simp [exec, execClaimReadDone, hstate, statePosted, hr, answersRead, hpurpose, hlen, hd, hlock]
  have hlocked : s.lockWrite data = { s with
      port := { s.port with lockedWrite := true, transfer := 0, transferWait := s.ctrl.wait },
      pass := some { p with current := some { c with post := slotPost data, ticket := slotTicket data } } } := by
    simp only [State.lockWrite, State.updPass, hp, hc, Option.map_some]
    rfl
  rw [hlocks, hlocked]
  exact State.done_of_settled ⟨harr, by simp only [settlePort, hmaster]⟩

/-- The claim's read that found another value: the request ends, and the slot is skipped. -/
theorem exec_claimReadDone_other (h : s.serves .claim n) (hd : data.length = n) (hlock : s.port.lockedWrite = false)
    (hstate : slotState data ≠ 1) : exec (.claimReadDone data) s = s.endRequest.skipCandidate.done := by
  have hskips : exec (.claimReadDone data) s =
      s.completed (fun r => answersRead .claim data r && !s.port.lockedWrite) (fun _ s => s.skipCandidate) := by
    simp [exec, execClaimReadDone, statePosted, hstate]
  rw [hskips]
  exact State.completed_acts (act := State.skipCandidate) h (fun r hp hn => by simp [answersRead, hp, hn, hd, hlock])

theorem exec_claimWriteDone_of_serves (h : s.serves .claim n) (hlock : s.port.lockedWrite = true) :
    exec .claimWriteDone s = s.endRequest.takeClaim.done :=
  State.completed_acts (act := State.takeClaim) h (fun r hp _ => by simp [hp, hlock])

/-- The claimed slot is held, and the head of its ticket is read (R33, R42). -/
theorem State.takeClaim_holds (hp : s.pass = some p) (hc : p.current = some c) : s.takeClaim = ({ s with
    held := s.held ++ [{ slot := c.slot, addr := c.addr }],
    pass := some { p with phase := .ticketHead } } : State).requestRead .ticketHead c.ticket 16 := by
  simp [State.takeClaim, State.updPass, hp, hc]

end

/-- Settles O16: another kind is claimed; a fiche is passed over for the next candidate, whose kind code is read. -/
theorem kindPeekDecides : Obligations.KindPeekDecides := by
  intro s p c data hserves hd hp hc hplace
  rw [exec_kindPeekDone_of_serves hserves hd]
  refine ⟨fun hk => ?_, fun d rest hk hcand hfull => ?_⟩
  · rw [State.takePeek_claims (s := s.endRequest) hk hp hc]
    exact State.done_withRequests hserves.1 rfl rfl (Nat.le_refl 1)
  · have hroom : ¬s.endRequest.intakeCount < 8 := Nat.not_lt.2 hfull
    rw [State.takePeek_passes (s := s.endRequest) hk hp hplace,
      State.nextCandidate_turn_done (u := s.endRequest) hserves.1 rfl rfl hp hcand]
    simp only [State.turnRequest, State.atTurn, if_neg hroom, decide_eq_false hroom]
    rfl

/-- Settles O17: the locked write behind a POSTED read, the slot skipped behind any other, and the slot held. -/
theorem claimSequence : Obligations.ClaimSequence := by
  refine ⟨fun s p c data hserves hd hlock hp hc => ⟨fun hstate => exec_claimReadDone_posted hserves hd hlock hstate hp hc,
    fun d rest hstate hcalm hcand hroom => ?_⟩, fun s p c hserves hlock hp hc => ?_⟩
  · rw [exec_claimReadDone_other hserves hd hlock hstate, State.skipCandidate_claims (s := s.endRequest) hp
      (.inr (State.calm_of_view hcalm rfl)) hcand hroom]
    exact State.done_withRequests (l := [claimRequest d]) hserves.1 rfl rfl (Nat.le_refl 1)
  · rw [exec_claimWriteDone_of_serves hserves hlock, State.takeClaim_holds (s := s.endRequest) hp hc]
    exact State.done_requestRead _ _ _ hserves.1 rfl rfl

/-! ## DONE (R33, R49, R66) -/

theorem exec_doneWriteDone_of_serves {s : State} {n : Nat} (h : s.serves .doneWrite n) :
    exec .doneWriteDone s = s.endRequest.doneWritten.done :=
  State.completed_acts (act := State.doneWritten) h (fun r hp _ => by simp [hp])

/-- The writes of the task at the front of a list (R44). -/
def State.firstWrites (s : State) (ks : List Task) : List PlannedWrite := (ks.head?.map s.taskWrites).getD []

/-- A task's writes are those of its job's context. -/
theorem State.firstWrites_congr {s u : State} (h : u.jobs = s.jobs) (ks : List Task) : u.firstWrites ks = s.firstWrites ks := by
  have hwrites : u.taskWrites = s.taskWrites := by
    funext k
    cases k <;> simp [State.taskWrites, State.job, h]
  rw [State.firstWrites, State.firstWrites, hwrites]

/-- The writer with no write in progress: the oldest task's writes are planned, and the first is requested (R44). -/
theorem State.beginTask_plans {s : State} (hp : s.plan = []) : ∃ l : List Request, l.length ≤ 1 ∧
    s.beginTask = ({ s with plan := s.firstWrites s.tasks } : State).withRequests l := by
  unfold State.beginTask State.firstWrites
  cases ht : s.tasks with
  | nil => exact ⟨[], by simp, by cases s; simp_all⟩
  | cons k ks =>
    simp only [hp, State.issueWrite, List.head?_cons, Option.map_some, Option.getD_some]
    split
    · exact ⟨[_], Nat.le_refl 1, rfl⟩
    · exact ⟨[], by simp, by simp⟩

/-- The task in progress leaves the list with none waiting to join, and the next begins. -/
theorem State.leaveTask_next {s : State} {k : Task} {ks : List Task} (ht : s.tasks = k :: ks) (hw : s.waiters = []) :
    s.leaveTask = ({ s with tasks := ks, plan := [] } : State).beginTask.taskEnded k := by
  simp only [State.leaveTask, ht, hw]

/-- The jobs once task `k` has ended: a completed job's context is discarded (R66). -/
def State.jobsAfter (s : State) (k : Task) (a : Addr) : List Job :=
  if k = .completion a then s.jobs.filter (fun j => j.slotAddr != a) else s.jobs

/-- The end of a task that names the slot at `a` for good. -/
theorem State.taskEnded_slot {s : State} {k : Task} {a : Addr} (hk : k = .completion a ∨ ∃ o r len, k = .ticket a o r len) :
    s.taskEnded k = { s with jobs := s.jobsAfter k a } := by
  rcases hk with rfl | ⟨o, r, len, rfl⟩
  · simp [State.taskEnded, State.jobsAfter]
  · simp [State.taskEnded, State.jobsAfter]

/-- The slot of the task in progress leaves the held-slot set (R33). -/
theorem State.dropHeld_eq {s : State} {k : Task} {ks : List Task} (ht : s.tasks = k :: ks) :
    s.dropHeld = { s with held := s.held.filter (fun h => h.addr != k.slotAddr) } := by
  simp only [State.dropHeld, ht]

/-- DONE written: the count, the held slot, the task and a completed job's context (R49). -/
theorem State.doneWritten_eq {s : State} {a : Addr} {k : Task} {ks : List Task} (hw : s.waiters = []) (ht : s.tasks = k :: ks)
    (hk : k = .completion a ∨ ∃ o r len, k = .ticket a o r len) : ∃ l : List Request, l.length ≤ 1 ∧ s.doneWritten = ({ s with
      doneCount := min 65535 (s.doneCount + 1), held := s.held.filter (fun h => h.addr != a), tasks := ks,
      plan := s.firstWrites ks, jobs := s.jobsAfter k a } : State).withRequests l := by
  have haddr : k.slotAddr = a := by rcases hk with rfl | ⟨o, r, len, rfl⟩ <;> rfl
  let v : State := { s with doneCount := min 65535 (s.doneCount + 1), held := s.held.filter (fun h => h.addr != a) }
  let u : State := { v with tasks := ks, plan := [] }
  have hdrop : s.doneWritten = v.leaveTask := by
    rw [State.doneWritten, State.dropHeld_eq (s := { s with doneCount := satAdd 65535 s.doneCount 1 }) ht, haddr]
    rfl
  obtain ⟨l, hl, hbegin⟩ := State.beginTask_plans (s := u) rfl
  have hplan : u.firstWrites u.tasks = s.firstWrites ks := State.firstWrites_congr rfl ks
  refine ⟨l, hl, ?_⟩
  rw [hdrop, State.leaveTask_next (s := v) ht hw, hbegin, hplan, State.taskEnded_slot hk]
  rfl

/-- Settles O30: the DONE write's end, and whatever the next task requests joins the list. -/
theorem doneWriteCounts : Obligations.DoneWriteCounts := by
  intro s n a k ks hserves hw ht hk
  obtain ⟨l, hl, hdone⟩ := State.doneWritten_eq (s := s.endRequest) hw ht hk
  rw [exec_doneWriteDone_of_serves hserves, hdone]
  refine ⟨_, State.done_withRequests hserves.1 rfl rfl hl, ?_, settlePort_arriving _ _⟩
  cases ks <;> rfl

end Sys2Proof.Machine
end

section
/-! PROOFS. The head window (R120): the DEAD count of every window from the counts before each emitter, the order among
windows, and the best of a list of them. -/

namespace Sys2Proof.Machine

/-! ## The DEAD emitters of each window -/

/-- Entry `k` of the running count is the DEAD emitters below emitter `k`. -/
theorem deadBefore_getElem? (statuses : List EmitterStatus) : ∀ n k, k ≤ statuses.length →
    (deadBefore n statuses)[k]? = some (n + (statuses.take k).count .dead) := by
  induction statuses with
  | nil => intro n k hk; simp [deadBefore, Nat.le_zero.1 hk]
  | cons e l ih =>
    intro n k hk
    cases k with
    | zero => simp [deadBefore]
    | succ k =>
      rw [deadBefore, List.getElem?_cons_succ, ih _ k (by simpa using hk), List.take_succ_cons, List.count_cons]
      by_cases he : e = .dead <;> simp [he]; omega

theorem deadBefore_length (n : Nat) (statuses : List EmitterStatus) : (deadBefore n statuses).length = statuses.length + 1 := by
  induction statuses generalizing n with
  | nil => rfl
  | cons e l ih => simp [deadBefore, ih]

/-- The count for the window at offset `o` is the DEAD emitters in it; only windows on the head have one. -/
theorem windowCounts_getElem? (statuses : List EmitterStatus) (ew o : Nat) : (windowCounts statuses ew)[o]? =
    if o + ew ≤ statuses.length then some (((statuses.drop o).take ew).count .dead) else none := by
  rw [windowCounts, List.getElem?_zipWith, List.getElem?_drop]
  by_cases h : o + ew ≤ statuses.length
  · have hsplit : (statuses.take (ew + o)).count .dead =
        (statuses.take o).count .dead + ((statuses.drop o).take ew).count .dead := by
      rw [Nat.add_comm, List.take_add, List.count_append]
    rw [if_pos h, deadBefore_getElem? statuses 0 o (by omega), deadBefore_getElem? statuses 0 (ew + o) (by omega), hsplit]
    simp
  · rw [if_neg h, List.getElem?_eq_none (by rw [deadBefore_length]; omega)]

/-! ## The better of two windows -/

theorem centreDistance_eq (ew o : Nat) :
    centreDistance ew o = max o ((Config.emitters - ew) / 2) - min o ((Config.emitters - ew) / 2) := by
  unfold centreDistance
  dsimp only
  split <;> omega

/-- Window `a` (offset, DEAD count) is at least as good as `b`: fewer DEAD, or as many and nearer to the centre, or as near
and no higher (R120). -/
def asGood (ew : Nat) (a b : Nat × Nat) : Prop :=
  a.2 < b.2 ∨ (a.2 = b.2 ∧ (centreDistance ew a.1 < centreDistance ew b.1 ∨
    (centreDistance ew a.1 = centreDistance ew b.1 ∧ a.1 ≤ b.1)))

theorem asGood.trans {ew : Nat} {a b c : Nat × Nat} (h : asGood ew a b) (g : asGood ew b c) : asGood ew a c := by
  unfold asGood at *; omega

/-- The better of two windows is one of them, and as good as both. -/
theorem betterWindow_spec {ew : Nat} {a b : Nat × Nat} (h : a.1 ≤ b.1) :
    (betterWindow ew a b = a ∨ betterWindow ew a b = b) ∧ asGood ew (betterWindow ew a b) a ∧
      asGood ew (betterWindow ew a b) b := by
  unfold betterWindow asGood
  repeat' split
  all_goals simp only [true_or, or_true, true_and]
  all_goals omega

/-- The best of a list of windows that begins at offset `o`, against the best so far: one of them all, and as good as each. -/
theorem bestWindowFrom_spec {ew : Nat} (counts : List Nat) : ∀ {best : Nat × Nat} {o : Nat}, best.1 < o →
    let w := bestWindowFrom ew best o counts
    (w = best ∨ ∃ k, counts[k]? = some w.2 ∧ w.1 = o + k) ∧ asGood ew w best ∧
      ∀ k c, counts[k]? = some c → asGood ew w (o + k, c) := by
  induction counts with
  | nil => intro best o _; exact ⟨.inl rfl, by simp [bestWindowFrom, asGood], by simp⟩
  | cons c counts ih =>
    intro best o ho
    obtain ⟨hone, hbest, hhere⟩ := betterWindow_spec (ew := ew) (a := best) (b := (o, c)) (Nat.le_of_lt ho)
    have hlt : (betterWindow ew best (o, c)).1 < o + 1 := by rcases hone with h | h <;> rw [h] <;> simp; omega
    obtain ⟨hmem, hgood, hrest⟩ := ih hlt
    refine ⟨?_, hgood.trans hbest, fun k c' hk => ?_⟩
    · rcases hmem with hmem | ⟨k, hk, hoff⟩
      · rcases hone with h | h
        · exact .inl (hmem.trans h)
        · have hw : bestWindowFrom ew best o (c :: counts) = (o, c) := hmem.trans h
          exact .inr ⟨0, by simp [hw], by simp [hw]⟩
      · exact .inr ⟨k + 1, by simpa [bestWindowFrom] using hk, by rw [bestWindowFrom, hoff]; omega⟩
    · cases k with
      | zero => obtain rfl : c = c' := by simpa using hk
                exact hgood.trans hhere
      | succ k =>
        have hnext := hrest k c' (by simpa using hk)
        rwa [show o + 1 + k = o + (k + 1) by omega] at hnext

/-- The window chosen is one of those on the head, and as good as every one. -/
theorem chooseWindow_spec {statuses : List EmitterStatus} {ew : Nat} (h : ew ≤ statuses.length) :
    (windowCounts statuses ew)[(chooseWindow statuses ew).1]? = some (chooseWindow statuses ew).2 ∧
      ∀ o c, (windowCounts statuses ew)[o]? = some c → asGood ew (chooseWindow statuses ew) (o, c) := by
  cases hc : windowCounts statuses ew with
  | nil =>
    have hfirst := windowCounts_getElem? statuses ew 0
    rw [hc, if_pos (by omega)] at hfirst
    simp at hfirst
  | cons c l =>
    have hw : chooseWindow statuses ew = bestWindowFrom ew (0, c) 1 l := by simp only [chooseWindow, hc]
    obtain ⟨hmem, hgood, hrest⟩ := bestWindowFrom_spec (ew := ew) l (best := (0, c)) (o := 1) (by simp)
    rw [hw]
    refine ⟨?_, fun o c' ho => ?_⟩
    · rcases hmem with hmem | ⟨k, hk, hoff⟩
      · rw [hmem]; rfl
      · rw [hoff, Nat.add_comm]; exact hk
    · cases o with
      | zero => obtain rfl : c = c' := by simpa using ho
                exact hgood
      | succ o => rw [Nat.add_comm]; exact hrest o c' (by simpa using ho)

/-- Settles O58: the window chosen is as good as every window on the head, whose count is its DEAD emitters. -/
theorem headWindowIsTheBest : Obligations.HeadWindowIsTheBest := by
  intro statuses ew hlength _ hew dead far w
  obtain ⟨hmem, hgood⟩ := chooseWindow_spec (statuses := statuses) (ew := ew) (by omega)
  have hfar : ∀ o, centreDistance ew o = far o := centreDistance_eq ew
  have hcount : ∀ o, o + ew ≤ 2048 → (windowCounts statuses ew)[o]? = some (dead o) := by
    intro o ho
    rw [windowCounts_getElem?, if_pos (by omega)]
  have hon : w.1 + ew ≤ 2048 := by
    by_contra hoff
    rw [windowCounts_getElem?, if_neg (by rw [hlength]; exact hoff)] at hmem
    cases hmem
  have hdead : w.2 = dead w.1 := Option.some.inj (hmem.symm.trans (hcount w.1 hon))
  refine ⟨hon, hdead, fun o ho => ?_⟩
  have hbest : asGood ew w (o, dead o) := hgood o (dead o) (hcount o ho)
  simpa only [asGood, hfar, hdead] using hbest

end Sys2Proof.Machine
end

section
/-! PROOFS. The completion of a band's stop word reading (R123, R124): kept for the boundary, or the held frame aborted. -/

namespace Sys2Proof.Machine

/-- A stop is seen at a station: the flag is set in its job's context (R61). -/
theorem State.seeStop_of_attached {s : State} {i : StationId} {j : Job} (hj : s.attached i = some j) :
    s.seeStop i = s.updJob j.slotAddr (fun k => { k with stopSeen := true }) := by
  simp [State.seeStop, hj]

/-- A held or exposed frame of an open sheet aborted: its row requests withdrawn, the void pass to come (R102, R124, R125). -/
theorem State.abortFrame_eq {s : State} {i : StationId} {sh : Sheet} (status : FrameStatus) (hsh : (s.st i).sheet = some sh) :
    s.abortFrame i status = (s.withdraw (fun r => r.purpose == .row i)).updSt i (fun x => { x with
      sheet := some { sh with openEntry := sh.openEntry.map (fun e => { e with status := status }) },
      activity := .returnMove, moveOut := true, drive := [], driveSaturated := 0, bandReading := none,
      mapping := none, bufA := .empty, bufB := .empty }) := by
  simp only [State.abortFrame, State.endMapping, State.updEntry, State.updSheet, State.updSt_updSt]
  have hst : ((s.withdraw (fun r => r.purpose == .row i)).st i).sheet = some sh := hsh
  exact State.updSt_congr (by simp [hst])

/-- A withdrawal leaves nothing on its way that was not. -/
theorem State.withdraw_arriving {s : State} {p : Request → Bool} (h : s.port.arriving = []) :
    (s.withdraw p).port.arriving = [] := by
  simp [State.withdraw, h]

/-- The end of an event that made no request: only the port's taking up of its list is left. -/
theorem State.done_of_none {u : State} (h : u.port.arriving = []) :
    ∃ port, u.done = .next { u with port := port } ∧ port.list = u.port.list := by
  refine ⟨_, by rw [State.done, State.join_of_none h], by simp⟩

/-- Settles O43: the value kept by one change of the station, a held frame's abort by the withdrawal of its row requests. -/
theorem bandReading : Obligations.BandReading := by
  intro s i n stop hserves
  have harr : s.endRequest.port.arriving = [] := by simp [State.endRequest, hserves.1]
  have keeps : ∀ {v : Word}, s.endRequest.bandRead i (v != 0) =
        s.endRequest.updSt i (fun x => { x with bandReading := some (v != 0) }) →
      exec (.bandReadingDone v) s = .next { s with
        port := s.portAfter [],
        stations := (s.updSt i (fun x => { x with bandReading := some (v != 0) })).stations } := by
    intro v hread
    rw [exec_bandReadingDone_of_serves v hserves, hread]
    exact State.done_endRequest_none hserves.1 rfl rfl
  refine ⟨fun k hact => keeps ?_, fun b hact => keeps ?_, fun b j sh hact hstop hj hsh => ?_⟩
  · have hact' : (s.endRequest.st i).activity = .line .page k := hact
    simp [State.bandRead, hact']
  · have hact' : (s.endRequest.st i).activity = .lineHold b := hact
    simp [State.bandRead, hact']
  · have hact' : (s.endRequest.st i).activity = .lineHold b := hact
    have hread : s.endRequest.bandRead i (stop != 0) = (s.endRequest.seeStop i).abortFrame i .voidStop := by
      rw [bne_iff_ne.2 hstop]
      simp [State.bandRead, hact']
    have hseen := State.seeStop_of_attached (s := s.endRequest) (i := i) (j := j) hj
    have habort := State.abortFrame_eq (s := s.endRequest.seeStop i) (i := i) (sh := sh) .voidStop (by rw [hseen]; exact hsh)
    obtain ⟨port, hdone, hlist⟩ := State.done_of_none (u := (s.endRequest.seeStop i).abortFrame i .voidStop)
      (by rw [habort, hseen]; exact State.withdraw_arriving harr)
    refine ⟨_, by rw [exec_bandReadingDone_of_serves stop hserves, hread, hdone], ?_, fun r hr => ?_⟩
    · rw [habort, hseen]; rfl
    · rw [show (({ (s.endRequest.seeStop i).abortFrame i .voidStop with port := port } : State).port.list) = _ from hlist,
        habort] at hr
      have hpass := (State.withdraw_spec (s.endRequest.seeStop i) (fun r => r.purpose == .row i)).2.1 r hr
      simpa using hpass

end Sys2Proof.Machine
end

section
/-! PROOFS. The completion of a reading at a pass's end (R60, R65): the end of an attached job where the write list has room,
and the dispatcher at rest behind it. -/

namespace Sys2Proof.Machine

/-- A station whose doze timer alone may differ. -/
def State.dozesAlone (s t : State) : Prop := ∀ q, t.st q = { s.st q with dozeTimer := (t.st q).dozeTimer }

/-- The dispatcher looks at no doze timer: a state at rest is at rest with other doze timers. -/
theorem State.atRest_of_dozesAlone {v u : State} (h : v.atRest) (hw : u.waiters = v.waiters) (he : u.endQueue = v.endQueue)
    (hj : u.jobs = v.jobs) (hp : u.pass = v.pass) (hcals : u.cals = v.cals) (hst : v.dozesAlone u) : u.atRest := by
  refine State.atRest_of_matches h hw he hj hp (fun k hk => ?_)
  have hk' : u.free k = v.free k := by simp only [State.free, State.attached, hj]; rw [hst k]
  have hfits : u.fitsJob k = v.fitsJob k := by
    funext q; simp only [State.fitsJob, State.cal, hcals]; rw [hst k]; rfl
  exact ⟨hk' ▸ hk, hfits⟩

/-- The job of the slot at `a` ends where the write list has room: FINISHING, its completion task added with one request at
most, and of the stations nothing but a doze timer touched (R65, R72). -/
theorem State.finishJob_of_room {s : State} {a : Addr} {j : Job} (o : TicketOutcome) (h : s.job a = some j)
    (hroom : s.listRoom 1) : ∃ (stations : PerStation Station) (plan : List PlannedWrite) (l : List Request), l.length ≤ 1 ∧
      s.dozesAlone { s with stations := stations } ∧
      s.finishJob a o = ({ s with
        jobs := s.jobsWith a (·.finished o), tasks := s.tasks ++ [.completion a], plan := plan, stations := stations } :
          State).withRequests l := by
  obtain ⟨u, hfinish, hjobs, hsame, hst⟩ := State.finishJob_spec o h
  have hroom' : u.listRoom 1 := by rw [← hsame] at hroom; exact hroom
  obtain ⟨plan, l, hl, hadd⟩ := State.addTask_of_room (.completion a) hroom'
  refine ⟨u.stations, plan, l, hl, hst, ?_⟩
  rw [hfinish, hadd, ← hsame]
  simp only [State.jobsWith]
  rw [← hjobs]

/-- The end of a job whose end need not wait, at a station or not, and the dispatcher at rest behind it (R65). -/
theorem State.endJob_settles {s : State} {a : Addr} {j : Job} (o : TicketOutcome) (h : s.job a = some j)
    (hroom : s.listRoom 1) (hrest : ({ s with jobs := s.jobsWith a (·.finished o) } : State).atRest) :
    ∃ (stations : PerStation Station) (plan : List PlannedWrite) (l : List Request), l.length ≤ 1 ∧
      s.dozesAlone { s with stations := stations } ∧
      (s.endJob a o).settle = ({ s with
        jobs := s.jobsWith a (·.finished o), tasks := s.tasks ++ [.completion a], plan := plan, stations := stations } :
          State).withRequests l := by
  obtain ⟨stations, plan, l, hl, hst, hend⟩ := State.finishJob_of_room o h hroom
  refine ⟨stations, plan, l, hl, hst, ?_⟩
  rw [State.endJob, if_neg (by simp [hroom.not_dispatcherWaits]), hend]
  exact State.settle_of_rest (State.atRest_of_dozesAlone hrest rfl rfl rfl rfl rfl hst)

/-- Settles O34: no stop leaves the job, a stop sets its flag, and a waiting job's end goes by `State.endJob_settles`. -/
theorem passEndReading : Obligations.PassEndReading := by
  intro s i n stop j hserves hj he
  have hatt : s.endRequest.attached i = some j := hj
  let seen : Job → Job := fun k => { k with stopSeen := true }
  refine ⟨?_, fun hstop ha => ?_, fun hstop hw hroom hrest => ?_⟩
  · have hread : s.endRequest.passEndRead i false = s.endRequest := by simp [State.passEndRead, hatt]
    rw [exec_passEndReadingDone_of_serves 0 hserves, show ((0 : Word) != 0) = false from rfl, hread]
    exact State.done_endRequest_none hserves.1 rfl rfl
  · have hread : s.endRequest.passEndRead i true = s.endRequest.updJob j.slotAddr seen := by
      simp [State.passEndRead, hatt, he, ha]; rfl
    rw [exec_passEndReadingDone_of_serves stop hserves, bne_iff_ne.2 hstop, hread]
    exact State.done_endRequest_none hserves.1 rfl rfl
  · have hread : s.endRequest.passEndRead i true =
        ((s.endRequest.updJob j.slotAddr seen).endJob j.slotAddr .stopped).settle := by
      simp [State.passEndRead, hatt, he, hw]; rfl
    have hjob : ∃ k, (s.endRequest.updJob j.slotAddr seen).job j.slotAddr = some k := by
      have hsome : (s.endRequest.job j.slotAddr).isSome :=
        List.find?_isSome.2 ⟨j, (State.attached_spec hj).1, by simp⟩
      obtain ⟨k, hk⟩ := Option.isSome_iff_exists.1 hsome
      exact ⟨_, by rw [State.job_updJob (f := seen) (fun _ => rfl), hk]; rfl⟩
    obtain ⟨k, hk⟩ := hjob
    have hjobs : (s.endRequest.updJob j.slotAddr seen).jobsWith j.slotAddr (·.finished .stopped) =
        s.jobsWith j.slotAddr (fun k => Job.finished { k with stopSeen := true } .stopped) :=
      congrArg State.jobs (State.updJob_updJob (s := s.endRequest) (f := seen) (g := (·.finished .stopped)) (fun _ => rfl))
    obtain ⟨stations, plan, l, hl, hst, hends⟩ := State.endJob_settles .stopped hk hroom
      (State.atRest_of_view hrest (by rw [State.dispatchView, hjobs]; rfl) (Nat.le_refl _))
    have hexec := (exec_passEndReadingDone_of_serves stop hserves).trans (by rw [bne_iff_ne.2 hstop, hread, hends, hjobs])
    refine ⟨_, hexec.trans (State.done_withRequests hserves.1 rfl rfl hl), ⟨?_, rfl, hroom.2⟩, rfl, hst⟩
    exact hjobs.symm

end Sys2Proof.Machine
end

section
/-! PROOFS. The pages accounted for, as a ledger (R67): what the count of the pages looks at in a state's jobs, sheets and
tasks, the rule the ledger keeps, and what it keeps when one job changes. -/

namespace Sys2Proof.Machine

/-! ## The pages of a count (R62, R63) -/

/-- The release values of some frames raise the sum of the counts by the pages they carry. -/
theorem PageCounts.total_add (c : PageCounts) (release : FrameStatus → Release) (entries : List FrameEntry) :
    (c.add release entries).total = c.total + pagesOn entries := by
  induction entries generalizing c with
  | nil => rfl
  | cons e entries ih =>
    rw [PageCounts.add, List.foldl_cons, ← PageCounts.add, ih]
    cases hp : e.page with
    | none => simp [pagesOn, hp]
    | some n => cases release e.status <;> simp [pagesOn, hp, PageCounts.total] <;> omega

/-- The pages of a job's lost sheet that its counts do not yet hold, the frame in flight included. -/
def Job.lostPages (j : Job) : Nat := (j.lostSheet.map (fun l => pagesOn (l.map ++ l.inFlight.toList))).getD 0

/-- The five counts of an ended job: what was counted before, the lost pages, and the pages not reached (R63, R65). -/
theorem Job.finished_total (j : Job) (o : TicketOutcome) :
    (j.finished o).counts.total = j.counts.total + j.lostPages + (j.pageCount - j.nextPage) := by
  have hnot : ∀ (c : PageCounts) (n : Nat), PageCounts.total { c with notExposed := c.notExposed + n } = c.total + n := by
    intro c n; simp only [PageCounts.total]; omega
  unfold Job.finished Job.lostPages
  simp only [hnot]
  cases j.lostSheet with
  | none => rfl
  | some l => simp only [PageCounts.total_add]; rfl

/-! ## The ledger -/

/-- What the count of the pages looks at in a job's context. -/
structure JobAccount where
  slotAddr : Addr
  station : Option StationId
  state : JobState
  ends : Bool
  returns : Bool
  lost : Option Nat
  counted : Nat
  nextPage : Nat
  pageCount : Nat

def Job.account (j : Job) : JobAccount :=
  { slotAddr := j.slotAddr, station := j.station, state := j.state, ends := j.ending.isSome, returns := j.returnPending,
    lost := j.lostSheet.map (fun l => pagesOn (l.map ++ l.inFlight.toList)), counted := j.counts.total,
    nextPage := j.nextPage, pageCount := j.pageCount }

/-- The job can have a sheet at its station: in SHEET_ACTIVE, with no end and no return waiting, and no sheet lost. -/
def JobAccount.works (j : JobAccount) : Prop :=
  j.state = .sheetActive ∧ j.ends = false ∧ j.returns = false ∧ j.lost = none

/-- The pages on a sheet present, the frame in flight included. -/
def Sheet.pages (sh : Sheet) : Nat := pagesOn (sh.map ++ sh.openEntry.toList)

/-- The slot whose completion a task is. -/
def Task.completes : Task → Option Addr
  | .completion a => some a
  | _ => none

/-- What the count of the pages looks at in a state. -/
structure Ledger where
  jobs : List JobAccount
  /-- The slots of the completion tasks on their way. -/
  completions : List Addr
  /-- The pages of the sheet present at a station. -/
  sheets : StationId → Option Nat
  /-- The pages of the sheet stacked at a station. -/
  stacked : StationId → Option Nat

def State.completions (s : State) : List Addr := (s.tasks ++ s.waiters).filterMap Task.completes

def State.ledger (s : State) : Ledger :=
  { jobs := s.jobs.map Job.account, completions := s.completions, sheets := fun i => (s.st i).sheet.map Sheet.pages,
    stacked := fun i => (s.st i).stacked.map (fun sh => pagesOn sh.map) }

/-- The pages on a job's sheets that its counts do not hold. -/
def Ledger.uncounted (L : Ledger) (j : JobAccount) : Nat :=
  (match j.station with | some i => (L.sheets i).getD 0 + (L.stacked i).getD 0 | none => 0) + j.lost.getD 0

/-- The job's counts account for its pages (`State.jobAccounts`). -/
structure Ledger.accounts (L : Ledger) (j : JobAccount) : Prop where
  reached : j.nextPage ≤ j.pageCount
  sum : if j.state = .finishing then j.counted = j.pageCount ∧ j.ends = false else j.counted + L.uncounted j = j.nextPage
  offStation : j.state = .queued ∨ j.state = .finishing → j.station = none ∧ j.returns = false
  lost : j.lost ≠ none → j.station = none ∧ (j.state = .finishing ∨ j.ends = true)

/-- The ledger balances: its part of `State.pagesAccounted`. -/
structure Ledger.balanced (L : Ledger) : Prop where
  slots : (L.jobs.map (·.slotAddr)).Nodup
  stations : (L.jobs.filterMap (·.station)).Nodup
  works : ∀ i, L.sheets i ≠ none ∨ L.stacked i ≠ none → ∃ j ∈ L.jobs, j.station = some i ∧ j.works
  oneSheet : ∀ i, L.sheets i ≠ none → L.stacked i = none
  accounts : ∀ j ∈ L.jobs, L.accounts j
  tasksOnce : L.completions.Nodup
  tasksEnded : ∀ a ∈ L.completions, ∃ j ∈ L.jobs, j.slotAddr = a ∧ j.state = .finishing

/-- The job at station `i`, if any, has a page left to reach. -/
def Ledger.pagesLeft (L : Ledger) (i : StationId) : Prop := ∀ j ∈ L.jobs, j.station = some i → j.nextPage < j.pageCount

/-! ## What is alone at its slot or its station -/

/-- Of a list with no key twice, two members with one key are one. -/
theorem eq_of_filterMap_nodup {α β : Type} {l : List α} {f : α → Option β} (hn : (l.filterMap f).Nodup) {a b : α} {k : β}
    (ha : a ∈ l) (hb : b ∈ l) (hfa : f a = some k) (hfb : f b = some k) : a = b := by
  by_contra hne
  have hsymm : Std.Symm (fun a a' => ∀ k, f a = some k → ∀ k', f a' = some k' → k ≠ k') :=
    ⟨fun _ _ h q hq q' hq' => (h q' hq' q hq).symm⟩
  exact (List.pairwise_filterMap.1 hn).forall ha hb hne k hfa k hfb rfl

/-- A list keeps no key twice when one member's key changes to none, or to one that no other member has. -/
theorem filterMap_nodup_change {α β : Type} {l : List α} {f : α → Option β} (g : α → α) (hn : (l.filterMap f).Nodup) {a : α}
    (hg : ∀ b ∈ l, b ≠ a → f (g b) = f b) (hd : l.Nodup)
    (hnew : ∀ k, f (g a) = some k → ∀ b ∈ l, b ≠ a → f b ≠ some k) : ((l.map g).filterMap f).Nodup := by
  rw [List.filterMap_map, List.Nodup, List.pairwise_filterMap]
  refine ((List.pairwise_filterMap.1 hn).and hd).imp_of_mem (fun {b c} hb hc h k hk k' hk' => ?_)
  obtain ⟨hkeys, hne⟩ := h
  by_cases hba : b = a
  · subst hba
    rintro rfl
    exact hnew k hk c hc (Ne.symm hne) (hg c hc (Ne.symm hne) ▸ hk')
  · have hfb : f b = some k := hg b hb hba ▸ hk
    by_cases hca : c = a
    · subst hca
      rintro rfl
      exact hnew k hk' b hb hba hfb
    · exact hkeys k hfb k' (hg c hc hca ▸ hk')

theorem Ledger.balanced.eq_of_slot {L : Ledger} (h : L.balanced) {j k : JobAccount} (hj : j ∈ L.jobs) (hk : k ∈ L.jobs)
    (he : k.slotAddr = j.slotAddr) : k = j := List.inj_on_of_nodup_map h.slots hk hj he

theorem Ledger.balanced.eq_of_station {L : Ledger} (h : L.balanced) {j k : JobAccount} {i : StationId} (hj : j ∈ L.jobs)
    (hk : k ∈ L.jobs) (hsj : j.station = some i) (hsk : k.station = some i) : k = j :=
  eq_of_filterMap_nodup h.stations hk hj hsk hsj

/-! ## One job changes -/

/-- Ledger `M` is `L` with job `j` become `j'`: the other jobs, and the sheets at stations that neither of the two names, are
as they were. -/
structure Ledger.changes (L M : Ledger) (j j' : JobAccount) : Prop where
  mem : j ∈ L.jobs
  jobs : M.jobs = L.jobs.map (fun k => if k.slotAddr = j.slotAddr then j' else k)
  slot : j'.slotAddr = j.slotAddr
  others : ∀ i, j.station ≠ some i → j'.station ≠ some i → M.sheets i = L.sheets i ∧ M.stacked i = L.stacked i

theorem Ledger.changes.mem_jobs {L M : Ledger} {j j' k : JobAccount} (h : L.changes M j j') (hL : L.balanced) :
    k ∈ M.jobs ↔ k = j' ∨ (k ∈ L.jobs ∧ k ≠ j) := by
  rw [h.jobs, List.mem_map]
  constructor
  · rintro ⟨q, hq, rfl⟩
    by_cases hs : q.slotAddr = j.slotAddr
    · exact .inl (if_pos hs)
    · rw [if_neg hs]; exact .inr ⟨hq, fun he => hs (he ▸ rfl)⟩
  · rintro (rfl | ⟨hk, hne⟩)
    · exact ⟨j, h.mem, if_pos rfl⟩
    · exact ⟨k, hk, if_neg (fun hs => hne (hL.eq_of_slot h.mem hk hs))⟩

/-- A ledger balances still when one job changes, and with it what its station has: `j'` names no station that another job
has, works when a sheet is at its station, and accounts for its pages; a sheet is left at no station it leaves; its
completion task is on its way no second time. -/
theorem Ledger.balanced.change {L M : Ledger} {j j' : JobAccount} (hL : L.balanced) (h : L.changes M j j')
    (hfree : ∀ i, j'.station = some i → ∀ k ∈ L.jobs, k.station = some i → k = j)
    (hleft : ∀ i, j.station = some i → j'.station ≠ some i → M.sheets i = none ∧ M.stacked i = none)
    (hworks : ∀ i, j'.station = some i → M.sheets i ≠ none ∨ M.stacked i ≠ none → j'.works)
    (hone : ∀ i, j'.station = some i → M.sheets i ≠ none → M.stacked i = none)
    (haccounts : M.accounts j') (hends : j.state = .finishing → j'.state = .finishing)
    (htasks : M.completions = L.completions ∨
      (M.completions.Perm (j.slotAddr :: L.completions) ∧ j.state ≠ .finishing ∧ j'.state = .finishing)) :
    M.balanced := by
  have hslots : M.jobs.map (·.slotAddr) = L.jobs.map (·.slotAddr) := by
    rw [h.jobs, List.map_map]
    refine List.map_congr_left (fun k _ => ?_)
    by_cases hs : k.slotAddr = j.slotAddr <;> simp [hs, h.slot]
  have hother : ∀ k ∈ L.jobs, k ≠ j → ∀ i, k.station = some i → M.sheets i = L.sheets i ∧ M.stacked i = L.stacked i := by
    intro k hk hne i hi
    exact h.others i (fun hji => hne (hL.eq_of_station h.mem hk hji hi)) (fun hji => hne (hfree i hji k hk hi))
  refine ⟨hslots ▸ hL.slots, ?_, fun i hi => ?_, fun i hi => ?_, fun k hk => ?_, ?_, fun a ha => ?_⟩
  · have hd : L.jobs.Nodup := List.Nodup.of_map _ hL.slots
    rw [h.jobs]
    refine filterMap_nodup_change _ hL.stations (a := j) (fun k hk hne => ?_) hd (fun i hi k hk hne hki => ?_)
    · rw [if_neg (fun hs => hne (hL.eq_of_slot h.mem hk hs))]
    · rw [if_pos rfl] at hi
      exact hne (hfree i hi k hk hki)
  · by_cases hj' : j'.station = some i
    · exact ⟨j', (h.mem_jobs hL).2 (.inl rfl), hj', hworks i hj' hi⟩
    · by_cases hj : j.station = some i
      · obtain ⟨h1, h2⟩ := hleft i hj hj'
        simp [h1, h2] at hi
      · obtain ⟨h1, h2⟩ := h.others i hj hj'
        obtain ⟨k, hk, hki, hw⟩ := hL.works i (by rwa [h1, h2] at hi)
        exact ⟨k, (h.mem_jobs hL).2 (.inr ⟨hk, fun he => hj (he ▸ hki)⟩), hki, hw⟩
  · by_cases hj' : j'.station = some i
    · exact hone i hj' hi
    · by_cases hj : j.station = some i
      · exact (hleft i hj hj').2
      · obtain ⟨h1, h2⟩ := h.others i hj hj'
        rw [h2]; exact hL.oneSheet i (h1 ▸ hi)
  · rcases (h.mem_jobs hL).1 hk with rfl | ⟨hk, hne⟩
    · exact haccounts
    · obtain ⟨h1, h2, h3, h4⟩ := hL.accounts k hk
      have hsame : M.uncounted k = L.uncounted k := by
        unfold Ledger.uncounted
        cases hs : k.station with
        | none => rfl
        | some i => obtain ⟨ha, hb⟩ := hother k hk hne i hs; simp only [ha, hb]
      exact ⟨h1, by rw [hsame]; exact h2, h3, h4⟩
  · rcases htasks with ht | ⟨ht, hnf, -⟩
    · rw [ht]; exact hL.tasksOnce
    · refine ht.nodup_iff.2 (List.nodup_cons.2 ⟨fun hmem => ?_, hL.tasksOnce⟩)
      obtain ⟨k, hk, hslot, hf⟩ := hL.tasksEnded _ hmem
      exact hnf (hL.eq_of_slot h.mem hk hslot ▸ hf)
  · have hold : a ∈ L.completions → ∃ k ∈ M.jobs, k.slotAddr = a ∧ k.state = .finishing := by
      intro ha
      obtain ⟨k, hk, hslot, hf⟩ := hL.tasksEnded a ha
      by_cases hkj : k = j
      · subst hkj
        exact ⟨j', (h.mem_jobs hL).2 (.inl rfl), h.slot.trans hslot, hends hf⟩
      · exact ⟨k, (h.mem_jobs hL).2 (.inr ⟨hk, hkj⟩), hslot, hf⟩
    rcases htasks with ht | ⟨ht, -, hf⟩
    · exact hold (ht ▸ ha)
    · rcases List.mem_cons.1 (ht.mem_iff.1 ha) with rfl | ha
      · exact ⟨j', (h.mem_jobs hL).2 (.inl rfl), h.slot, hf⟩
      · exact hold ha

end Sys2Proof.Machine
end

section
/-! PROOFS. The pages accounted for, at the stations (R67, R68): the part of `State.pagesAccounted` that each station keeps
with the blocks around it, and what leaves both parts as they are. -/

namespace Sys2Proof.Machine

/-! ## A station and the blocks around it -/

/-- A station agrees with its calibration unit, the page entry reads of its own on their way, whether it waits for the
photometer, and whether its job has a page left (`State.stationAgrees`). -/
structure Station.agrees (x : Station) (c : CalUnit) (reads : Nat) (waits left : Prop) : Prop where
  coherent : x.coherent
  sheet : x.sheet ≠ none → c.valid = true ∧ (waits → x.activity = .quickWait) ∧ ∀ f, c.flight = some f → f.kind = .quick
  flight : c.flight ≠ none → x.state = .calibrating
  reads : reads ≤ if x.activity = .entryRead then 1 else 0
  left : x.activity = .entryRead → left

/-- A station works at its open sheet. -/
structure Station.atWork (x : Station) (c : CalUnit) : Prop where
  sheet : x.sheet ≠ none
  stacked : x.stacked = none
  state : x.state = .sheetOpen ∨ x.state = .exposing
  valid : c.valid = true
  flight : c.flight = none

section
variable {x : Station} {c : CalUnit} {reads : Nat} {waits left : Prop}

theorem Station.agrees.flight_none (h : x.agrees c reads waits left) (hs : x.state ≠ .calibrating) : c.flight = none := by
  by_contra hf; exact hs (h.flight hf)

theorem Station.agrees.atWork_of_sheet (h : x.agrees c reads waits left) (hsheet : x.sheet ≠ none)
    (hstate : x.state = .sheetOpen ∨ x.state = .exposing) : x.atWork c := by
  obtain ⟨sh, hsh⟩ := Option.ne_none_iff_exists'.1 hsheet
  obtain ⟨-, -, -, -, hone, -⟩ := h.coherent
  exact ⟨hsheet, (hone sh hsh).1, hstate, (h.sheet hsheet).1, h.flight_none (by rcases hstate with hs | hs <;> simp [hs])⟩

/-- A station that does something works at its open sheet. -/
theorem Station.agrees.atWork (h : x.agrees c reads waits left) (ha : x.activity ≠ .idle) : x.atWork c := by
  obtain ⟨-, -, hact, -⟩ := h.coherent
  obtain ⟨hsheet, hstate⟩ := hact ha
  exact h.atWork_of_sheet hsheet hstate

theorem Station.agrees.reads_zero (h : x.agrees c reads waits left) (ha : x.activity ≠ .entryRead) : reads = 0 := by
  have := h.reads
  rw [if_neg ha] at this
  omega

/-- Outside a frame no entry is open. -/
theorem Station.agrees.closed (h : x.agrees c reads waits left) (ha : x.activity.inFrame = false) {sh : Sheet}
    (hsh : x.sheet = some sh) : sh.openEntry = none := by
  obtain ⟨-, -, -, -, hone, -⟩ := h.coherent
  by_contra ho
  rw [(hone sh hsh).2 ho] at ha
  cases ha

theorem Station.agrees.not_waits (h : x.agrees c reads waits left) (hsheet : x.sheet ≠ none) (ha : x.activity ≠ .quickWait) :
    ¬waits := fun hw => ha ((h.sheet hsheet).2.1 hw)

/-- A station without a sheet does nothing. -/
theorem Station.agrees.idle (h : x.agrees c reads waits left) (hsheet : x.sheet = none) : x.activity = .idle := by
  obtain ⟨-, -, hact, -⟩ := h.coherent
  by_contra ha
  exact (hact ha).1 hsheet

/-- A station does something in SHEET_OPEN and EXPOSING alone. -/
theorem Station.agrees.idle_of_state (h : x.agrees c reads waits left) (hs : x.state ≠ .sheetOpen) (he : x.state ≠ .exposing) :
    x.activity = .idle := by
  obtain ⟨-, -, hact, -⟩ := h.coherent
  by_contra ha
  exact (hact ha).2.elim hs he

theorem Station.agrees.no_sheet (h : x.agrees c reads waits left)
    (hs : x.state = .parked ∨ x.state = .waking ∨ x.state = .ready ∨ x.state = .dozing ∨ x.state = .faulted) :
    x.sheet = none := by
  obtain ⟨hsheet, -⟩ := h.coherent
  by_contra hne
  have := hsheet hne
  rcases hs with hs | hs | hs | hs | hs <;> simp [hs] at this

theorem Station.agrees.stacked_closed (h : x.agrees c reads waits left) {sh : Sheet} (hsh : x.stacked = some sh) :
    sh.openEntry = none := by
  obtain ⟨-, -, -, -, -, hst⟩ := h.coherent
  exact hst sh hsh

/-- A station that works at its sheet agrees, with an entry open during a frame alone and a boundary waited at in SHEET_OPEN. -/
theorem Station.atWork.agrees (h : x.atWork c) (hopen : ∀ sh, x.sheet = some sh → sh.openEntry ≠ none → x.activity.inFrame = true)
    (hb : x.activity.atBoundary = true → x.state = .sheetOpen) (hw : waits → x.activity = .quickWait)
    (hr : reads ≤ if x.activity = .entryRead then 1 else 0) (hl : x.activity = .entryRead → left) :
    x.agrees c reads waits left := by
  refine ⟨⟨fun _ => ?_, fun hs => ?_, fun _ => ⟨h.sheet, h.state⟩, hb, fun sh hsh => ⟨h.stacked, hopen sh hsh⟩, ?_⟩,
    fun _ => ⟨h.valid, hw, fun f hf => ?_⟩, fun hf => absurd h.flight hf, hr, hl⟩
  · rcases h.state with hs | hs <;> simp [hs]
  · exact h.sheet
  · intro sh hsh; rw [h.stacked] at hsh; cases hsh
  · rw [h.flight] at hf; cases hf

/-- A station without a sheet agrees, doing nothing in any state but LOADING, with a calibration in flight in CALIBRATING. -/
theorem Station.agrees_of_none (hsheet : x.sheet = none) (hidle : x.activity = .idle) (hs : x.state ≠ .loading)
    (hst : ∀ sh, x.stacked = some sh → sh.openEntry = none) (hf : c.flight ≠ none → x.state = .calibrating) (hr : reads = 0) :
    x.agrees c reads waits left := by
  refine ⟨⟨fun h => absurd hsheet h, fun h => absurd h hs, fun h => absurd hidle h, fun h => ?_, fun sh hsh => ?_, hst⟩,
    fun h => absurd hsheet h, hf, by simp [hr], fun h => ?_⟩
  · rw [hidle] at h; cases h
  · rw [hsheet] at hsh; cases hsh
  · rw [hidle] at h; cases h

end

/-! ## What leaves a station as it was -/

/-- Two stations differ in nothing that the count of the pages looks at. -/
structure Station.alike (x y : Station) : Prop where
  state : x.state = y.state
  activity : x.activity = y.activity
  sheet : x.sheet.map (fun sh => (sh.pages, sh.openEntry.isSome)) = y.sheet.map (fun sh => (sh.pages, sh.openEntry.isSome))
  stacked : x.stacked = y.stacked

theorem Station.alike.refl (x : Station) : x.alike x := ⟨rfl, rfl, rfl, rfl⟩
theorem Station.alike.trans {x y z : Station} (h : x.alike y) (g : y.alike z) : x.alike z :=
  ⟨h.state.trans g.state, h.activity.trans g.activity, h.sheet.trans g.sheet, h.stacked.trans g.stacked⟩

theorem Station.alike.sheet_none {x y : Station} (h : x.alike y) : x.sheet = none ↔ y.sheet = none := by
  rw [← Option.map_eq_none_iff, h.sheet, Option.map_eq_none_iff]

theorem Station.alike.pages {x y : Station} (h : x.alike y) : x.sheet.map Sheet.pages = y.sheet.map Sheet.pages := by
  simpa [Option.map_map, Function.comp_def] using congrArg (Option.map Prod.fst) h.sheet

theorem Station.alike.opened {x y : Station} (h : x.alike y) {sh : Sheet} (hsh : x.sheet = some sh) :
    ∃ sh', y.sheet = some sh' ∧ (sh'.openEntry = none ↔ sh.openEntry = none) := by
  have := h.sheet
  cases hy : y.sheet with
  | none => simp [hsh, hy] at this
  | some sh' =>
    refine ⟨sh', rfl, ?_⟩
    rw [hsh, hy] at this
    have hiff := congrArg Prod.snd (Option.some.inj this)
    cases h1 : sh.openEntry <;> cases h2 : sh'.openEntry <;> simp_all

/-- What a station agrees with, one alike agrees with, with no more reads, no new wait and pages left as before. -/
theorem Station.agrees.of_alike {x y : Station} {c d : CalUnit} {reads reads' : Nat} {waits waits' left left' : Prop}
    (h : x.agrees c reads waits left) (ha : y.alike x) (hv : d.valid = c.valid)
    (hf : d.flight.map (·.kind) = c.flight.map (·.kind)) (hr : reads' ≤ reads) (hw : waits' → waits) (hl : left → left') :
    y.agrees d reads' waits' left' := by
  obtain ⟨h1, h2, h3, h4, h5, h6⟩ := h.coherent
  have hsheet : y.sheet ≠ none → x.sheet ≠ none := fun hy hx => hy (ha.sheet_none.2 hx)
  have hkind : ∀ f, d.flight = some f → ∃ g, c.flight = some g ∧ g.kind = f.kind := by
    intro f hdf
    rw [hdf] at hf
    cases hg : c.flight with
    | none => simp [hg] at hf
    | some g => exact ⟨g, rfl, by simpa [hg] using hf.symm⟩
  refine ⟨⟨fun hy => ?_, fun hs hy => ?_, fun hy => ?_, fun hy => ?_, fun sh hsh => ?_, fun sh hsh => ?_⟩,
    fun hy => ⟨?_, fun hw' => ?_, fun f hdf => ?_⟩, fun hdf => ?_, ?_, fun hy => ?_⟩
  · rw [ha.state]; exact h1 (hsheet hy)
  · exact h2 (ha.state ▸ hs) (ha.sheet_none.1 hy)
  · obtain ⟨hx, hs⟩ := h3 (ha.activity ▸ hy)
    exact ⟨fun hn => hx (ha.sheet_none.1 hn), by rw [ha.state]; exact hs⟩
  · rw [ha.state]; exact h4 (ha.activity ▸ hy)
  · obtain ⟨sh', hsh', hiff⟩ := ha.opened hsh
    obtain ⟨hst, hin⟩ := h5 sh' hsh'
    exact ⟨ha.stacked.trans hst, fun ho => by rw [ha.activity]; exact hin (fun hn => ho (hiff.1 hn))⟩
  · exact h6 sh (ha.stacked ▸ hsh)
  · rw [hv]; exact (h.sheet (hsheet hy)).1
  · rw [ha.activity]; exact (h.sheet (hsheet hy)).2.1 (hw hw')
  · obtain ⟨g, hg, hgf⟩ := hkind f hdf
    exact hgf ▸ (h.sheet (hsheet hy)).2.2 g hg
  · rw [ha.state]
    refine h.flight (fun hc => ?_)
    obtain ⟨f, hdf'⟩ := Option.ne_none_iff_exists'.1 hdf
    obtain ⟨g, hg, -⟩ := hkind f hdf'
    rw [hc] at hg; cases hg
  · rw [ha.activity]; exact hr.trans h.reads
  · exact hl (h.left (ha.activity ▸ hy))

/-! ## The state accounted for -/

/-- The reads of a page entry for station `i` on their way. -/
def State.entryReads (s : State) (i : StationId) : Nat :=
  (s.port.list ++ s.port.arriving).countP (fun r => r.purpose == .pageEntry i)

/-- Station `i` agrees with the blocks around it, its sheet's job apart. -/
def State.agrees (s : State) (i : StationId) : Prop :=
  (s.st i).agrees (s.cal i) (s.entryReads i) (i ∈ s.photometerQueue) (s.ledger.pagesLeft i)

/-- The ledger balances, no station waits twice for the photometer, and the stations of `P` agree with the blocks around
them. -/
structure State.accounted (P : StationId → Prop) (s : State) : Prop where
  ledger : s.ledger.balanced
  queue : s.photometerQueue.Nodup
  agrees : ∀ i, P i → s.agrees i

theorem State.accounted.mono {P Q : StationId → Prop} {s : State} (h : s.accounted P) (hPQ : ∀ i, Q i → P i) :
    s.accounted Q := ⟨h.ledger, h.queue, fun i hi => h.agrees i (hPQ i hi)⟩

/-- Every station of `P` agrees still, and `i` with them. -/
theorem State.accounted.insert {P : StationId → Prop} {s : State} {i : StationId} (h : s.accounted (fun k => P k ∧ k ≠ i))
    (hi : s.agrees i) : s.accounted P :=
  ⟨h.ledger, h.queue, fun k hk => if hki : k = i then hki ▸ hi else h.agrees k ⟨hk, hki⟩⟩

theorem Task.mem_completes {l : List Task} {a : Addr} : a ∈ l.filterMap Task.completes ↔ Task.completion a ∈ l := by
  rw [List.mem_filterMap]
  constructor
  · rintro ⟨k, hk, ha⟩
    cases k <;> cases ha
    exact hk
  · exact fun h => ⟨_, h, rfl⟩

theorem Task.filter_isCompletion (l : List Task) : l.filter Task.isCompletion = (l.filterMap Task.completes).map .completion := by
  induction l with
  | nil => rfl
  | cons k l ih => cases k <;> simp [List.filter_cons, List.filterMap_cons, Task.isCompletion, Task.completes, ih]

/-- The job attached to a station is the one context that names it. -/
theorem State.attached_iff {s : State} (hn : (s.ledger.jobs.filterMap (·.station)).Nodup) {i : StationId} {j : Job} :
    s.attached i = some j ↔ j ∈ s.jobs ∧ j.station = some i := by
  refine ⟨State.attached_spec, fun ⟨hj, hi⟩ => ?_⟩
  have hn' : (s.jobs.filterMap (·.station)).Nodup := by
    rwa [State.ledger, List.filterMap_map] at hn
  cases ha : s.attached i with
  | none => exact absurd hi (by simpa using List.find?_eq_none.1 ha j hj)
  | some k =>
    obtain ⟨hk, hki⟩ := State.attached_spec ha
    rw [eq_of_filterMap_nodup hn' hk hj hki hi]

theorem State.pagesLeft_iff {s : State} (hn : (s.ledger.jobs.filterMap (·.station)).Nodup) (i : StationId) :
    s.ledger.pagesLeft i ↔ ∀ j, s.attached i = some j → j.nextPage < j.pageCount := by
  simp only [State.attached_iff hn, Ledger.pagesLeft, State.ledger, List.forall_mem_map, and_imp]
  exact Iff.rfl

theorem State.jobAccounts_iff (s : State) (j : Job) : s.jobAccounts j ↔ s.ledger.accounts j.account := by
  have hsum : s.pagesUncounted j = s.ledger.uncounted j.account := by
    unfold State.pagesUncounted Ledger.uncounted
    simp only [State.ledger, Job.account]
    congr 1
    · cases j.station with
      | none => rfl
      | some i =>
        dsimp only
        congr 1
        · cases (s.st i).sheet <;> rfl
        · cases (s.st i).stacked <;> rfl
    · cases j.lostSheet <;> rfl
  have hif : (if j.state = .finishing then j.counts.total = j.pageCount ∧ j.ending = none
      else j.counts.total + s.pagesUncounted j = j.nextPage) ↔ (if j.account.state = .finishing then
        j.account.counted = j.account.pageCount ∧ j.account.ends = false
      else j.account.counted + s.ledger.uncounted j.account = j.account.nextPage) := by
    rw [← hsum]
    by_cases hf : j.state = .finishing <;> simp [Job.account, hf]
  have hlost : (j.lostSheet ≠ none → j.station = none ∧ (j.state = .finishing ∨ j.ending ≠ none)) ↔
      (j.account.lost ≠ none → j.account.station = none ∧ (j.account.state = .finishing ∨ j.account.ends = true)) := by
    simp [Job.account, Option.isSome_iff_ne_none]
  exact ⟨fun ⟨h1, h2, h3, h4⟩ => ⟨h1, hif.1 h2, h3, hlost.1 h4⟩, fun ⟨h1, h2, h3, h4⟩ => ⟨h1, hif.2 h2, h3, hlost.2 h4⟩⟩

/-- The rule over a run is the ledger's balance and the agreement of every station. -/
theorem State.pagesAccounted_iff (s : State) : s.pagesAccounted ↔ s.ledger.balanced ∧ ∀ i, s.agrees i := by
  have hslots : s.ledger.jobs.map (·.slotAddr) = s.jobs.map (·.slotAddr) := by
    rw [State.ledger, List.map_map]; rfl
  have hstations : s.ledger.jobs.filterMap (·.station) = s.jobs.filterMap (·.station) := by
    rw [State.ledger, List.filterMap_map]; rfl
  have htasks : ((s.tasks ++ s.waiters).filter Task.isCompletion).Nodup ↔ s.ledger.completions.Nodup := by
    rw [Task.filter_isCompletion]
    exact List.nodup_map_iff (fun a b h => by cases h; rfl)
  have hworks : ∀ j : Job, j.account.works ↔
      j.state = .sheetActive ∧ j.ending = none ∧ j.returnPending = false ∧ j.lostSheet = none := by
    intro j; simp [JobAccount.works, Job.account]
  constructor
  · rintro ⟨h1, h2, h3, h4, h5, h6⟩
    have hn : (s.ledger.jobs.filterMap (·.station)).Nodup := hstations ▸ h2
    refine ⟨⟨hslots ▸ h1, hn, fun i hi => ?_, fun i hi => ?_, ?_, htasks.1 h5, fun a ha => ?_⟩, fun i => ?_⟩
    · obtain ⟨-, hjob, -⟩ := h3 i
      obtain ⟨j, hj, hw⟩ := hjob (by simpa [State.ledger] using hi)
      obtain ⟨hmem, hst⟩ := State.attached_spec hj
      exact ⟨j.account, List.mem_map_of_mem hmem, hst, (hworks j).2 hw⟩
    · obtain ⟨⟨-, -, -, -, hone, -⟩, -⟩ := h3 i
      obtain ⟨sh, hsh⟩ := Option.ne_none_iff_exists'.1 (show (s.st i).sheet ≠ none by simpa [State.ledger] using hi)
      simp [State.ledger, (hone sh hsh).1]
    · intro k hk
      obtain ⟨j, hj, rfl⟩ := List.mem_map.1 hk
      exact (s.jobAccounts_iff j).1 (h4 j hj)
    · obtain ⟨j, hj, hslot, hf⟩ := h6 a (Task.mem_completes.1 ha)
      exact ⟨j.account, List.mem_map_of_mem hj, hslot, hf⟩
    · obtain ⟨hc, -, hsheet, hflight, hreads, hleft⟩ := h3 i
      exact ⟨hc, hsheet, hflight, hreads, fun ha => (State.pagesLeft_iff hn i).2 (hleft ha)⟩
  · rintro ⟨hb, hs⟩
    refine ⟨hslots ▸ hb.slots, hstations ▸ hb.stations, fun i => ?_, fun j hj => ?_, htasks.2 hb.tasksOnce, fun a ha => ?_⟩
    · obtain ⟨hc, hsheet, hflight, hreads, hleft⟩ := hs i
      refine ⟨hc, fun hi => ?_, hsheet, hflight, hreads, fun ha => (State.pagesLeft_iff hb.stations i).1 (hleft ha)⟩
      obtain ⟨k, hk, hki, hw⟩ := hb.works i (by simpa [State.ledger] using hi)
      obtain ⟨j, hj, rfl⟩ := List.mem_map.1 hk
      exact ⟨j, (State.attached_iff hb.stations).2 ⟨hj, hki⟩, (hworks j).1 hw⟩
    · exact (s.jobAccounts_iff j).2 (hb.accounts _ (List.mem_map_of_mem hj))
    · obtain ⟨k, hk, hslot, hf⟩ := hb.tasksEnded a (Task.mem_completes.2 ha)
      obtain ⟨j, hj, rfl⟩ := List.mem_map.1 hk
      exact ⟨j, hj, hslot, hf⟩

end Sys2Proof.Machine
end

section
/-! PROOFS. What leaves the pages' ledger and the stations' agreement as they were (R67): an operation that touches neither
the jobs nor what a station agrees with, said once for each shared operation of that kind. -/

namespace Sys2Proof.Machine

/-! ## Quiet operations -/

/-- From `s` to `t` no station changes in what the count of the pages looks at, none waits anew for the photometer, and no
page entry read is new. -/
structure State.quiet (s t : State) : Prop where
  stations : ∀ k, (t.st k).alike (s.st k)
  cals : ∀ k, (t.cal k).valid = (s.cal k).valid ∧ (t.cal k).flight.map (·.kind) = (s.cal k).flight.map (·.kind)
  queue : t.photometerQueue.Sublist s.photometerQueue
  reads : ∀ k, t.entryReads k ≤ s.entryReads k

/-- From `s` to `t` station `k` does not change in what the count of the pages looks at, does not wait anew for the photometer,
and has no new page entry read. -/
structure State.quietAt (s t : State) (k : StationId) : Prop where
  station : (t.st k).alike (s.st k)
  cal : (t.cal k).valid = (s.cal k).valid ∧ (t.cal k).flight.map (·.kind) = (s.cal k).flight.map (·.kind)
  queue : k ∈ t.photometerQueue → k ∈ s.photometerQueue
  reads : t.entryReads k ≤ s.entryReads k

theorem State.quietAt.trans {s t u : State} {k : StationId} (h : s.quietAt t k) (g : t.quietAt u k) : s.quietAt u k :=
  ⟨g.station.trans h.station, ⟨g.cal.1.trans h.cal.1, g.cal.2.trans h.cal.2⟩, h.queue ∘ g.queue, g.reads.trans h.reads⟩

theorem State.quietAt_of_eq {s t : State} {k : StationId} (hst : t.st k = s.st k) (hcal : t.cal k = s.cal k)
    (hq : k ∈ t.photometerQueue → k ∈ s.photometerQueue) (hr : t.entryReads k ≤ s.entryReads k) : s.quietAt t k :=
  ⟨by rw [hst]; exact .refl _, by rw [hcal]; exact ⟨rfl, rfl⟩, hq, hr⟩

theorem State.quiet.at {s t : State} (h : s.quiet t) (k : StationId) : s.quietAt t k :=
  ⟨h.stations k, h.cals k, fun hk => h.queue.subset hk, h.reads k⟩

/-- A quiet operation that changes no job in what the count of the pages looks at, and brings or takes no completion task. -/
structure State.keeps (s t : State) : Prop extends s.quiet t where
  jobs : t.jobs.map Job.account = s.jobs.map Job.account
  completions : t.completions = s.completions

theorem State.quiet.refl (s : State) : s.quiet s := ⟨fun _ => .refl _, fun _ => ⟨rfl, rfl⟩, .refl _, fun _ => Nat.le_refl _⟩
theorem State.quiet.trans {s t u : State} (h : s.quiet t) (g : t.quiet u) : s.quiet u :=
  ⟨fun k => (g.stations k).trans (h.stations k),
    fun k => ⟨(g.cals k).1.trans (h.cals k).1, (g.cals k).2.trans (h.cals k).2⟩, g.queue.trans h.queue,
    fun k => (g.reads k).trans (h.reads k)⟩

theorem State.keeps.refl (s : State) : s.keeps s := ⟨.refl s, rfl, rfl⟩
theorem State.keeps.trans {s t u : State} (h : s.keeps t) (g : t.keeps u) : s.keeps u :=
  ⟨h.toquiet.trans g.toquiet, g.jobs.trans h.jobs, g.completions.trans h.completions⟩

theorem State.quiet.sheets {s t : State} (h : s.quiet t) : t.ledger.sheets = s.ledger.sheets :=
  funext (fun k => (h.stations k).pages)
theorem State.quiet.stacked {s t : State} (h : s.quiet t) : t.ledger.stacked = s.ledger.stacked :=
  funext (fun k => congrArg (Option.map _) (h.stations k).stacked)

/-- A station that an operation is quiet at agrees still, when its job has a page left as before. -/
theorem State.quietAt.agrees {s t : State} {k : StationId} (h : s.quietAt t k) (hk : s.agrees k)
    (hl : s.ledger.pagesLeft k → t.ledger.pagesLeft k) : t.agrees k :=
  Station.agrees.of_alike hk h.station h.cal.1 h.cal.2 h.reads h.queue hl

theorem State.quiet.agrees {s t : State} (h : s.quiet t) {k : StationId} (hk : s.agrees k)
    (hl : s.ledger.pagesLeft k → t.ledger.pagesLeft k) : t.agrees k := (h.at k).agrees hk hl

theorem State.keeps.ledger {s t : State} (h : s.keeps t) : t.ledger = s.ledger := by
  have hs := h.toquiet.sheets
  have hst := h.toquiet.stacked
  have hj := h.jobs
  have hc := h.completions
  simp only [State.ledger] at *
  rw [hs, hst, hj, hc]

theorem State.keeps.accounted {P : StationId → Prop} {s t : State} (h : s.keeps t) (hs : s.accounted P) : t.accounted P :=
  ⟨h.ledger ▸ hs.ledger, hs.queue.sublist h.queue,
    fun k hk => h.toquiet.agrees (hs.agrees k hk) (by rw [h.ledger]; exact id)⟩

/-! ## Updates that are quiet -/

/-- An update of fields that the count of the pages does not look at. -/
theorem State.keeps_of {s t : State} (hst : t.stations = s.stations) (hcals : t.cals = s.cals)
    (hq : t.photometerQueue.Sublist s.photometerQueue) (hj : t.jobs = s.jobs) (hc : t.completions = s.completions)
    (hr : ∀ k, t.entryReads k ≤ s.entryReads k) : s.keeps t := by
  refine ⟨⟨fun k => ?_, fun k => ?_, hq, hr⟩, by rw [hj], hc⟩
  · rw [State.st, hst]; exact .refl _
  · simp only [State.cal, hcals, and_self]

/-- An update of the port alone that makes no page entry read new. -/
theorem State.keeps_of_port {s t : State} (h : s.onlyPort t) (hr : ∀ k, t.entryReads k ≤ s.entryReads k) : s.keeps t := by
  rw [h]
  rw [h] at hr
  exact State.keeps_of rfl rfl (.refl _) rfl rfl hr

theorem State.updSt_keeps {s : State} {i : StationId} {f : Station → Station} (h : (f (s.st i)).alike (s.st i)) :
    s.keeps (s.updSt i f) := by
  refine ⟨⟨fun k => ?_, fun k => ⟨rfl, rfl⟩, .refl _, fun k => Nat.le_refl _⟩, rfl, rfl⟩
  rw [State.st_updSt]
  split
  next hk => rw [hk]; exact h
  next => exact .refl _

theorem State.updCal_keeps {s : State} {i : StationId} {f : CalUnit → CalUnit} (hv : (f (s.cal i)).valid = (s.cal i).valid)
    (hf : (f (s.cal i)).flight.map (·.kind) = (s.cal i).flight.map (·.kind)) : s.keeps (s.updCal i f) := by
  refine ⟨⟨fun k => .refl _, fun k => ?_, .refl _, fun k => Nat.le_refl _⟩, rfl, rfl⟩
  rw [State.cal_updCal]
  split
  next hk => rw [hk]; exact ⟨hv, hf⟩
  next => exact ⟨rfl, rfl⟩

theorem State.updJob_keeps (s : State) (a : Addr) {f : Job → Job} (h : ∀ k, (f k).account = k.account) :
    s.keeps (s.updJob a f) := by
  refine ⟨⟨fun k => .refl _, fun k => ⟨rfl, rfl⟩, .refl _, fun k => Nat.le_refl _⟩, ?_, rfl⟩
  rw [State.updJob, List.map_map]
  refine List.map_congr_left (fun k _ => ?_)
  simp only [Function.comp_apply]
  split
  · exact h k
  · rfl

/-- A change of the sheet that leaves its pages and whether its entry is open. -/
theorem State.updSheet_keeps (s : State) (i : StationId) {f : Sheet → Sheet}
    (h : ∀ sh, (f sh).pages = sh.pages ∧ (f sh).openEntry.isSome = sh.openEntry.isSome) : s.keeps (s.updSheet i f) := by
  refine State.updSt_keeps ⟨rfl, rfl, ?_, rfl⟩
  simp only [Option.map_map, Function.comp_def, (h _).1, (h _).2]

/-- A change of the open entry that leaves whether it carries a page. -/
theorem State.updEntry_keeps (s : State) (i : StationId) {f : FrameEntry → FrameEntry}
    (h : ∀ e, (f e).page.isSome = e.page.isSome) : s.keeps (s.updEntry i f) := by
  refine State.updSheet_keeps s i (fun sh => ?_)
  cases ho : sh.openEntry with
  | none => simp [Sheet.pages, ho]
  | some e =>
    simp only [Sheet.pages, pagesOn, ho, Option.map_some, Option.toList_some, List.filter_append, List.filter_cons, h]
    split <;> exact ⟨by simp, rfl⟩

/-! ## The port (R170) -/

theorem State.request_entryReads (s : State) (r : Request) (k : StationId) :
    (s.request r).entryReads k = s.entryReads k + if r.purpose = .pageEntry k then 1 else 0 := by
  simp [State.entryReads, State.request, ← List.append_assoc, List.countP_append, List.countP_cons]

theorem State.request_keeps {s : State} {r : Request} (h : ∀ k, r.purpose ≠ .pageEntry k) : s.keeps (s.request r) :=
  State.keeps_of_port rfl (fun k => by rw [State.request_entryReads, if_neg (h k), Nat.add_zero])

theorem State.requestRead_keeps {s : State} {p : Purpose} {a : Addr} {n : Nat} (h : ∀ k, p ≠ .pageEntry k) :
    s.keeps (s.requestRead p a n) := State.request_keeps h

theorem State.requestWrite_keeps {s : State} {p : Purpose} {a : Addr} {d : List Byte} (h : ∀ k, p ≠ .pageEntry k) :
    s.keeps (s.requestWrite p a d) := State.request_keeps h

theorem State.endRequest_keeps (s : State) : s.keeps s.endRequest := by
  refine State.keeps_of_port rfl (fun k => ?_)
  simp only [State.entryReads, State.endRequest, afterRequest_list, afterRequest_arriving]
  exact ((List.tail_sublist _).append_right _).countP_le

theorem State.endDiscarded_keeps (s : State) : s.keeps s.endDiscarded := by
  refine State.keeps_of_port rfl (fun k => ?_)
  simp [State.entryReads, State.endDiscarded]

theorem State.withdraw_keeps (s : State) (p : Request → Bool) : s.keeps (s.withdraw p) := by
  refine State.keeps_of_port rfl (fun k => ?_)
  exact (List.filter_sublist.append List.filter_sublist).countP_le

theorem State.join_keeps (s : State) : s.keeps s.join := by
  refine State.keeps_of rfl rfl (.refl _) rfl rfl (fun k => ?_)
  have hperm : (s.port.list ++ shuffle s.choices s.port.arriving).Perm (s.port.list ++ s.port.arriving) :=
    (shuffle_perm _ _).append_left _
  simp only [State.entryReads, State.join, settlePort_list, settlePort_arriving, List.append_nil]
  exact (hperm.countP_eq _).le

/-- A reading asked for of the stop word is no page entry read (R60). -/
theorem State.askStop_keeps (s : State) (i : StationId) {p : Purpose} (h : ∀ k, p ≠ .pageEntry k) : s.keeps (s.askStop i p) := by
  unfold State.askStop
  split
  · refine State.keeps_of_port rfl (fun k => ?_)
    have hentry : ∀ r : Request, ((if isStopReading i r then { r with purpose := servesBoth p r.purpose } else r).purpose ==
        .pageEntry k) = (r.purpose == .pageEntry k) := by
      intro r
      split
      next hr =>
        have hold : r.purpose ≠ .pageEntry k := by
          intro hp; simp [isStopReading, hp] at hr
        have hnew : servesBoth p r.purpose ≠ .pageEntry k := by
          unfold servesBoth
          split
          · exact fun h => by cases h
          · exact fun h => by cases h
          · exact hold
        simp [hold, hnew]
      next => rfl
    simp only [State.entryReads, ← List.map_append, List.countP_map, Function.comp_def, hentry, Nat.le_refl]
  · split
    · exact State.requestRead_keeps h
    · exact .refl s

/-! ## The scan half (R36 to R43) -/

theorem State.passEndReadings_keeps (s : State) : s.keeps s.passEndReadings := by
  unfold State.passEndReadings
  generalize allStations = l
  induction l generalizing s with
  | nil => exact .refl s
  | cons i l ih =>
    refine State.keeps.trans ?_ (ih _)
    dsimp only
    split
    · exact State.askStop_keeps s i (fun k h => by cases h)
    · exact .refl s

/-- An update of the scan half alone. -/
theorem State.scan_keeps (s : State) (scanTimer : Option Nat) (passPending : Bool) (pass : Option Pass) (held : List HeldSlot) :
    s.keeps { s with scanTimer := scanTimer, passPending := passPending, pass := pass, held := held } :=
  State.keeps_of rfl rfl (.refl _) rfl rfl (fun _ => Nat.le_refl _)

theorem State.updPass_keeps (s : State) (f : Pass → Pass) : s.keeps (s.updPass f) := State.scan_keeps s _ _ _ _

theorem State.loadScanTimer_keeps (s : State) : s.keeps s.loadScanTimer := by
  unfold State.loadScanTimer
  split
  · exact State.scan_keeps s _ _ _ _
  · exact .refl s

theorem State.startPass_keeps (s : State) : s.keeps s.startPass := by
  unfold State.startPass
  dsimp only
  split
  · exact ((State.scan_keeps s _ _ _ _).trans (State.passEndReadings_keeps _)).trans (State.loadScanTimer_keeps _)
  · exact (State.scan_keeps s _ _ _ _).trans (State.requestRead_keeps (fun k h => by cases h))

theorem State.endPass_keeps (s : State) : s.keeps s.endPass := by
  unfold State.endPass
  have hreadings := (State.scan_keeps s s.scanTimer s.passPending none s.held).trans (State.passEndReadings_keeps _)
  dsimp only
  split
  · exact hreadings.trans (State.startPass_keeps _)
  · exact (hreadings.trans (State.scan_keeps _ _ _ _ _)).trans (State.loadScanTimer_keeps _)

theorem State.requestClaim_keeps (s : State) (c : Candidate) : s.keeps (s.requestClaim c) :=
  State.request_keeps (fun k h => by cases h)

theorem State.nextCandidate_keeps (s : State) : s.keeps s.nextCandidate := by
  unfold State.nextCandidate
  split
  · split
    · exact State.endPass_keeps s
    · dsimp only
      split
      · exact (State.scan_keeps s _ _ _ _).trans (State.requestClaim_keeps _ _)
      · exact (State.scan_keeps s _ _ _ _).trans (State.requestRead_keeps (fun k h => by cases h))
  · exact .refl s

theorem State.readHeld_keeps (s : State) (p : Pass) (l : List Addr) : s.keeps (s.readHeld p l) := by
  unfold State.readHeld
  split
  · exact (State.scan_keeps s _ _ _ _).trans (State.requestRead_keeps (fun k h => by cases h))
  · exact (State.scan_keeps s _ _ _ _).trans (State.nextCandidate_keeps _)

theorem State.nextSlotRead_keeps (s : State) : s.keeps s.nextSlotRead := by
  unfold State.nextSlotRead
  split
  · split
    · split
      · exact (State.scan_keeps s _ _ _ _).trans (State.requestRead_keeps (fun k h => by cases h))
      · exact State.readHeld_keeps s _ _
    · exact State.readHeld_keeps s _ _
    · exact .refl s
  · exact .refl s

/-! ## The completion writer (R44) -/

theorem State.issueWrite_keeps (s : State) : s.keeps s.issueWrite := by
  unfold State.issueWrite
  split
  · refine State.requestWrite_keeps (fun k h => ?_)
    split at h <;> cases h
  · exact .refl s

theorem State.plan_keeps (s : State) (plan : List PlannedWrite) : s.keeps { s with plan := plan } :=
  State.keeps_of rfl rfl (.refl _) rfl rfl (fun _ => Nat.le_refl _)

theorem State.beginTask_keeps (s : State) : s.keeps s.beginTask := by
  unfold State.beginTask
  split
  · exact (State.plan_keeps s _).trans (State.issueWrite_keeps _)
  · exact .refl s

theorem State.beginTask_jobs (s : State) : s.beginTask.jobs = s.jobs := by
  unfold State.beginTask State.issueWrite
  split
  · split <;> rfl
  · rfl

/-- A task added is a quiet operation; a completion task's slot joins those on their way. -/
theorem State.addTask_quiet (s : State) (k : Task) : s.quiet (s.addTask k) ∧ (s.addTask k).jobs = s.jobs ∧
    (s.addTask k).completions.Perm (k.completes.toList ++ s.completions) := by
  have hperm : ∀ l m : List Task, ((l ++ [k] ++ m).filterMap Task.completes).Perm
      (k.completes.toList ++ (l ++ m).filterMap Task.completes) := by
    intro l m
    have hk : [k].filterMap Task.completes = k.completes.toList := by cases k <;> rfl
    rw [List.filterMap_append, List.filterMap_append, hk, List.filterMap_append, ← List.append_assoc]
    exact List.perm_append_comm.append_right _
  unfold State.addTask
  split
  · have hkeeps := State.beginTask_keeps { s with tasks := s.tasks ++ [k] }
    refine ⟨?_, State.beginTask_jobs _, ?_⟩
    · exact State.quiet.trans (t := { s with tasks := s.tasks ++ [k] })
        ⟨fun _ => .refl _, fun _ => ⟨rfl, rfl⟩, .refl _, fun _ => Nat.le_refl _⟩ hkeeps.toquiet
    · rw [hkeeps.completions]; exact hperm _ _
  · refine ⟨⟨fun _ => .refl _, fun _ => ⟨rfl, rfl⟩, .refl _, fun _ => Nat.le_refl _⟩, rfl, ?_⟩
    have := hperm (s.tasks ++ s.waiters) []
    simpa [State.completions] using this

/-- A task added that is no completion. -/
theorem State.addTask_keeps (s : State) {k : Task} (h : k.completes = none) : s.keeps (s.addTask k) := by
  obtain ⟨hq, hj, -⟩ := s.addTask_quiet k
  refine ⟨hq, by rw [hj], ?_⟩
  have hnone : ∀ l m : List Task, (l ++ [k] ++ m).filterMap Task.completes = (l ++ m).filterMap Task.completes := by
    intro l m; simp [h]
  unfold State.addTask
  split
  · rw [(State.beginTask_keeps _).completions]; exact hnone _ _
  · have := hnone (s.tasks ++ s.waiters) []
    simpa [State.completions] using this

theorem State.addTicket_keeps (s : State) (o : TicketOutcome) (r : Reason) (n : Nat) : s.keeps (s.addTicket o r n) := by
  unfold State.addTicket
  split
  · dsimp only
    split
    · exact State.addTask_keeps s rfl
    · exact (State.addTask_keeps s rfl).trans (State.nextCandidate_keeps _)
  · exact .refl s

theorem State.countField_keeps (s : State) (w : PlannedWrite) : s.keeps (s.countField w) := by
  unfold State.countField
  split
  · split
    · exact State.updJob_keeps s _ (fun _ => rfl)
    · exact .refl s
  · exact .refl s

theorem State.dropHeld_keeps (s : State) : s.keeps s.dropHeld := by
  unfold State.dropHeld
  split
  · exact State.scan_keeps s _ _ _ _
  · exact .refl s

/-! ## The stations (R60, R72, R98) -/

theorem State.dozeIfIdle_keeps (s : State) (i : StationId) : s.keeps (s.dozeIfIdle i) := by
  unfold State.dozeIfIdle
  split
  · exact State.updSt_keeps ⟨rfl, rfl, rfl, rfl⟩
  · exact .refl s

theorem State.seeStop_keeps (s : State) (i : StationId) : s.keeps (s.seeStop i) := by
  unfold State.seeStop
  split
  · exact State.updJob_keeps s _ (fun _ => rfl)
  · exact .refl s

theorem State.requestRow_keeps (s : State) (i : StationId) (m : Mapping) (b : BandBuffer) : s.keeps (s.requestRow i m b) := by
  unfold State.requestRow
  split
  · exact State.requestRead_keeps (fun k h => by cases h)
  · exact .refl s

theorem State.beginNextBand_keeps (s : State) (i : StationId) : s.keeps (s.beginNextBand i) := by
  unfold State.beginNextBand
  dsimp only
  split
  · split
    · split
      · exact (State.updSt_keeps ⟨rfl, rfl, rfl, rfl⟩).trans (State.requestRow_keeps _ _ _ _)
      · split
        · exact (State.updSt_keeps ⟨rfl, rfl, rfl, rfl⟩).trans (State.requestRow_keeps _ _ _ _)
        · exact .refl s
    · exact .refl s
  · exact .refl s

theorem State.beginBands_keeps (s : State) (i : StationId) : s.keeps (s.beginBands i) :=
  (State.beginNextBand_keeps s i).trans (State.beginNextBand_keeps _ i)

theorem State.endMapping_keeps (s : State) (i : StationId) : s.keeps (s.endMapping i) :=
  (State.withdraw_keeps s _).trans (State.updSt_keeps ⟨rfl, rfl, rfl, rfl⟩)

theorem State.leavePermitQueue_keeps (s : State) (i : StationId) : s.keeps (s.leavePermitQueue i) :=
  State.keeps_of rfl rfl (.refl _) rfl rfl (fun _ => Nat.le_refl _)

theorem State.leavePhotometerQueue_keeps (s : State) (i : StationId) : s.keeps (s.leavePhotometerQueue i) :=
  State.keeps_of rfl rfl List.filter_sublist rfl rfl (fun _ => Nat.le_refl _)

theorem State.alert_keeps (s : State) : s.keeps s.alert :=
  State.keeps_of rfl rfl (.refl _) rfl rfl (fun _ => Nat.le_refl _)

end Sys2Proof.Machine
end

section
/-! PROOFS. The pages accounted for, where a job changes that has no sheet at its station (R64, R65, R67): its end, its
return, and the states it waits in. -/

namespace Sys2Proof.Machine

/-! ## A job without a sheet -/

/-- A job's counts account for its pages by themselves, with those of its lost sheet. -/
structure JobAccount.balances (j : JobAccount) : Prop where
  reached : j.nextPage ≤ j.pageCount
  sum : if j.state = .finishing then j.counted = j.pageCount ∧ j.ends = false else j.counted + j.lost.getD 0 = j.nextPage
  offStation : j.state = .queued ∨ j.state = .finishing → j.station = none ∧ j.returns = false
  lost : j.lost ≠ none → j.station = none ∧ (j.state = .finishing ∨ j.ends = true)

/-- No sheet is present or stacked at the job's station, if it has one. -/
def State.noSheet (s : State) (station : Option StationId) : Prop :=
  ∀ i, station = some i → (s.st i).sheet = none ∧ (s.st i).stacked = none

theorem State.noSheet_ledger {s : State} {i : StationId} :
    ((s.st i).sheet = none ∧ (s.st i).stacked = none) ↔ s.ledger.sheets i = none ∧ s.ledger.stacked i = none := by
  simp [State.ledger]

theorem State.accounts_iff_balances {s : State} {j : JobAccount} (h : s.noSheet j.station) :
    s.ledger.accounts j ↔ j.balances := by
  have hzero : s.ledger.uncounted j = j.lost.getD 0 := by
    unfold Ledger.uncounted
    cases hs : j.station with
    | none => exact Nat.zero_add _
    | some i =>
      obtain ⟨h1, h2⟩ := State.noSheet_ledger.1 (h i hs)
      simp [h1, h2]
  constructor
  · rintro ⟨h1, h2, h3, h4⟩; exact ⟨h1, hzero ▸ h2, h3, h4⟩
  · rintro ⟨h1, h2, h3, h4⟩; exact ⟨h1, hzero ▸ h2, h3, h4⟩

section
variable {s t : State} {j : Job} {f : Job → Job}

/-- The job named by its slot is the one whose account changes. -/
theorem State.ledger_jobsWith (hs : s.ledger.balanced) (hj : j ∈ s.jobs) (ht : t.jobs = s.jobsWith j.slotAddr f) :
    t.ledger.jobs = s.ledger.jobs.map (fun k => if k.slotAddr = j.account.slotAddr then (f j).account else k) := by
  have hn : (s.jobs.map (·.slotAddr)).Nodup := by have := hs.slots; rwa [State.ledger, List.map_map] at this
  simp only [State.ledger, ht, State.jobsWith, List.map_map]
  refine List.map_congr_left (fun k hk => ?_)
  by_cases he : k.slotAddr = j.slotAddr
  · obtain rfl := List.inj_on_of_nodup_map hn hk hj he
    simp [Job.account]
  · simp [Job.account, he]

/-- The ledger balances still when one job changes that has no sheet at its station before or after, and accounts for its
pages by itself. -/
theorem State.balanced_jobChange (hs : s.ledger.balanced) (hj : j ∈ s.jobs) (ht : t.jobs = s.jobsWith j.slotAddr f)
    (hslot : (f j).slotAddr = j.slotAddr)
    (hfree : ∀ i, (f j).station = some i → j.station ≠ some i → ∀ k ∈ s.jobs, k.station ≠ some i)
    (hempty : t.noSheet j.station ∧ t.noSheet (f j).station)
    (hothers : ∀ i, j.station ≠ some i → t.ledger.sheets i = s.ledger.sheets i ∧ t.ledger.stacked i = s.ledger.stacked i)
    (hb : (f j).account.balances) (hends : j.state = .finishing → (f j).state = .finishing)
    (htasks : t.completions = s.completions ∨
      (t.completions.Perm (j.slotAddr :: s.completions) ∧ j.state ≠ .finishing ∧ (f j).state = .finishing)) :
    t.ledger.balanced := by
  have hnone : ∀ i, (f j).station = some i → t.ledger.sheets i = none ∧ t.ledger.stacked i = none :=
    fun i hi => State.noSheet_ledger.1 (hempty.2 i hi)
  refine hs.change (j := j.account) (j' := (f j).account)
    ⟨List.mem_map_of_mem hj, State.ledger_jobsWith hs hj ht, hslot, fun i hi _ => hothers i hi⟩ ?_
    (fun i hi _ => State.noSheet_ledger.1 (hempty.1 i hi)) ?_ ?_ ((State.accounts_iff_balances hempty.2).2 hb) hends htasks
  · intro i hi k hk hki
    by_cases hji : j.station = some i
    · exact hs.eq_of_station (List.mem_map_of_mem hj) hk hji hki
    · obtain ⟨k', hk', rfl⟩ := List.mem_map.1 hk
      exact absurd hki (hfree i hi hji k' hk')
  · rintro i hi h
    simp [hnone i hi] at h
  · exact fun i hi _ => (hnone i hi).2

/-- Where a job keeps its station or leaves it, and its pages stay, every station's job has a page left as before. -/
theorem State.pagesLeft_jobChange (hs : s.ledger.balanced) (hj : j ∈ s.jobs) (ht : t.jobs = s.jobsWith j.slotAddr f)
    (hstation : (f j).station = j.station ∨ (f j).station = none) (hnext : (f j).nextPage = j.nextPage)
    (hcount : (f j).pageCount = j.pageCount) (i : StationId) (hl : s.ledger.pagesLeft i) : t.ledger.pagesLeft i := by
  intro k hk hki
  rw [State.ledger_jobsWith hs hj ht] at hk
  obtain ⟨q, hq, rfl⟩ := List.mem_map.1 hk
  split at hki
  next hslot =>
    rw [if_pos hslot]
    rcases hstation with h | h
    · have := hl j.account (List.mem_map_of_mem hj) (by rw [← hki]; exact h.symm)
      simpa [Job.account, hnext, hcount] using this
    · simp [Job.account, h] at hki
  next hslot => rw [if_neg hslot]; exact hl q hq hki

/-- A quiet change of one job that has no sheet at its station. -/
theorem State.accounted.jobChange {P : StationId → Prop} (h : s.accounted P) (hq : s.quiet t) (hj : j ∈ s.jobs)
    (ht : t.jobs = s.jobsWith j.slotAddr f) (hslot : (f j).slotAddr = j.slotAddr)
    (hstation : (f j).station = j.station ∨ (f j).station = none) (hnext : (f j).nextPage = j.nextPage)
    (hcount : (f j).pageCount = j.pageCount) (hempty : s.noSheet j.station) (hb : (f j).account.balances)
    (hends : j.state = .finishing → (f j).state = .finishing)
    (htasks : t.completions = s.completions ∨
      (t.completions.Perm (j.slotAddr :: s.completions) ∧ j.state ≠ .finishing ∧ (f j).state = .finishing)) :
    t.accounted P := by
  have hemptyt : t.noSheet j.station := by
    intro i hi
    obtain ⟨h1, h2⟩ := hempty i hi
    exact ⟨(hq.stations i).sheet_none.2 h1, (hq.stations i).stacked.trans h2⟩
  refine ⟨State.balanced_jobChange h.ledger hj ht hslot (fun i hi hji => ?_) ⟨hemptyt, ?_⟩ (fun i _ => ?_) hb hends htasks,
    h.queue.sublist hq.queue, fun k hk => hq.agrees (h.agrees k hk) (State.pagesLeft_jobChange h.ledger hj ht hstation hnext hcount k)⟩
  · rcases hstation with hs | hs
    · exact absurd (hs ▸ hi) hji
    · rw [hs] at hi; cases hi
  · rcases hstation with hs | hs
    · rw [hs]; exact hemptyt
    · rw [hs]; intro i hi; cases hi
  · rw [hq.sheets, hq.stacked]; exact ⟨rfl, rfl⟩

end

/-! ## The end of a job (R65) -/

@[simp] theorem State.dozeIfIdle_jobs (s : State) (i : StationId) : (s.dozeIfIdle i).jobs = s.jobs := by
  unfold State.dozeIfIdle; split <;> rfl

/-- A job of one slot found: it is one of the contexts, at that slot. -/
theorem State.job_spec {s : State} {a : Addr} {j : Job} (h : s.job a = some j) : j ∈ s.jobs ∧ j.slotAddr = a :=
  ⟨List.mem_of_find?_eq_some h, State.slotAddr_of_job h⟩

/-- A job among the contexts is found at its slot. -/
theorem State.job_of_mem {s : State} (hs : s.ledger.balanced) {j : Job} (hj : j ∈ s.jobs) : s.job j.slotAddr = some j := by
  have hn : (s.jobs.map (·.slotAddr)).Nodup := by have := hs.slots; rwa [State.ledger, List.map_map] at this
  cases h : s.job j.slotAddr with
  | none => exact absurd (beq_self_eq_true j.slotAddr) (List.find?_eq_none.1 h j hj)
  | some k =>
    obtain ⟨hk, hslot⟩ := State.job_spec h
    rw [List.inj_on_of_nodup_map hn hk hj hslot]

/-- The ending event is quiet but for the job, FINISHING, and its completion task. -/
theorem State.finishJob_quiet {s : State} {a : Addr} {j : Job} (o : TicketOutcome) (h : s.job a = some j) :
    s.quiet (s.finishJob a o) ∧ (s.finishJob a o).jobs = s.jobsWith a (·.finished o) ∧
      (s.finishJob a o).completions.Perm (a :: s.completions) := by
  have hupd : s.quiet (s.updJob a (·.finished o)) :=
    ⟨fun k => .refl _, fun k => ⟨rfl, rfl⟩, .refl _, fun k => Nat.le_refl _⟩
  have hend : ∀ u : State, (s.updJob a (·.finished o)).keeps u → u.jobs = s.jobsWith a (·.finished o) →
      s.quiet (u.addTask (.completion a)) ∧ (u.addTask (.completion a)).jobs = s.jobsWith a (·.finished o) ∧
        (u.addTask (.completion a)).completions.Perm (a :: s.completions) := by
    intro u hu hjobs
    obtain ⟨hq, hj, hc⟩ := u.addTask_quiet (.completion a)
    exact ⟨(hupd.trans hu.toquiet).trans hq, hj.trans hjobs, by rw [hu.completions] at hc; exact hc⟩
  unfold State.finishJob
  rw [h]
  dsimp only
  split
  · exact hend _ (State.dozeIfIdle_keeps _ _) (State.dozeIfIdle_jobs _ _)
  · exact hend _ (.refl _) rfl

/-- The job with its end left to wait for the dispatcher. -/
def Job.awaitsEnd (o : TicketOutcome) (j : Job) : Job := { j with ending := some o }

/-- The end of a job is quiet but for that job: FINISHING with its completion task added, or left with its end waiting. -/
theorem State.endJob_quiet {s : State} {a : Addr} {j : Job} (o : TicketOutcome) (h : s.job a = some j) :
    s.quiet (s.endJob a o) ∧
      (((s.endJob a o).jobs = s.jobsWith a (·.finished o) ∧ (s.endJob a o).completions.Perm (a :: s.completions)) ∨
        ((s.endJob a o).jobs = s.jobsWith a (Job.awaitsEnd o) ∧ (s.endJob a o).completions = s.completions)) := by
  rcases s.endJob_cases a o with ⟨-, he⟩ | ⟨-, he⟩
  · obtain ⟨hq, hj, hc⟩ := State.finishJob_quiet o h
    rw [he]; exact ⟨hq, .inl ⟨hj, hc⟩⟩
  · rw [he]
    exact ⟨⟨fun k => .refl _, fun k => ⟨rfl, rfl⟩, .refl _, fun k => Nat.le_refl _⟩, .inr ⟨rfl, rfl⟩⟩

/-- A job that ends has every page counted (R67). -/
theorem Job.finished_balances {j : Job} (o : TicketOutcome) (hr : j.nextPage ≤ j.pageCount)
    (hsum : j.counts.total + j.lostPages = j.nextPage) : (j.finished o).account.balances := by
  have htotal : (j.finished o).counts.total = j.pageCount := by rw [Job.finished_total]; omega
  exact ⟨hr, by simpa [Job.account, Job.finished] using htotal, fun _ => ⟨rfl, rfl⟩, fun _ => ⟨rfl, .inl rfl⟩⟩

/-- A job whose end waits accounts for its pages as before. -/
theorem Job.awaitsEnd_balances {j : Job} (o : TicketOutcome) (hnf : j.state ≠ .finishing) (hr : j.nextPage ≤ j.pageCount)
    (hsum : j.counts.total + j.lostPages = j.nextPage) (hq : j.state = .queued → j.station = none ∧ j.returnPending = false)
    (hlost : j.lostSheet ≠ none → j.station = none) : (j.awaitsEnd o).account.balances := by
  refine ⟨hr, ?_, fun h => h.elim hq (fun h => absurd h hnf), fun hl =>
    ⟨hlost (fun hn => hl (by simp [Job.account, Job.awaitsEnd, hn])), .inr rfl⟩⟩
  rw [if_neg (show (j.awaitsEnd o).account.state ≠ .finishing from hnf)]
  exact hsum

/-- What a job without a sheet that has not ended accounts for. -/
theorem State.balances_of_mem {s : State} {j : Job} (hs : s.ledger.balanced) (hj : j ∈ s.jobs) (hempty : s.noSheet j.station) :
    j.account.balances := (State.accounts_iff_balances hempty).1 (hs.accounts _ (List.mem_map_of_mem hj))

theorem JobAccount.balances.sum_of_job {j : Job} (h : j.account.balances) (hnf : j.state ≠ .finishing) :
    j.counts.total + j.lostPages = j.nextPage := by
  have := h.sum
  rwa [if_neg (show j.account.state ≠ .finishing from hnf)] at this

/-- The end of a job that has not ended and has no sheet at its station. -/
theorem State.endJob_accounted {P : StationId → Prop} {s : State} {j : Job} (o : TicketOutcome) (h : s.accounted P)
    (hj : j ∈ s.jobs) (hnf : j.state ≠ .finishing) (hempty : s.noSheet j.station) : (s.endJob j.slotAddr o).accounted P := by
  have hb := State.balances_of_mem h.ledger hj hempty
  have hsum := hb.sum_of_job hnf
  obtain ⟨hq, ⟨hjobs, hc⟩ | ⟨hjobs, hc⟩⟩ := State.endJob_quiet o (State.job_of_mem h.ledger hj)
  · exact h.jobChange hq hj hjobs rfl (.inr rfl) rfl rfl hempty (Job.finished_balances o hb.reached hsum) (fun _ => rfl)
      (.inr ⟨hc, hnf, rfl⟩)
  · exact h.jobChange hq hj hjobs rfl (.inl rfl) rfl rfl hempty
      (Job.awaitsEnd_balances o hnf hb.reached hsum (fun hs => hb.offStation (.inl hs))
        (fun hl => (hb.lost (by simpa [Job.account] using hl)).1)) (fun hf => hf) (.inl hc)

end Sys2Proof.Machine
end

section
/-! PROOFS. The pages accounted for, at the arbiters (R67, R118, R141): a station at work at its sheet, the lines that begin,
the permits granted and returned, the photometer granted and released. -/

namespace Sys2Proof.Machine

/-! ## One station changes -/

/-- A station that did not change agrees still. -/
theorem State.agrees.congr {s t : State} {k : StationId} (h : s.agrees k) (hst : t.st k = s.st k) (hcal : t.cal k = s.cal k)
    (hr : t.entryReads k ≤ s.entryReads k) (hq : k ∈ t.photometerQueue → k ∈ s.photometerQueue)
    (hl : s.ledger.pagesLeft k → t.ledger.pagesLeft k) : t.agrees k := (State.quietAt_of_eq hst hcal hq hr).agrees h hl

/-- A change of a station that leaves the pages of its sheets is none to the ledger. -/
theorem State.ledger_updSt {s : State} {i : StationId} {f : Station → Station}
    (hsheet : (f (s.st i)).sheet.map Sheet.pages = (s.st i).sheet.map Sheet.pages)
    (hstacked : (f (s.st i)).stacked = (s.st i).stacked) : (s.updSt i f).ledger = s.ledger := by
  have h1 : ∀ k, ((s.updSt i f).st k).sheet.map Sheet.pages = (s.st k).sheet.map Sheet.pages := by
    intro k; rw [State.st_updSt]
    split
    next hk => rw [hk]; exact hsheet
    next => rfl
  have h2 : ∀ k, ((s.updSt i f).st k).stacked = (s.st k).stacked := by
    intro k; rw [State.st_updSt]
    split
    next hk => rw [hk]; exact hstacked
    next => rfl
  simp only [State.ledger, h1, h2]
  rfl

/-- A change of one station that leaves the pages of its sheets. -/
theorem State.accounted.updSt {P : StationId → Prop} {s : State} {i : StationId} {f : Station → Station}
    (h : s.accounted (fun k => P k ∧ k ≠ i)) (hsheet : (f (s.st i)).sheet.map Sheet.pages = (s.st i).sheet.map Sheet.pages)
    (hstacked : (f (s.st i)).stacked = (s.st i).stacked)
    (hi : P i → (f (s.st i)).agrees (s.cal i) (s.entryReads i) (i ∈ s.photometerQueue) (s.ledger.pagesLeft i)) :
    (s.updSt i f).accounted P := by
  have hledger := State.ledger_updSt hsheet hstacked
  refine ⟨hledger ▸ h.ledger, h.queue, fun k hk => ?_⟩
  by_cases hki : k = i
  · subst hki
    unfold State.agrees
    rw [hledger, State.st_updSt_same]
    exact hi hk
  · exact (h.agrees k ⟨hk, hki⟩).congr (State.st_updSt_other s f hki) rfl (Nat.le_refl _) id (by rw [hledger]; exact id)

/-! ## A station at work -/

/-- Station `i` works at its sheet, and may go on with activity `act`: it does not wait for the photometer, no page entry read
of its own is on its way, and its open entry, if any, is of a frame that `act` is part of. -/
structure State.mayWork (s : State) (i : StationId) (act : Activity) : Prop where
  atWork : (s.st i).atWork (s.cal i)
  opened : ∀ sh, (s.st i).sheet = some sh → sh.openEntry ≠ none → act.inFrame = true
  queue : i ∉ s.photometerQueue
  reads : s.entryReads i = 0

theorem State.quietAt.mayWork {s t : State} {i : StationId} {act : Activity} (h : s.quietAt t i) (hw : s.mayWork i act) :
    t.mayWork i act := by
  have ha := h.station
  refine ⟨⟨fun hn => hw.atWork.sheet (ha.sheet_none.1 hn), ha.stacked.trans hw.atWork.stacked, ?_, ?_, ?_⟩, fun sh hsh ho => ?_,
    fun hq => hw.queue (h.queue hq), Nat.le_zero.1 (hw.reads ▸ h.reads)⟩
  · rw [ha.state]; exact hw.atWork.state
  · rw [h.cal.1]; exact hw.atWork.valid
  · rw [← Option.map_eq_none_iff, h.cal.2, hw.atWork.flight]; rfl
  · obtain ⟨sh', hsh', hiff⟩ := ha.opened hsh
    exact hw.opened sh' hsh' (fun hn => ho (hiff.1 hn))

/-- The station does something, and neither waits for the photometer nor has a page entry read outstanding. -/
def Activity.engaged : Activity → Bool
  | .idle | .quickWait | .entryRead => false
  | _ => true

/-- An engaged station may go on with what its frame, if one is in flight, goes on with. -/
theorem State.agrees.mayWork {s : State} {i : StationId} {act act' : Activity} (h : s.agrees i)
    (ha : (s.st i).activity = act) (he : act.engaged = true) (hin : act.inFrame = true → act'.inFrame = true) :
    s.mayWork i act' := by
  have hidle : (s.st i).activity ≠ .idle := by rintro hn; rw [← ha, hn] at he; cases he
  have hquick : (s.st i).activity ≠ .quickWait := by rintro hn; rw [← ha, hn] at he; cases he
  have hentry : (s.st i).activity ≠ .entryRead := by rintro hn; rw [← ha, hn] at he; cases he
  have hw := Station.agrees.atWork h hidle
  refine ⟨hw, fun sh hsh ho => hin ?_, Station.agrees.not_waits h hw.sheet hquick, Station.agrees.reads_zero h hentry⟩
  by_contra hn
  exact ho (Station.agrees.closed h (by simpa [ha] using hn) hsh)

/-- Station `i` takes up an activity of a frame or an area, at an exposure or on its way to one, whether it agreed before or
not. -/
theorem State.accounted.work {P : StationId → Prop} {s : State} {i : StationId} {act : Activity} {f : Station → Station}
    (h : s.accounted (fun k => P k ∧ k ≠ i)) (hw : P i → s.mayWork i act) (hb : act.atBoundary = false)
    (hact : (f (s.st i)).activity = act)
    (hstate : (f (s.st i)).state = (s.st i).state ∨ (f (s.st i)).state = .exposing ∨ (f (s.st i)).state = .sheetOpen)
    (hsheet : (f (s.st i)).sheet = (s.st i).sheet) (hstacked : (f (s.st i)).stacked = (s.st i).stacked) :
    (s.updSt i f).accounted P := by
  refine h.updSt (by rw [hsheet]) hstacked (fun hi => ?_)
  obtain ⟨hwork, hopen, hqueue, hreads⟩ := hw hi
  have hwork' : (f (s.st i)).atWork (s.cal i) := by
    refine ⟨by rw [hsheet]; exact hwork.sheet, hstacked.trans hwork.stacked, ?_, hwork.valid, hwork.flight⟩
    rcases hstate with hs | hs | hs
    · rw [hs]; exact hwork.state
    · exact .inr hs
    · exact .inl hs
  refine hwork'.agrees (fun sh hsh ho => hact ▸ hopen sh (hsheet ▸ hsh) ho) (fun hb' => ?_) (fun hq => absurd hq hqueue)
    (by rw [hreads]; exact Nat.zero_le _) (fun he => ?_)
  · rw [hact, hb] at hb'; cases hb'
  · rw [hact] at he; rw [he] at hb; cases hb

/-- What holds of every station of `P` holds of those other than `i`. -/
theorem State.accounted.others {P : StationId → Prop} {s : State} (h : s.accounted P) (i : StationId) :
    s.accounted (fun k => P k ∧ k ≠ i) := h.mono (fun _ hk => hk.1)

/-! ## The lines of an exposure (R105, R123) -/

/-- A line begins by quiet operations, then the station's activity and what it drives. -/
theorem State.startLine_quietly (s : State) (i : StationId) (a : Area) (j : Nat) : ∃ u : State, s.keeps u ∧
    s.startLine i a j = u.updSt i (fun x => { x with
      activity := .line a j, drive := (u.lineDwells i a j).1, driveSaturated := (u.lineDwells i a j).2 }) := by
  have hage : s.keeps (if j = 0 ∧ (s.cal i).due then s.updEntry i (fun e => { e with aged := true }) else s) := by
    split
    · exact State.updEntry_keeps s i (fun _ => rfl)
    · exact .refl s
  unfold State.startLine
  generalize (if j = 0 ∧ (s.cal i).due then s.updEntry i (fun e => { e with aged := true }) else s) = u at hage
  have hread : u.keeps (u.updSt i (fun x => { x with bandReading := none })) := State.updSt_keeps ⟨rfl, rfl, rfl, rfl⟩
  refine ⟨_, hage.trans ?_, rfl⟩
  dsimp only
  split
  · split
    · exact hread
    · exact hread.trans (State.askStop_keeps _ _ (fun k h => by cases h))
  · exact .refl u

theorem State.startLine_accounted {P : StationId → Prop} {s : State} {i : StationId} {a : Area} {j : Nat} (h : s.accounted P)
    (hw : P i → s.mayWork i (.line a j)) : (s.startLine i a j).accounted P := by
  obtain ⟨u, hu, heq⟩ := s.startLine_quietly i a j
  rw [heq]
  exact ((hu.accounted h).others i).work (fun hi => (hu.toquiet.at i).mayWork (hw hi)) rfl rfl (.inl rfl) rfl rfl

/-! ## Permits (R118) -/

theorem State.permits_keep (s : State) (holders queue : List StationId) :
    s.keeps { s with permitHolders := holders, permitQueue := queue } :=
  State.keeps_of rfl rfl (.refl _) rfl rfl (fun _ => Nat.le_refl _)

theorem State.grantPermit_accounted {P : StationId → Prop} {s : State} {i : StationId} (h : s.accounted P) (hi : P i) :
    (s.grantPermit i).accounted P := by
  have hholders := (s.permits_keep (s.permitHolders ++ [i]) s.permitQueue).accounted h
  unfold State.grantPermit
  dsimp only
  split
  next a ha =>
    have hmay : ∀ {u : State} {act : Activity}, u.accounted P → (u.st i).activity = .permitWait a →
        ((Activity.permitWait a).inFrame = true → act.inFrame = true) → u.mayWork i act :=
      fun hu hact hin => (hu.agrees i hi).mayWork hact rfl hin
    have hexposing := (hholders.others i).work (f := fun x => { x with state := .exposing })
      (fun _ => hmay hholders ha id) rfl ha (.inr (.inl rfl)) rfl rfl
    refine State.startLine_accounted hexposing (fun _ => hmay hexposing ?_ ?_)
    · rw [State.st_updSt_same]; exact ha
    · cases a <;> exact id
  · exact hholders

theorem State.returnPermit_accounted {P : StationId → Prop} {s : State} (i : StationId) (h : s.accounted P)
    (hq : ∀ q ∈ s.permitQueue, P q) : (s.returnPermit i).accounted P := by
  rcases s.returnPermit_cases i with ⟨-, he⟩ | ⟨-, -, he⟩ | ⟨q, rest, -, hqueue, he⟩
  · rw [he]; exact h
  · rw [he]; exact (s.permits_keep _ s.permitQueue).accounted h
  · rw [he]
    exact State.grantPermit_accounted ((s.permits_keep _ _).accounted h) (hq q (by simp [hqueue]))

theorem State.askPermit_accounted {P : StationId → Prop} {s : State} {i : StationId} {a : Area} (h : s.accounted P) (hi : P i)
    (hw : s.mayWork i (.permitWait a)) : (s.askPermit i a).accounted P := by
  have hwaits := (h.others i).work (f := fun x => { x with activity := .permitWait a }) (fun _ => hw) rfl rfl (.inl rfl) rfl rfl
  rcases s.askPermit_cases i a with ⟨-, he⟩ | ⟨-, -, -, he⟩ | ⟨-, -, -, he⟩
  · rw [he]; exact hwaits
  · rw [he]; exact State.grantPermit_accounted hwaits hi
  · rw [he]; exact (State.permits_keep _ _ _).accounted hwaits

/-! ## The photometer (R141, R143, R150) -/

/-- A station that agrees, with a sheet only when it waits for a QUICK at a boundary, agrees when the photometer is granted
to it, out of the queue. -/
theorem Station.agrees.granted {x : Station} {c : CalUnit} {reads : Nat} {waits left : Prop} (h : x.agrees c reads waits left)
    (hw : x.sheet ≠ none → x.activity = .quickWait) : Station.agrees
      { x with state := .calibrating, dozeTimer := none, activity := .idle, drive := [], driveSaturated := 0,
               head := .photometer, moveOut := true }
      { c with flight := some (c.granted x.sheet.isSome) } reads False left := by
  obtain ⟨-, -, -, -, hone, hst⟩ := h.coherent
  have hreads : reads = 0 := by
    refine h.reads_zero (fun he => ?_)
    by_cases hs : x.sheet = none
    · rw [h.idle hs] at he; cases he
    · rw [hw hs] at he; cases he
  refine ⟨⟨fun _ => by simp, fun hs => (by cases hs), fun hn => absurd rfl hn, fun hb => (by cases hb), fun sh hsh => ?_, hst⟩,
    fun hs => ⟨(h.sheet hs).1, False.elim, fun f hf => ?_⟩, fun _ => rfl, by simp [hreads], fun he => (by cases he)⟩
  · have hsheet : x.sheet ≠ none := by rw [show x.sheet = some sh from hsh]; simp
    have hclosed := h.closed (by rw [hw hsheet]; rfl) hsh
    exact ⟨(hone sh hsh).1, fun ho => absurd hclosed ho⟩
  · cases hf
    have hvalid := (h.sheet hs).1
    simp [CalUnit.granted, hvalid, Option.isSome_iff_ne_none.2 hs]

theorem State.grantPhotometer_accounted {P : StationId → Prop} {s : State} {i : StationId} (h : s.accounted P)
    (hw : (s.st i).sheet ≠ none → (s.st i).activity = .quickWait) (hq : i ∉ s.photometerQueue) :
    (s.grantPhotometer i).accounted P := by
  have hledger : (s.grantPhotometer i).ledger = s.ledger := State.ledger_updSt rfl rfl
  obtain ⟨-, -, hothers, -⟩ := s.grantPhotometer_spec i
  refine ⟨hledger ▸ h.ledger, h.queue, fun k hk => ?_⟩
  by_cases hki : k = i
  · subst hki
    have hg := Station.agrees.granted (h.agrees k hk) hw
    have hst : (s.grantPhotometer k).st k = _ := State.st_updSt_same _ _ _
    have hcal : (s.grantPhotometer k).cal k = _ := State.cal_updCal_same _ _ _
    unfold State.agrees
    rw [hst, hcal, hledger]
    exact Station.agrees.of_alike hg (.refl _) rfl rfl (Nat.le_refl _) hq id
  · exact (h.agrees k hk).congr (hothers k hki).1 (hothers k hki).2 (Nat.le_refl _) id (by rw [hledger]; exact id)

theorem State.photometer_keeps (s : State) (photometer : Option StationId) {queue : List StationId}
    (hq : queue.Sublist s.photometerQueue) : s.keeps { s with photometer := photometer, photometerQueue := queue } :=
  State.keeps_of rfl rfl hq rfl rfl (fun _ => Nat.le_refl _)

theorem State.releasePhotometer_accounted {P : StationId → Prop} {s : State} (i : StationId) (h : s.accounted P)
    (hP : ∀ q ∈ s.photometerQueue, P q) : (s.releasePhotometer i).accounted P := by
  rcases s.releasePhotometer_cases i with ⟨-, he⟩ | ⟨-, -, he⟩ | ⟨q, rest, -, hqueue, he⟩
  · rw [he]; exact h
  · rw [he]; exact (s.photometer_keeps none (.refl _)).accounted h
  · rw [he]
    have hn := h.queue
    rw [hqueue] at hn
    refine State.grantPhotometer_accounted ((s.photometer_keeps s.photometer (by rw [hqueue]; exact List.sublist_cons_self _ _)).accounted h)
      (fun hs => ?_) (List.nodup_cons.1 hn).1
    have hq : q ∈ s.photometerQueue := by simp [hqueue]
    exact (Station.agrees.sheet (h.agrees q (hP q hq)) hs).2.1 hq

theorem State.askPhotometer_accounted {P : StationId → Prop} {s : State} {i : StationId} (h : s.accounted P)
    (hw : (s.st i).sheet ≠ none → (s.st i).activity = .quickWait) : (s.askPhotometer i).accounted P := by
  rcases s.askPhotometer_cases i with ⟨-, he⟩ | ⟨-, hq, he⟩ | ⟨-, -, hq, he⟩
  · rw [he]; exact h
  · rw [he]; exact State.grantPhotometer_accounted h hw hq
  · rw [he]
    refine ⟨h.ledger, ?_, fun k hk => ?_⟩
    · simpa [List.concat_eq_append] using h.queue.concat hq
    · obtain ⟨hc, hs, hf, hr, hl⟩ := h.agrees k hk
      refine ⟨hc, fun hn => ⟨(hs hn).1, fun hk' => ?_, (hs hn).2.2⟩, hf, hr, hl⟩
      rcases List.mem_append.1 hk' with hk' | hk'
      · exact (hs hn).2.1 hk'
      · obtain rfl := List.mem_singleton.1 hk'
        exact hw hn

theorem State.abortCalibration_accounted {P : StationId → Prop} {s : State} (i : StationId) (h : s.accounted P)
    (hP : ∀ q ∈ s.photometerQueue, P q) : (s.abortCalibration i).accounted P := by
  unfold State.abortCalibration
  split
  · have hcal : (s.updCal i (fun c => { c with flight := none })).accounted P := by
      refine ⟨h.ledger, h.queue, fun k hk => ?_⟩
      obtain ⟨hc, hs, hf, hr, hl⟩ := h.agrees k hk
      by_cases hki : k = i
      · subst hki
        refine ⟨hc, fun hn => ?_, fun hf' => ?_, hr, hl⟩
        · rw [State.cal_updCal_same]
          exact ⟨(hs hn).1, (hs hn).2.1, fun f hf => (by cases hf)⟩
        · rw [State.cal_updCal_same] at hf'; exact absurd rfl hf'
      · exact (h.agrees k hk).congr rfl (State.cal_updCal_other _ _ hki) (Nat.le_refl _) id id
    exact State.releasePhotometer_accounted i ((State.updSt_keeps ⟨rfl, rfl, rfl, rfl⟩).accounted hcal) hP
  · exact h

end Sys2Proof.Machine
end

section
/-! PROOFS. The pages accounted for, through the dispatcher (R54 to R67): the NO_STOCK test, the returns, the load decision and
the load, what a READY station does, the match, the stacked sheet's hand-over, and all of these until nothing is left. -/

namespace Sys2Proof.Machine

/-! ## Jobs at their stations -/

/-- A job attached to a station. -/
theorem State.attached_account {s : State} {i : StationId} {j : Job} (hj : s.attached i = some j) :
    j.account ∈ s.ledger.jobs ∧ j.account.station = some i :=
  ⟨List.mem_map_of_mem (State.attached_spec hj).1, (State.attached_spec hj).2⟩

/-- A sheet at a job's station is the job's own, and the job works. -/
theorem State.works_of_attached {s : State} (hs : s.ledger.balanced) {i : StationId} {j : Job} (hj : s.attached i = some j)
    (h : (s.st i).sheet ≠ none ∨ (s.st i).stacked ≠ none) :
    j.state = .sheetActive ∧ j.ending = none ∧ j.returnPending = false ∧ j.lostSheet = none := by
  obtain ⟨k, hk, hki, hw⟩ := hs.works i (by simpa [State.ledger] using h)
  obtain ⟨hmem, hst⟩ := State.attached_account hj
  rw [hs.eq_of_station hmem hk hst hki] at hw
  simpa [JobAccount.works, Job.account] using hw

/-- A job that does not work has no sheet at its station. -/
theorem State.noSheet_of_attached {s : State} (hs : s.ledger.balanced) {i : StationId} {j : Job} (hj : s.attached i = some j)
    (h : ¬(j.state = .sheetActive ∧ j.ending = none ∧ j.returnPending = false)) : s.noSheet j.station := by
  intro k hk
  obtain rfl : i = k := by rw [(State.attached_spec hj).2] at hk; exact Option.some.inj hk
  by_contra hne
  obtain ⟨h1, h2, h3, -⟩ := State.works_of_attached hs hj (by
    by_contra hn; simp only [not_or, not_not] at hn; exact hne hn)
  exact h ⟨h1, h2, h3⟩

theorem State.noSheet_none (s : State) : s.noSheet none := fun i hi => by cases hi

/-- What a job attached accounts for keeps it out of the intake list and of FINISHING. -/
theorem State.attached_state {s : State} (hs : s.ledger.balanced) {i : StationId} {j : Job} (hj : s.attached i = some j) :
    j.state ≠ .queued ∧ j.state ≠ .finishing := by
  obtain ⟨hmem, hst⟩ := State.attached_account hj
  have hoff := (hs.accounts _ hmem).offStation
  constructor
  · intro hq; rw [(hoff (.inl hq)).1] at hst; cases hst
  · intro hf; rw [(hoff (.inr hf)).1] at hst; cases hst

/-- A job in the intake list is at no station. -/
theorem State.queued_station {s : State} (hs : s.ledger.balanced) {j : Job} (hj : j ∈ s.jobs) (hq : j.state = .queued) :
    j.station = none ∧ j.returnPending = false := (hs.accounts _ (List.mem_map_of_mem hj)).offStation (.inl hq)

/-- A job attached that has no sheet changes in the state it is in, its waits and its flags, and stays at its station. -/
theorem State.accounted.updJob {P : StationId → Prop} {s : State} {i : StationId} {j : Job} {f : Job → Job} (h : s.accounted P)
    (hj : s.attached i = some j) (hempty : s.noSheet j.station)
    (hf : (f j).account = { j.account with state := (f j).state, returns := (f j).returnPending })
    (hq : (f j).state ≠ .queued) (hn : (f j).state ≠ .finishing) : (s.updJob j.slotAddr f).accounted P := by
  obtain ⟨hmem, hst⟩ := State.attached_spec hj
  have hb := State.balances_of_mem h.ledger hmem hempty
  obtain ⟨-, hnf⟩ := State.attached_state h.ledger hj
  refine h.jobChange (j := j) (f := f) ⟨fun k => .refl _, fun k => ⟨rfl, rfl⟩, .refl _, fun k => Nat.le_refl _⟩ hmem rfl
    (congrArg JobAccount.slotAddr hf) (.inl (congrArg JobAccount.station hf)) (congrArg JobAccount.nextPage hf)
    (congrArg JobAccount.pageCount hf) hempty ?_ (fun hfin => absurd hfin hnf) (.inl rfl)
  rw [hf]
  refine ⟨hb.reached, ?_, fun hs => hs.elim (absurd · hq) (absurd · hn), fun hl => ?_⟩
  · rw [if_neg hn]
    exact hb.sum_of_job hnf
  · obtain ⟨hnone, -⟩ := hb.lost hl
    rw [show j.account.station = some i from hst] at hnone; cases hnone

/-! ## The NO_STOCK test (R57) -/

theorem State.testStock_accounted {P : StationId → Prop} {s : State} {j : Job} (h : s.accounted P) (hj : j ∈ s.jobs) :
    (s.testStock j).accounted P := by
  unfold State.testStock
  split
  next hc =>
    have hq : j.state = .queued := by simp only [Bool.and_eq_true, beq_iff_eq] at hc; exact hc.1.1
    refine State.endJob_accounted _ h hj (by simp [hq]) ?_
    rw [(State.queued_station h.ledger hj hq).1]
    exact s.noSheet_none
  next => exact h

/-- The NO_STOCK test of one job leaves the contexts of the other slots. -/
theorem State.mem_testStock {s : State} {j k : Job} (hk : k ∈ s.jobs) (hne : k.slotAddr ≠ j.slotAddr) : k ∈ (s.testStock j).jobs := by
  have hwith : ∀ f : Job → Job, k ∈ s.jobsWith j.slotAddr f := fun f => List.mem_map.2 ⟨k, hk, if_neg hne⟩
  unfold State.testStock
  split
  · cases hjob : s.job j.slotAddr with
    | none =>
      rcases s.endJob_cases j.slotAddr .noStock with ⟨-, he⟩ | ⟨-, he⟩
      · rw [he, State.finishJob, hjob]; exact hk
      · rw [he]; exact hwith _
    | some q =>
      obtain ⟨-, ⟨hjobs, -⟩ | ⟨hjobs, -⟩⟩ := State.endJob_quiet .noStock hjob
      · rw [hjobs]; exact hwith _
      · rw [hjobs]; exact hwith _
  · exact hk

theorem State.testAllStock_accounted {P : StationId → Prop} {s : State} (h : s.accounted P) : s.testAllStock.accounted P := by
  have hn : (s.intake.map (·.slotAddr)).Nodup := by
    have := h.ledger.slots
    rw [State.ledger, List.map_map] at this
    exact this.sublist (List.filter_sublist.map _)
  have hmem : ∀ j ∈ s.intake, j ∈ s.jobs := fun j hj => (List.mem_filter.1 hj).1
  unfold State.testAllStock
  generalize s.intake = l at hn hmem
  induction l generalizing s with
  | nil => exact h
  | cons j l ih =>
    rw [List.map_cons, List.nodup_cons] at hn
    refine ih (State.testStock_accounted h (hmem j List.mem_cons_self)) hn.2 (fun k hk => ?_)
    refine State.mem_testStock (hmem k (List.mem_cons_of_mem _ hk)) (fun he => hn.1 ?_)
    exact he ▸ List.mem_map_of_mem hk

/-! ## Returns (R64) -/

/-- The job back in the intake list. -/
def Job.returned (j : Job) : Job := { j with station := none, returnPending := false, state := .queued }

theorem State.makeReturn_accounted {P : StationId → Prop} {s : State} {j : Job} (h : s.accounted P) (hj : j ∈ s.jobs)
    (hnf : j.state ≠ .finishing) (hempty : s.noSheet j.station) : (s.makeReturn j).accounted P := by
  have hreturned : ∀ u : State, s.keeps u → u.jobs = s.jobs → (u.updJob j.slotAddr Job.returned).accounted P := by
    intro u hu hjobs
    have hb := State.balances_of_mem h.ledger hj hempty
    have hemptyu : u.noSheet j.station := fun i hi =>
      ⟨(hu.stations i).sheet_none.2 (hempty i hi).1, (hu.stations i).stacked.trans (hempty i hi).2⟩
    refine (hu.accounted h).jobChange (j := j) (f := Job.returned)
      ⟨fun k => .refl _, fun k => ⟨rfl, rfl⟩, .refl _, fun k => Nat.le_refl _⟩ (hjobs ▸ hj) rfl rfl (.inr rfl) rfl rfl hemptyu
      ⟨hb.reached, ?_, fun _ => ⟨rfl, rfl⟩, fun hl => ⟨rfl, .inr ?_⟩⟩ (fun hf => absurd hf hnf) (.inl rfl)
    · exact hb.sum_of_job hnf
    · exact (hb.lost hl).2.resolve_left hnf
  have htested : ∀ u : State, u.accounted P → (match u.job j.slotAddr with
      | some j' => u.testStock j'
      | none => u).accounted P := by
    intro u hu
    split
    next k hk => exact State.testStock_accounted hu (State.job_spec hk).1
    next => exact hu
  unfold State.makeReturn
  dsimp only
  cases hs : j.station with
  | none => exact htested _ (hreturned s (.refl s) rfl)
  | some i =>
    exact htested _ ((State.dozeIfIdle_keeps _ i).accounted (hreturned _ (s.withdraw_keeps _) rfl))

/-- An attached job that has no sheet returns, or its return is left pending. -/
theorem State.returnJob_accounted {P : StationId → Prop} {s : State} {i : StationId} {j : Job} (h : s.accounted P)
    (hj : s.attached i = some j) (hempty : s.noSheet j.station) : (s.returnJob j).accounted P := by
  obtain ⟨hq, hnf⟩ := State.attached_state h.ledger hj
  rcases s.returnJob_cases j with ⟨-, he⟩ | ⟨-, he⟩
  · rw [he]; exact State.makeReturn_accounted h (State.attached_spec hj).1 hnf hempty
  · rw [he]; exact h.updJob hj hempty rfl hq hnf

/-! ## The load decision and the load (R58, R76) -/

theorem State.mayDecide_spec {s : State} {i : StationId} (h : s.mayDecide i = true) :
    (s.st i).state = .ready ∧ i ∉ s.photometerQueue ∧ (s.cal i).valid = true := by
  simp only [State.mayDecide, CalUnit.marked, Bool.and_eq_true, beq_iff_eq, Bool.not_eq_true', Bool.or_eq_false_iff,
    Bool.not_eq_false'] at h
  exact ⟨h.1.1, by simpa using h.1.2, h.2.1.1.1⟩

theorem State.beginLoad_accounted {P : StationId → Prop} {s : State} {i : StationId} {j : Job} (w : Nat × Nat)
    (h : s.accounted P) (hi : P i) (hj : s.attached i = some j) (hns : j.state ≠ .sheetActive) (he : j.ending = none)
    (hmay : s.mayDecide i = true) : (s.beginLoad i j w).accounted P := by
  obtain ⟨hmem, hst⟩ := State.attached_spec hj
  obtain ⟨hready, hqueue, hvalid⟩ := State.mayDecide_spec hmay
  obtain ⟨-, hnf⟩ := State.attached_state h.ledger hj
  have hempty := State.noSheet_of_attached h.ledger hj (fun hh => hns hh.1)
  have hb := State.balances_of_mem h.ledger hmem hempty
  have hag := h.agrees i hi
  obtain ⟨hsheet, hstacked⟩ := hempty i hst
  have hflight := Station.agrees.flight_none hag (by simp [hready])
  have hreads := Station.agrees.reads_zero hag (by rw [Station.agrees.idle hag hsheet]; simp)
  have hlost : j.account.lost = none := by
    by_contra hl
    have := (hb.lost hl).1
    rw [show j.account.station = some i from hst] at this; cases this
  let t := s.beginLoad i j w
  have hjobs : t.jobs = s.jobsWith j.slotAddr (fun k => s.loadedJob i k w) := rfl
  have hother : ∀ k, k ≠ i → t.st k = s.st k := fun k hk => State.st_updSt_other _ _ hk
  have hhere : t.st i = { s.st i with
      state := .loading, sheet := some (s.loadedSheet j w), supply := (s.st i).supply - 1, dozeTimer := none,
      loadTimer := some Config.loadMs, feeds := (s.st i).feeds + 1, transport := .feed ((s.st i).feeds + 1),
      activity := .idle, bandReading := none } := State.st_updSt_same _ _ _
  have hsheets : t.ledger.sheets i = some 0 := by simp [State.ledger, hhere]; rfl
  have hstackedt : t.ledger.stacked i = none := by simp [State.ledger, hhere, hstacked]
  refine ⟨h.ledger.change (j := j.account) (j' := (s.loadedJob i j w).account)
    ⟨List.mem_map_of_mem hmem, State.ledger_jobsWith h.ledger hmem hjobs, rfl, fun k hk _ => ?_⟩ ?_ ?_ ?_ ?_ ?_
    (fun hf => absurd hf hnf) (.inl rfl), h.queue, fun k hk => ?_⟩
  · have hki : k ≠ i := by rintro rfl; exact hk hst
    simp only [State.ledger]
    rw [show (s.beginLoad i j w).st k = s.st k from hother k hki]
    exact ⟨rfl, rfl⟩
  · exact fun k hk q hq hqk => h.ledger.eq_of_station (List.mem_map_of_mem hmem) hq hk hqk
  · exact fun k hk hne => absurd hk hne
  · rintro k - -
    exact ⟨rfl, by simp [Job.account, State.loadedJob, he], rfl, hlost⟩
  · rintro k hk -
    obtain rfl : i = k := Option.some.inj (hst.symm.trans hk)
    exact hstackedt
  · refine ⟨hb.reached, ?_, fun hs => hs.elim (fun hs => nomatch hs) (fun hs => nomatch hs), fun hl => absurd hlost hl⟩
    have hsum := hb.sum
    rw [if_neg (show j.account.state ≠ .finishing from hnf), hlost] at hsum
    have hun : t.ledger.uncounted (s.loadedJob i j w).account = 0 := by
      have hstation : (s.loadedJob i j w).account.station = some i := hst
      have hlost' : (s.loadedJob i j w).account.lost = none := hlost
      simp [Ledger.uncounted, hstation, hlost', hsheets, hstackedt]
    rw [if_neg (show (s.loadedJob i j w).account.state ≠ .finishing from fun hf => by cases hf)]
    show _ + t.ledger.uncounted _ = _
    rw [hun]
    exact hsum
  · by_cases hki : k = i
    · subst hki
      unfold State.agrees
      rw [show (s.beginLoad k j w).st k = _ from hhere]
      refine ⟨⟨fun _ => .inl rfl, fun _ => by simp, fun hn => absurd rfl hn, fun hb => (by cases hb), fun sh hsh => ?_, ?_⟩,
        fun _ => ⟨hvalid, fun hw => absurd hw hqueue, fun f hf => ?_⟩, fun hf => absurd hflight hf, ?_, fun he => (by cases he)⟩
      · cases hsh
        exact ⟨hstacked, fun ho => absurd rfl ho⟩
      · intro sh hsh; rw [show (s.st k).stacked = some sh from hsh] at hstacked; cases hstacked
      · rw [show (s.beginLoad k j w).cal k = s.cal k from rfl, hflight] at hf; cases hf
      · rw [show (s.beginLoad k j w).entryReads k = 0 from hreads]; exact Nat.zero_le _
    · exact (h.agrees k hk).congr (hother k hki) rfl (Nat.le_refl _) id
        (State.pagesLeft_jobChange (f := fun k => s.loadedJob i k w) h.ledger hmem rfl (.inl rfl) rfl rfl k)

theorem State.decideLoad_accounted {P : StationId → Prop} {s : State} {i : StationId} {j : Job} (h : s.accounted P) (hi : P i)
    (hj : s.attached i = some j) (hns : j.state ≠ .sheetActive) (he : j.ending = none) (hmay : s.mayDecide i = true) :
    (s.decideLoad i j).accounted P := by
  obtain ⟨hmem, -⟩ := State.attached_spec hj
  obtain ⟨-, hnf⟩ := State.attached_state h.ledger hj
  have hempty := State.noSheet_of_attached h.ledger hj (fun hh => hns hh.1)
  unfold State.decideLoad
  dsimp only
  split
  · split
    · exact State.endJob_accounted _ h hmem hnf hempty
    · exact State.returnJob_accounted h hj hempty
  · split
    · exact State.endJob_accounted _ h hmem hnf hempty
    · split
      · exact State.endJob_accounted _ h hmem hnf hempty
      · split
        · exact h.updJob hj hempty rfl (by simp) (by simp)
        · exact State.beginLoad_accounted _ h hi hj hns he hmay

/-- A stop that the dispatcher finds ends a job without a sheet, its flag set first (R58, R60, R61). -/
theorem State.stopEnds_accounted {P : StationId → Prop} {s : State} {i : StationId} {j : Job} (h : s.accounted P)
    (hj : s.attached i = some j) (hns : j.state ≠ .sheetActive) :
    ((s.updJob j.slotAddr (fun k => { k with stopSeen := true })).endJob j.slotAddr .stopped).accounted P := by
  obtain ⟨hmem, -⟩ := State.attached_spec hj
  obtain ⟨-, hnf⟩ := State.attached_state h.ledger hj
  have hempty := State.noSheet_of_attached h.ledger hj (fun hh => hns hh.1)
  have hseen := (s.updJob_keeps j.slotAddr (f := fun k => { k with stopSeen := true }) (fun _ => rfl)).accounted h
  exact State.endJob_accounted (j := { j with stopSeen := true }) .stopped hseen
    (List.mem_map.2 ⟨j, hmem, if_pos rfl⟩) hnf hempty

theorem State.loadDecision_accounted {P : StationId → Prop} {s : State} {i : StationId} (stop : Bool) (h : s.accounted P)
    (hi : P i) : (s.loadDecision i stop).accounted P := by
  unfold State.loadDecision
  split
  next j hj =>
    split
    · exact h
    next hc =>
      simp only [Bool.or_eq_true, Bool.not_eq_true', not_or, Bool.not_eq_true, Bool.not_eq_false, beq_iff_eq,
        Option.isSome_eq_false_iff, Option.isNone_iff_eq_none] at hc
      obtain ⟨he, hstate⟩ := hc
      have hns : j.state ≠ .sheetActive := by rcases hstate with hs | hs <;> simp [hs]
      split
      next hmay =>
        split
        · exact State.stopEnds_accounted h hj hns
        · exact State.decideLoad_accounted h hi hj hns he hmay
      next =>
        split
        · exact State.stopEnds_accounted h hj hns
        · exact h.updJob hj (State.noSheet_of_attached h.ledger hj (fun hh => hns hh.1)) rfl (by simp) (by simp)
  next => exact h

theorem State.runDecision_accounted {P : StationId → Prop} {s : State} {i : StationId} (h : s.accounted P) (hi : P i) :
    (s.runDecision i).accounted P := by
  unfold State.runDecision
  split
  · exact State.loadDecision_accounted _ h hi
  · exact (s.askStop_keeps i (fun k hk => by cases hk)).accounted h

theorem State.offer_accounted {P : StationId → Prop} {s : State} {i : StationId} (h : s.accounted P) (hi : P i) :
    (s.offer i).accounted P := by
  unfold State.offer
  split
  · split
    · exact State.runDecision_accounted h hi
    · exact h
  · exact h

/-! ## What a READY station does (R72, R75) -/

theorem State.readyActions_accounted {P : StationId → Prop} {s : State} {i : StationId} (h : s.accounted P) (hi : P i) :
    (s.readyActions i).accounted P := by
  unfold State.readyActions
  split
  next hready =>
    have hsheet := Station.agrees.no_sheet (h.agrees i hi) (.inr (.inr (.inl hready.1)))
    split
    · refine State.askPhotometer_accounted ((State.updSt_keeps ⟨rfl, rfl, rfl, rfl⟩).accounted h) (fun hs => absurd ?_ hs)
      rw [State.st_updSt_same]; exact hsheet
    · exact (State.dozeIfIdle_keeps _ i).accounted (State.offer_accounted h hi)
  next => exact h

/-- A wake begins at a station without a sheet (R70). -/
theorem State.beginWake_accounted {P : StationId → Prop} {s : State} {i : StationId} (h : s.accounted P)
    (hs : (s.st i).state = .parked ∨ (s.st i).state = .dozing) : (s.beginWake i).accounted P := by
  refine (h.others i).updSt rfl rfl (fun hi => ?_)
  have hag := h.agrees i hi
  have hsheet := Station.agrees.no_sheet hag (by rcases hs with hs | hs <;> simp [hs])
  have hidle := Station.agrees.idle hag hsheet
  refine Station.agrees_of_none hsheet hidle (by simp) (fun sh hsh => Station.agrees.stacked_closed hag hsh) (fun hf => ?_)
    (Station.agrees.reads_zero hag (by simp [hidle]))
  exact absurd (Station.agrees.flight_none hag (by rcases hs with hs | hs <;> simp [hs])) hf

end Sys2Proof.Machine
end

section
/-! PROOFS. The pages accounted for, while the dispatcher settles (R54 to R67): the match, the stacked sheet's hand-over, an
end that waited, a return, and all of these until nothing is left. -/

namespace Sys2Proof.Machine

/-- Every page is accounted for, with no station twice in the photometer queue. -/
abbrev State.whole (s : State) : Prop := s.accounted (fun _ => True)

/-! ## Attach (R55, R56) -/

/-- The match pairs a free station with a job of the intake list whose end does not wait. -/
theorem State.nextMatch_spec {s : State} {p : StationId × Job} (h : s.nextMatch = some p) :
    s.free p.1 = true ∧ p.2 ∈ s.jobs ∧ p.2.state = .queued ∧ p.2.ending = none := by
  obtain ⟨i, -, hi⟩ := List.exists_of_findSome?_eq_some h
  split at hi
  next hfree =>
    obtain ⟨j, hj, rfl⟩ := Option.map_eq_some_iff.1 hi
    have hmem := List.mem_of_find?_eq_some hj
    have hend := List.find?_some hj
    simp only [State.intake, List.mem_filter, beq_iff_eq] at hmem
    simp only [Bool.and_eq_true, Option.isNone_iff_eq_none] at hend
    exact ⟨hfree, hmem.1, hmem.2, hend.1⟩
  next => cases hi

theorem State.free_spec {s : State} {i : StationId} (h : s.free i = true) :
    ((s.st i).state = .ready ∨ (s.st i).state = .dozing ∨ (s.st i).state = .calibrating) ∧ (s.st i).sheet = none ∧
      s.attached i = none := by
  simp only [State.free, Bool.and_eq_true, Bool.or_eq_true, beq_iff_eq, Option.isNone_iff_eq_none, decide_eq_true_eq] at h
  obtain ⟨⟨⟨hstate, hsheet⟩, hatt⟩, -⟩ := h
  exact ⟨or_assoc.1 hstate, hsheet, hatt⟩

/-- No context names a station that has no job attached. -/
theorem State.station_ne_of_attached {s : State} {i : StationId} (h : s.attached i = none) {k : Job} (hk : k ∈ s.jobs) :
    k.station ≠ some i := by
  simpa using List.find?_eq_none.1 h k hk

/-- A station with no job attached has no sheet, present or stacked. -/
theorem State.noSheet_of_free {s : State} (hs : s.ledger.balanced) {i : StationId} (h : s.attached i = none) :
    s.noSheet (some i) := by
  rintro k hk
  obtain rfl := Option.some.inj hk
  by_contra hne
  obtain ⟨q, hq, hqi, -⟩ := hs.works i (by
    by_contra hn
    simp only [not_or, not_not] at hn
    exact hne (State.noSheet_ledger.2 hn))
  obtain ⟨j, hj, rfl⟩ := List.mem_map.1 hq
  exact State.station_ne_of_attached h hj hqi

/-- A job of the intake list whose end does not wait has lost no sheet. -/
theorem State.lost_of_queued {s : State} (hs : s.ledger.balanced) {j : Job} (hj : j ∈ s.jobs) (hq : j.state = .queued)
    (he : j.ending = none) : j.account.lost = none := by
  by_contra hl
  rcases ((hs.accounts _ (List.mem_map_of_mem hj)).lost hl).2 with hf | hf
  · rw [show j.account.state = .queued from hq] at hf; cases hf
  · simp [Job.account, he] at hf

/-- Where a job changes that names station `k` neither before nor after, station `k`'s job has a page left as before. -/
theorem State.pagesLeft_elsewhere {s t : State} {j : Job} {f : Job → Job} (hs : s.ledger.balanced) (hj : j ∈ s.jobs)
    (ht : t.jobs = s.jobsWith j.slotAddr f) {k : StationId} (hf : (f j).station ≠ some k) (hl : s.ledger.pagesLeft k) :
    t.ledger.pagesLeft k := by
  intro q hq hqk
  rw [State.ledger_jobsWith hs hj ht] at hq
  obtain ⟨q', hq', rfl⟩ := List.mem_map.1 hq
  split at hqk
  next => exact absurd hqk hf
  next hslot => rw [if_neg hslot]; exact hl q' hq' hqk

/-- A station that waits for no page entry agrees whatever pages its job has left. -/
theorem Station.agrees.of_left {x : Station} {c : CalUnit} {reads : Nat} {waits left left' : Prop}
    (h : x.agrees c reads waits left) (ha : x.activity ≠ .entryRead) : x.agrees c reads waits left' :=
  ⟨h.coherent, h.sheet, h.flight, h.reads, fun hn => absurd hn ha⟩

theorem State.attachedJob_accounted {P : StationId → Prop} {s : State} {i : StationId} {j : Job} (h : s.accounted P)
    (hi : P i) (hfree : s.free i = true) (hj : j ∈ s.jobs) (hq : j.state = .queued) (he : j.ending = none) :
    (s.attachedJob i j).accounted P := by
  obtain ⟨-, hsheet, hatt⟩ := State.free_spec hfree
  obtain ⟨hstation, -⟩ := State.queued_station h.ledger hj hq
  have hempty := State.noSheet_of_free h.ledger hatt
  have hlost := State.lost_of_queued h.ledger hj hq he
  have hb := State.balances_of_mem h.ledger hj (by rw [hstation]; exact s.noSheet_none)
  have hsum := hb.sum_of_job (by simp [hq])
  have hattached : (s.updJob j.slotAddr (fun k => k.attachedTo i)).accounted P := by
    refine ⟨State.balanced_jobChange (s := s) (j := j) (f := fun k => k.attachedTo i) h.ledger hj rfl rfl
      (fun k hk _ q hq' => ?_) ⟨by rw [hstation]; exact State.noSheet_none _, hempty⟩ (fun k _ => ⟨rfl, rfl⟩)
      ⟨hb.reached, hsum, fun hs => hs.elim (fun hs => nomatch hs) (fun hs => nomatch hs), fun hl => absurd hlost hl⟩
      (fun hf => by rw [hq] at hf; cases hf) (.inl rfl), h.queue, fun k hk => ?_⟩
    · obtain rfl := Option.some.inj hk
      exact State.station_ne_of_attached hatt hq'
    · by_cases hki : k = i
      · subst hki
        have hidle := Station.agrees.idle (h.agrees k hk) hsheet
        exact Station.agrees.of_left (h.agrees k hk) (by simp [hidle])
      · exact (h.agrees k hk).congr rfl rfl (Nat.le_refl _) id (State.pagesLeft_elsewhere (s := s) (j := j)
          (f := fun k => k.attachedTo i) h.ledger hj rfl (fun hs => hki (Option.some.inj hs).symm))
  exact (State.updSt_keeps ⟨rfl, rfl, rfl, rfl⟩).accounted hattached

theorem State.attach_accounted {P : StationId → Prop} {s : State} {i : StationId} {j : Job} (h : s.accounted P) (hi : P i)
    (hfree : s.free i = true) (hj : j ∈ s.jobs) (hq : j.state = .queued) (he : j.ending = none) :
    (s.attach i j).accounted P := by
  have hatt := State.attachedJob_accounted h hi hfree hj hq he
  rw [State.attach_eq]
  split
  next hdozing => exact State.beginWake_accounted hatt (.inr (by simp [hdozing]))
  next => exact State.readyActions_accounted hatt hi

/-! ## The stacked sheet (R62) -/

theorem State.noSheet_of_here {s : State} {i : StationId} {station : Option StationId} (hi : station = some i)
    (hsheet : (s.st i).sheet = none) (hstacked : (s.st i).stacked = none) : s.noSheet station := by
  rintro k hk
  obtain rfl : i = k := Option.some.inj (hi.symm.trans hk)
  exact ⟨hsheet, hstacked⟩

/-- No sheet is present beside a stacked one. -/
theorem State.sheet_of_stacked {s : State} (hs : s.ledger.balanced) {i : StationId} {sh : Sheet}
    (hsh : (s.st i).stacked = some sh) : (s.st i).sheet = none := by
  by_contra hn
  have := hs.oneSheet i (by simpa [State.ledger] using hn)
  simp [State.ledger, hsh] at this

/-- The pages of a stacked sheet pass from the sheet to the job's counts. -/
theorem State.stackedSheet_accounted {P : StationId → Prop} {s : State} {i : StationId} {j : Job} {sh : Sheet}
    (h : s.accounted P) (hsh : (s.st i).stacked = some sh) (hj : s.attached i = some j) :
    ((s.updSt i (fun x => { x with stacked := none })).updJob j.slotAddr (fun k => k.stackedSheet sh)).accounted P := by
  let t := (s.updSt i (fun x => { x with stacked := none })).updJob j.slotAddr (fun k => k.stackedSheet sh)
  obtain ⟨hmem, hst⟩ := State.attached_spec hj
  obtain ⟨hactive, hend, hret, hlostSheet⟩ := State.works_of_attached h.ledger hj (.inr (by simp [hsh]))
  have hother : ∀ k, k ≠ i → t.st k = s.st k := fun k hk => State.st_updSt_other _ _ hk
  have hhere : t.st i = { s.st i with stacked := none } := State.st_updSt_same _ _ _
  have hsheet := State.sheet_of_stacked h.ledger hsh
  have hempty : t.noSheet (some i) := by
    rintro k hk
    obtain rfl := Option.some.inj hk
    rw [hhere]; exact ⟨hsheet, rfl⟩
  have hacc := h.ledger.accounts _ (List.mem_map_of_mem (f := Job.account) hmem)
  have hcounted : (j.stackedSheet sh).counts.total = j.counts.total + pagesOn sh.map := PageCounts.total_add _ _ _
  have hlost : j.account.lost = none := by simp [Job.account, hlostSheet]
  have hsum : j.counts.total + pagesOn sh.map = j.nextPage := by
    have := hacc.sum
    rw [if_neg (show j.account.state ≠ .finishing by simp [Job.account, hactive])] at this
    have hun : s.ledger.uncounted j.account = pagesOn sh.map := by
      have hstation : j.account.station = some i := hst
      simp [Ledger.uncounted, hlost, State.ledger, hsheet, hsh, hstation]
    rwa [hun] at this
  have hstation : (j.stackedSheet sh).station = j.station := rfl
  refine ⟨State.balanced_jobChange (s := s) (j := j) (f := fun k => k.stackedSheet sh) h.ledger hmem rfl rfl
    (fun k hk hne => absurd hk hne) ⟨by rw [hst]; exact hempty, by rw [hstation, hst]; exact hempty⟩ (fun k hk => ?_)
    ⟨hacc.reached, ?_, fun hs => ?_, fun hl => absurd hlost hl⟩
    (fun hf => hf) (.inl rfl), h.queue, fun k hk => ?_⟩
  · have hki : k ≠ i := by rintro rfl; exact hk hst
    simp only [State.ledger]
    rw [hother k hki]
    exact ⟨rfl, rfl⟩
  · have hstate : (j.stackedSheet sh).account.state ≠ .finishing := by
      show j.state ≠ .finishing
      simp [hactive]
    have hlost' : (j.stackedSheet sh).account.lost = none := hlost
    rw [if_neg hstate, hlost']
    exact (hcounted.trans hsum)
  · have hs' : j.state = .queued ∨ j.state = .finishing := hs
    rw [hactive] at hs'
    rcases hs' with hs' | hs' <;> cases hs'
  · have hleft := State.pagesLeft_jobChange (s := s) (t := t) (j := j) (f := fun k => k.stackedSheet sh) h.ledger hmem rfl
      (.inl rfl) rfl rfl k
    by_cases hki : k = i
    · subst hki
      obtain ⟨⟨h1, h2, h3, h4, -, -⟩, -, hf, hr, -⟩ := h.agrees k hk
      have hidle := Station.agrees.idle (h.agrees k hk) hsheet
      unfold State.agrees
      rw [hhere]
      refine ⟨⟨h1, h2, h3, h4, fun q hq => ?_, fun q hq => (by cases hq)⟩, fun hn => absurd hsheet hn, hf, hr, fun ha => ?_⟩
      · rw [show (s.st k).sheet = some q from hq] at hsheet; cases hsheet
      · rw [show (s.st k).activity = .entryRead from ha] at hidle; cases hidle
    · exact (h.agrees k hk).congr (hother k hki) rfl (Nat.le_refl _) id hleft

theorem State.endQueue_keeps (s : State) (l : List DispatchEvent) : s.keeps { s with endQueue := l } :=
  State.keeps_of rfl rfl (.refl _) rfl rfl (fun _ => Nat.le_refl _)

/-- The sheet is counted, and the job goes on in ATTACHED or ends. -/
theorem State.handover_accounted {P : StationId → Prop} {s : State} (i : StationId) (h : s.accounted P) :
    (s.handover i).accounted P := by
  unfold State.handover
  split
  next sh j hsh hj =>
    have hs2 := State.stackedSheet_accounted (s := { s with endQueue := s.endQueue.filter (· != .stacked i) })
      ((s.endQueue_keeps _).accounted h) hsh hj
    have hj2 : (((({ s with endQueue := s.endQueue.filter (· != .stacked i) } : State).updSt i
        (fun x => { x with stacked := none })).updJob j.slotAddr (fun k => k.stackedSheet sh)).attached i) =
        some (j.stackedSheet sh) := by
      rw [State.attached_updJob (f := fun k => k.stackedSheet sh) (fun _ => rfl)]
      exact (congrArg _ hj).trans (congrArg some (if_pos rfl))
    have hempty : ((({ s with endQueue := s.endQueue.filter (· != .stacked i) } : State).updSt i
        (fun x => { x with stacked := none })).updJob j.slotAddr (fun k => k.stackedSheet sh)).noSheet
          (j.stackedSheet sh).station := by
      have hhere := State.st_updSt_same { s with endQueue := s.endQueue.filter (· != .stacked i) } i
        (fun x => { x with stacked := none })
      exact State.noSheet_of_here (State.attached_spec hj).2
        ((congrArg Station.sheet hhere).trans (State.sheet_of_stacked h.ledger hsh)) (congrArg Station.stacked hhere)
    dsimp only
    split
    · exact State.endJob_accounted (j := j.stackedSheet sh) _ hs2 (State.attached_spec hj2).1
        (State.attached_state hs2.ledger hj2).2 hempty
    · exact hs2.updJob (j := j.stackedSheet sh) (f := fun k => { k with state := .attached }) hj2 hempty rfl (by simp) (by simp)
  next hsh hj =>
    rw [(State.noSheet_of_free h.ledger hj i rfl).2] at hsh
    cases hsh
  next => exact h

theorem State.stackedEvent_accounted {P : StationId → Prop} {s : State} {i : StationId} (h : s.accounted P) (hi : P i) :
    (s.stackedEvent i).accounted P := by
  unfold State.stackedEvent
  split
  · exact (s.endQueue_keeps _).accounted h
  · exact State.readyActions_accounted (State.handover_accounted i h) hi

/-! ## Until nothing is left (R55, R64, R65) -/

/-- The ending event of a job that has not ended and has no sheet at its station. -/
theorem State.finishJob_accounted {P : StationId → Prop} {s : State} {j : Job} (o : TicketOutcome) (h : s.accounted P)
    (hj : j ∈ s.jobs) (hnf : j.state ≠ .finishing) (hempty : s.noSheet j.station) :
    (s.finishJob j.slotAddr o).accounted P := by
  have hb := State.balances_of_mem h.ledger hj hempty
  obtain ⟨hq, hjobs, hc⟩ := State.finishJob_quiet o (State.job_of_mem h.ledger hj)
  exact h.jobChange hq hj hjobs rfl (.inr rfl) rfl rfl hempty
    (Job.finished_balances o hb.reached (hb.sum_of_job hnf)) (fun _ => rfl) (.inr ⟨hc, hnf, rfl⟩)

/-- A job whose end or return waits has not ended and has no sheet at its station. -/
theorem State.waiting_spec {s : State} (hs : s.ledger.balanced) {j : Job} (hj : j ∈ s.jobs)
    (hw : j.ending ≠ none ∨ j.returnPending = true) : j.state ≠ .finishing ∧ s.noSheet j.station := by
  have hacc := hs.accounts _ (List.mem_map_of_mem (f := Job.account) hj)
  refine ⟨fun hf => ?_, fun i hi => ?_⟩
  · have hsum := hacc.sum
    rw [if_pos (show j.account.state = .finishing from hf)] at hsum
    rcases hw with hw | hw
    · exact hw (by simpa [Job.account] using hsum.2)
    · have := (hacc.offStation (.inr hf)).2
      rw [show j.account.returns = j.returnPending from rfl, hw] at this; cases this
  · have hempty := State.noSheet_of_attached hs ((State.attached_iff hs.stations).2 ⟨hj, hi⟩) (fun ⟨_, he, hr⟩ => by
      rcases hw with hw | hw
      · exact hw he
      · rw [hw] at hr; cases hr)
    exact hempty i hi

theorem State.dispatchStep_whole {s t : State} (h : s.whole) (ht : s.dispatchStep = some t) : t.whole := by
  have hqueue : ∀ l, ({ s with endQueue := l } : State).whole := fun l => (s.endQueue_keeps l).accounted h
  have hending : ∀ (a : Addr) (l : List DispatchEvent), State.whole (match (({ s with endQueue := l } : State).job a).bind (·.ending) with
      | some o => ({ s with endQueue := l } : State).finishJob a o
      | none => { s with endQueue := l }) := by
    intro a l
    split
    next o ho =>
      obtain ⟨j, hjob, he⟩ := Option.bind_eq_some_iff.1 ho
      obtain ⟨hj, rfl⟩ := State.job_spec hjob
      obtain ⟨hnf, hempty⟩ := State.waiting_spec (hqueue l).ledger hj (.inl (by simp [he]))
      exact State.finishJob_accounted o (hqueue l) hj hnf hempty
    next => exact hqueue l
  unfold State.dispatchStep at ht
  split at ht
  next i rest _ _ =>
    cases ht
    exact State.readyActions_accounted (State.handover_accounted i (hqueue rest)) trivial
  next a rest _ _ => cases ht; exact hending a rest
  next =>
    split at ht
    next j hret _ =>
      cases ht
      have hwait := List.find?_some hret
      simp only [Bool.and_eq_true] at hwait
      have hj := List.mem_of_find?_eq_some hret
      obtain ⟨hnf, hempty⟩ := State.waiting_spec h.ledger hj (.inr hwait.1)
      exact State.makeReturn_accounted h hj hnf hempty
    next =>
      split at ht
      next p hp =>
        cases ht
        obtain ⟨hfree, hj, hq, he⟩ := State.nextMatch_spec hp
        exact State.attach_accounted h trivial hfree hj hq he
      next o r l rest _ _ => cases ht; exact (State.addTicket_keeps _ o r l).accounted (hqueue rest)
      next => cases ht

theorem settleDispatch_whole (n : Nat) {s : State} (h : s.whole) : (settleDispatch n s).whole := by
  induction n generalizing s with
  | zero => exact h
  | succ n ih =>
    unfold settleDispatch
    split
    next t ht => exact ih (State.dispatchStep_whole h ht)
    next => exact h

theorem State.settle_whole {s : State} (h : s.whole) : s.settle.whole := settleDispatch_whole _ h

end Sys2Proof.Machine
end

section
/-! PROOFS. The pages accounted for, where a station's work is dropped (R63, R64, R82, R83, R86): the sheet lost, the lists
left, the fault and the reset. -/

namespace Sys2Proof.Machine

/-! ## The sheet lost (R63, R83) -/

/-- The pages of a lost sheet pass from the sheet to the job that its loss is handed to. -/
theorem Job.loseSheet_lostPages (j : Job) (sh : Sheet) : (j.loseSheet sh).lostPages = sh.pages := rfl

/-- What the counts of a job with a sheet present hold. -/
theorem State.sum_of_sheet {s : State} (hs : s.ledger.balanced) {i : StationId} {j : Job} {sh : Sheet}
    (hj : s.attached i = some j) (hsh : (s.st i).sheet = some sh) : j.counts.total + sh.pages = j.nextPage := by
  obtain ⟨hmem, hst⟩ := State.attached_spec hj
  obtain ⟨hactive, -, -, hlost⟩ := State.works_of_attached hs hj (.inl (by simp [hsh]))
  have hstacked : (s.st i).stacked = none := by
    cases hst' : (s.st i).stacked with
    | none => rfl
    | some q => rw [State.sheet_of_stacked hs hst'] at hsh; cases hsh
  have hsum := (hs.accounts _ (List.mem_map_of_mem (f := Job.account) hmem)).sum
  rw [if_neg (show j.account.state ≠ .finishing by simp [Job.account, hactive])] at hsum
  have hun : s.ledger.uncounted j.account = sh.pages := by
    have hstation : j.account.station = some i := hst
    have hlost' : j.account.lost = none := by simp [Job.account, hlost]
    simp [Ledger.uncounted, hlost', State.ledger, hsh, hstacked, hstation]
  rwa [hun] at hsum

theorem State.loseSheet_accounted {P : StationId → Prop} {s : State} {i : StationId} (h : s.accounted P) (hi : ¬P i) :
    (s.loseSheet i).accounted P := by
  unfold State.loseSheet
  split
  next sh j hsh hj =>
    dsimp only
    obtain ⟨hmem, hst⟩ := State.attached_spec hj
    obtain ⟨hactive, -, -, hlost⟩ := State.works_of_attached h.ledger hj (.inl (by simp [hsh]))
    have hacc := h.ledger.accounts _ (List.mem_map_of_mem (f := Job.account) hmem)
    have hsum : (j.loseSheet sh).counts.total + (j.loseSheet sh).lostPages = (j.loseSheet sh).nextPage := by
      have hpages : j.counts.total + sh.pages = j.nextPage := State.sum_of_sheet h.ledger hj hsh
      exact hpages
    have hstacked : (s.st i).stacked = none := by
      cases hst' : (s.st i).stacked with
      | none => rfl
      | some q => rw [State.sheet_of_stacked h.ledger hst'] at hsh; cases hsh
    let u := (s.updSt i Station.cleared).updJob j.slotAddr (fun k => k.loseSheet sh)
    have hother : ∀ k, k ≠ i → u.st k = s.st k := fun k hk => State.st_updSt_other _ _ hk
    have hhere : u.st i = (s.st i).cleared := State.st_updSt_same _ _ _
    have hjob : u.job j.slotAddr = some (j.loseSheet sh) := by
      rw [State.job_updJob (f := fun k => k.loseSheet sh) (fun _ => rfl)]
      exact (congrArg _ (State.job_of_mem h.ledger hmem)).trans (congrArg some (if_pos rfl))
    have hchange : ∀ (t : State) (f : Job → Job), u.quiet t → t.jobs = u.jobsWith j.slotAddr f →
        (f (j.loseSheet sh)).slotAddr = j.slotAddr → (f (j.loseSheet sh)).station = none →
        (f (j.loseSheet sh)).account.balances →
        t.completions = s.completions ∨ (t.completions.Perm (j.slotAddr :: s.completions) ∧ (f (j.loseSheet sh)).state = .finishing) →
        t.accounted P := by
      intro t f hq hjobs hslot hnone hb htasks
      have hjobs' : t.jobs = s.jobsWith j.slotAddr (fun k => f (k.loseSheet sh)) :=
        hjobs.trans (congrArg State.jobs (State.updJob_updJob (s := s.updSt i Station.cleared) (a := j.slotAddr)
          (f := fun k => k.loseSheet sh) (g := f) (fun _ => rfl)))
      have hnf : j.state ≠ .finishing := by simp [hactive]
      refine ⟨State.balanced_jobChange (f := fun k => f (k.loseSheet sh)) h.ledger hmem hjobs' hslot
        (fun k hk => by rw [hnone] at hk; cases hk) ⟨?_, by rw [hnone]; exact State.noSheet_none _⟩ (fun k hk => ?_) hb
        (fun hf => absurd hf hnf) (htasks.imp id (fun ht => ⟨ht.1, hnf, ht.2⟩)), h.queue.sublist hq.queue, fun k hk => ?_⟩
      · refine State.noSheet_of_here hst ((hq.stations i).sheet_none.2 ?_) ((hq.stations i).stacked.trans ?_)
        · rw [hhere]; rfl
        · rw [hhere]; exact hstacked
      · have hki : k ≠ i := by rintro rfl; exact hk hst
        rw [hq.sheets, hq.stacked]
        simp only [State.ledger, hother k hki, and_self]
      · have hki : k ≠ i := by rintro rfl; exact hi hk
        have hqk := (State.quietAt_of_eq (s := s) (t := u) (hother k hki) rfl id (Nat.le_refl _)).trans (hq.at k)
        exact hqk.agrees (h.agrees k hk) (State.pagesLeft_elsewhere h.ledger hmem hjobs' (by rw [hnone]; simp))
    obtain ⟨hq, ⟨hjobs, hc⟩ | ⟨hjobs, hc⟩⟩ := State.endJob_quiet (s := u) (a := j.slotAddr) .sheetLost hjob
    · exact hchange _ _ hq hjobs rfl rfl (Job.finished_balances _ hacc.reached hsum) (.inr ⟨hc, rfl⟩)
    · refine hchange _ _ hq hjobs rfl rfl (Job.awaitsEnd_balances _ ?_ hacc.reached hsum ?_ (fun _ => rfl)) (.inl hc)
      · show j.state ≠ .finishing
        simp [hactive]
      · intro hs
        rw [show (j.loseSheet sh).state = j.state from rfl, hactive] at hs
        cases hs
  next hnone =>
    have hsheet : (s.st i).sheet = none := by
      by_contra hne
      obtain ⟨sh, hsh⟩ := Option.ne_none_iff_exists'.1 hne
      cases hj : s.attached i with
      | none => exact hne (State.noSheet_of_free h.ledger hj i rfl).1
      | some j => exact hnone sh j hsh hj
    exact (h.others i).updSt (by rw [hsheet]; rfl) rfl (fun hP => absurd hP hi)

/-! ## What a station's work leaves (R80, R82) -/

theorem State.updJob_quiet (s : State) (a : Addr) (f : Job → Job) : s.quiet (s.updJob a f) :=
  ⟨fun _ => .refl _, fun _ => ⟨rfl, rfl⟩, .refl _, fun _ => Nat.le_refl _⟩

theorem State.endJob_isQuiet (s : State) (a : Addr) (o : TicketOutcome) : s.quiet (s.endJob a o) := by
  cases hjob : s.job a with
  | some k => exact (State.endJob_quiet o hjob).1
  | none =>
    rcases s.endJob_cases a o with ⟨-, he⟩ | ⟨-, he⟩
    · rw [he, State.finishJob, hjob]; exact .refl s
    · rw [he]; exact (s.updJob_quiet a _).trans (State.endQueue_keeps _ _).toquiet

theorem State.testStock_quiet (s : State) (j : Job) : s.quiet (s.testStock j) := by
  unfold State.testStock
  split
  · exact s.endJob_isQuiet _ _
  · exact .refl s

theorem State.makeReturn_quiet (s : State) (j : Job) : s.quiet (s.makeReturn j) := by
  have htested : ∀ u : State, u.quiet (match u.job j.slotAddr with
      | some j' => u.testStock j'
      | none => u) := by
    intro u
    split
    · exact u.testStock_quiet _
    · exact .refl u
  unfold State.makeReturn
  dsimp only
  cases j.station with
  | none => exact (s.updJob_quiet _ _).trans (htested _)
  | some i =>
    exact (((s.withdraw_keeps _).toquiet.trans (State.updJob_quiet _ _ _)).trans (State.dozeIfIdle_keeps _ i).toquiet).trans
      (htested _)

theorem State.returnJob_quiet (s : State) (j : Job) : s.quiet (s.returnJob j) := by
  rcases s.returnJob_cases j with ⟨-, he⟩ | ⟨-, he⟩
  · rw [he]; exact s.makeReturn_quiet j
  · rw [he]; exact s.updJob_quiet _ _

theorem State.quiet.updSt {s t : State} (h : s.quiet t) {i : StationId} {f : Station → Station}
    (hf : ∀ x y : Station, y.alike x → (f y).alike (f x)) : (s.updSt i f).quiet (t.updSt i f) := by
  refine ⟨fun k => ?_, h.cals, h.queue, h.reads⟩
  rw [State.st_updSt, State.st_updSt]
  split
  · exact hf _ _ (h.stations k)
  · exact h.stations k

/-- A station with its stacked sheet handed over. -/
def Station.unstacked (x : Station) : Station := { x with stacked := none }

theorem State.handover_quiet (s : State) (i : StationId) (h : (s.st i).stacked ≠ none) :
    (s.updSt i Station.unstacked).quiet (s.handover i) := by
  unfold State.handover
  split
  · dsimp only
    have hqueue : ∀ l, (s.updSt i Station.unstacked).quiet (({ s with endQueue := l } : State).updSt i Station.unstacked) :=
      fun l => (s.endQueue_keeps l).toquiet.updSt (fun x y ha => ⟨ha.state, ha.activity, ha.sheet, rfl⟩)
    split
    · exact ((hqueue _).trans (State.updJob_quiet _ _ _)).trans (State.endJob_isQuiet _ _ _)
    · exact ((hqueue _).trans (State.updJob_quiet _ _ _)).trans (State.updJob_quiet _ _ _)
  · exact .refl _
  next hnone => exact absurd hnone h

theorem State.loseSheet_quiet (s : State) (i : StationId) : (s.updSt i Station.cleared).quiet (s.loseSheet i) := by
  unfold State.loseSheet
  split
  · exact (State.updJob_quiet _ _ _).trans (State.endJob_isQuiet _ _ _)
  · exact .refl _

/-- A station with no work: its stacked sheet handed over, the sheet present lost. -/
def Station.workless (x : Station) : Station := x.unstacked.cleared

/-- After the work at a station is dropped, nothing else about it or the others has changed. -/
theorem State.dropWork_quiet (s : State) (i : StationId) : (s.updSt i Station.workless).quiet (s.dropWork i) := by
  have hcleared : ∀ x y : Station, y.alike x → y.cleared.alike x.cleared := fun x y ha => ⟨ha.state, rfl, rfl, ha.stacked⟩
  have hlost : (s.updSt i Station.workless).quiet ((if (s.st i).stacked.isSome then s.handover i else s).loseSheet i) := by
    refine State.quiet.trans ?_ (State.loseSheet_quiet _ i)
    split
    next hsome =>
      have hover := (s.handover_quiet i (Option.isSome_iff_ne_none.1 hsome)).updSt (i := i) hcleared
      rwa [State.updSt_updSt] at hover
    next hnone =>
      have hstacked : (s.st i).stacked = none := by simpa using hnone
      refine ⟨fun k => ?_, fun _ => ⟨rfl, rfl⟩, .refl _, fun _ => Nat.le_refl _⟩
      rw [State.st_updSt, State.st_updSt]
      split
      next hk => rw [hk]; exact ⟨rfl, rfl, rfl, hstacked⟩
      next => exact .refl _
  unfold State.dropWork
  dsimp only
  split
  · split
    · exact hlost.trans (State.updJob_quiet _ _ _)
    · exact hlost.trans (State.returnJob_quiet _ _)
  · exact hlost

theorem State.dropWork_accounted {P : StationId → Prop} {s : State} {i : StationId} (h : s.accounted P) (hi : ¬P i) :
    (s.dropWork i).accounted P := by
  have hover : (if (s.st i).stacked.isSome then s.handover i else s).accounted P := by
    split
    · exact State.handover_accounted i h
    · exact h
  have hstacked : ((if (s.st i).stacked.isSome then s.handover i else s).st i).stacked = none := by
    split
    next hsome =>
      have := ((s.handover_quiet i (Option.isSome_iff_ne_none.1 hsome)).stations i).stacked
      rw [this, State.st_updSt_same]; rfl
    next hnone => simpa using hnone
  have hlost := State.loseSheet_accounted hover hi
  have hquiet := (State.loseSheet_quiet (if (s.st i).stacked.isSome then s.handover i else s) i).stations i
  rw [State.st_updSt_same] at hquiet
  have hempty : ((if (s.st i).stacked.isSome then s.handover i else s).loseSheet i).noSheet (some i) :=
    State.noSheet_of_here rfl (hquiet.sheet_none.2 rfl) (hquiet.stacked.trans hstacked)
  unfold State.dropWork
  dsimp only
  generalize (if (s.st i).stacked.isSome then s.handover i else s).loseSheet i = u at hlost hempty
  split
  next j hj =>
    obtain ⟨hmem, hst⟩ := State.attached_spec hj
    obtain ⟨hq, hnf⟩ := State.attached_state hlost.ledger hj
    have hempty' : u.noSheet j.station := hst ▸ hempty
    split
    next he =>
      have hb := State.balances_of_mem hlost.ledger hmem hempty'
      refine hlost.jobChange (j := j) (f := fun k => { k with station := none }) (State.updJob_quiet _ _ _) hmem rfl rfl (.inr rfl) rfl
        rfl hempty' ⟨hb.reached, hb.sum, fun hs => ?_, fun hl => ⟨rfl, (hb.lost hl).2⟩⟩ (fun hf => hf) (.inl rfl)
      exact absurd hs (by rintro (hs | hs); exacts [hq hs, hnf hs])
    next => exact State.returnJob_accounted hlost hj hempty'
  next => exact hlost

end Sys2Proof.Machine
end

section
/-! PROOFS. The pages accounted for, at a fault and a reset (R82, R86): what an operation elsewhere leaves at a station, the
lists left, FAULTED, and the station reset. -/

namespace Sys2Proof.Machine

/-! ## What an arbiter does elsewhere (R118, R141) -/

theorem State.startLine_quietAt (s : State) {i k : StationId} (a : Area) (j : Nat) (hk : k ≠ i) :
    s.quietAt (s.startLine i a j) k := by
  obtain ⟨u, hu, heq⟩ := s.startLine_quietly i a j
  rw [heq]
  exact (hu.toquiet.at k).trans (State.quietAt_of_eq (State.st_updSt_other _ _ hk) rfl id (Nat.le_refl _))

/-- A permit granted changes nothing at another station, nor at one that does not wait with an area. -/
theorem State.grantPermit_quietAt (s : State) {q k : StationId} (h : k ≠ q ∨ ∀ a, (s.st k).activity ≠ .permitWait a) :
    s.quietAt (s.grantPermit q) k := by
  have hholders := ((s.permits_keep (s.permitHolders ++ [q]) s.permitQueue).toquiet).at k
  unfold State.grantPermit
  dsimp only
  split
  next a ha =>
    have hk : k ≠ q := by
      rintro rfl
      exact h.elim (absurd rfl) (fun h => h a ha)
    refine (hholders.trans ?_).trans (State.startLine_quietAt _ a 0 hk)
    exact State.quietAt_of_eq (State.st_updSt_other _ _ hk) rfl id (Nat.le_refl _)
  next => exact hholders

theorem State.returnPermit_quietAt (s : State) (i : StationId) {k : StationId}
    (h : k ∉ s.permitQueue ∨ ∀ a, (s.st k).activity ≠ .permitWait a) : s.quietAt (s.returnPermit i) k := by
  rcases s.returnPermit_cases i with ⟨-, he⟩ | ⟨-, -, he⟩ | ⟨q, rest, -, hqueue, he⟩
  · rw [he]; exact (State.quiet.refl s).at k
  · rw [he]; exact (s.permits_keep _ s.permitQueue).toquiet.at k
  · rw [he]
    refine ((s.permits_keep _ _).toquiet.at k).trans (State.grantPermit_quietAt _ (h.imp (fun hn => ?_) id))
    rintro rfl; exact hn (by simp [hqueue])

theorem State.releasePhotometer_quietAt (s : State) (i : StationId) {k : StationId} (h : k ∉ s.photometerQueue) :
    s.quietAt (s.releasePhotometer i) k := by
  rcases s.releasePhotometer_cases i with ⟨-, he⟩ | ⟨-, -, he⟩ | ⟨q, rest, -, hqueue, he⟩
  · rw [he]; exact (State.quiet.refl s).at k
  · rw [he]; exact (s.photometer_keeps none (.refl _)).toquiet.at k
  · have hk : k ≠ q := by rintro rfl; exact h (by simp [hqueue])
    have hrest : ({ s with photometerQueue := rest } : State).photometerQueue.Sublist s.photometerQueue := by
      rw [hqueue]; exact List.sublist_cons_self _ _
    rw [he]
    obtain ⟨-, -, hothers, -⟩ := State.grantPhotometer_spec { s with photometerQueue := rest } q
    refine ((s.photometer_keeps s.photometer hrest).toquiet.at k).trans ?_
    exact State.quietAt_of_eq (hothers k hk).1 (hothers k hk).2 id (Nat.le_refl _)

/-! ## Every list left (R82, R86, R170) -/

theorem State.withdraw_entryReads (s : State) (i : StationId) : (s.withdraw (ofStation i)).entryReads i = 0 := by
  refine List.countP_eq_zero.2 (fun r hr hp => ?_)
  have hof : ofStation i r = true := by
    simp [ofStation, ofControl, Purpose.channel, beq_iff_eq.1 hp]
  rcases List.mem_append.1 hr with hr | hr <;>
    exact absurd hof (by simpa using (List.mem_filter.1 hr).2)

/-- A station out of the photometer queue that has its calibration aborted has none in flight, and is as it was otherwise. -/
theorem State.abortCalibration_spec {u : State} {i : StationId} (hqueue : i ∉ u.photometerQueue) :
    ((u.abortCalibration i).st i).alike (u.st i) ∧ ((u.abortCalibration i).cal i).valid = (u.cal i).valid ∧
      ((u.abortCalibration i).cal i).flight = none ∧ (u.abortCalibration i).entryReads i ≤ u.entryReads i := by
  unfold State.abortCalibration
  split
  next =>
    have hfree := State.releasePhotometer_quietAt (State.updSt (u.updCal i (fun c => { c with flight := none })) i
        (fun x => { x with settleTimer := none, moveOut := false })) i hqueue
    obtain ⟨hst, hcal, -, hreads⟩ := hfree
    rw [State.st_updSt_same] at hst
    rw [State.cal_updSt, State.cal_updCal_same] at hcal
    exact ⟨hst.trans ⟨rfl, rfl, rfl, rfl⟩, hcal.1, Option.map_eq_none_iff.1 hcal.2, hreads⟩
  next hnone => exact ⟨.refl _, rfl, by simpa using hnone, Nat.le_refl _⟩

/-- A station that leaves every list has no calibration in flight and no page entry read on its way, and is as it was
otherwise. -/
theorem State.leaveAll_spec (s : State) (i : StationId) :
    ((s.leaveAll i).st i).alike (s.st i) ∧ ((s.leaveAll i).cal i).valid = (s.cal i).valid ∧
      ((s.leaveAll i).cal i).flight = none ∧ (s.leaveAll i).entryReads i = 0 := by
  have hpermit : i ∉ ((s.withdraw (ofStation i)).leavePermitQueue i).permitQueue := by
    simp [State.leavePermitQueue]
  have hlists := (((State.leavePermitQueue_keeps _ i).toquiet.at i).trans (State.returnPermit_quietAt _ i (.inl hpermit))).trans
    ((State.leavePhotometerQueue_keeps _ i).toquiet.at i)
  have hu := ((s.withdraw_keeps (ofStation i)).toquiet.at i).trans hlists
  obtain ⟨hst, hvalid, hflight, hreads⟩ := State.abortCalibration_spec (i := i)
    (u := (((s.withdraw (ofStation i)).leavePermitQueue i).returnPermit i).leavePhotometerQueue i)
    (by simp [State.leavePhotometerQueue])
  exact ⟨hst.trans hu.station, hvalid.trans hu.cal.1, hflight,
    Nat.le_zero.1 ((hreads.trans hlists.reads).trans (s.withdraw_entryReads i).le)⟩

theorem State.leaveAll_accounted {s : State} {i : StationId} (h : s.accounted (· ≠ i)) :
    (s.leaveAll i).accounted (· ≠ i) := by
  have hpermits := State.returnPermit_accounted i
    ((State.leavePermitQueue_keeps _ i).accounted ((s.withdraw_keeps (ofStation i)).accounted h))
    (fun q hq => by
      have := (List.mem_filter.1 hq).2
      simpa using this)
  refine State.abortCalibration_accounted i ((State.leavePhotometerQueue_keeps _ i).accounted hpermits) (fun q hq => ?_)
  have := (List.mem_filter.1 hq).2
  simpa using this

/-! ## The work dropped, and the station placed -/

/-- A station with its work dropped agrees, in a state other than LOADING, with no calibration in flight and no page entry read
on its way. -/
theorem State.dropWork_whole {s : State} {i : StationId} (h : s.accounted (· ≠ i)) (hstate : (s.st i).state ≠ .loading)
    (hflight : (s.cal i).flight = none) (hreads : s.entryReads i = 0) : (s.dropWork i).whole := by
  have hdrop := State.dropWork_accounted (i := i) h (by simp)
  have hq := s.dropWork_quiet i
  have hst := hq.stations i
  rw [State.st_updSt_same] at hst
  refine State.accounted.insert (hdrop.mono (fun k hk => hk.2)) (Station.agrees_of_none (hst.sheet_none.2 rfl)
    hst.activity (by rw [hst.state]; exact hstate) (fun sh hsh => ?_) (fun hf => absurd ?_ hf)
    (Nat.le_zero.1 ((hq.reads i).trans hreads.le)))
  · rw [hst.stacked] at hsh; cases hsh
  · exact Option.map_eq_none_iff.1 ((hq.cals i).2.trans (congrArg (Option.map (·.kind)) hflight))

/-- A station changed in no sheet, whether it agrees after or not. -/
theorem State.accounted.updSt_apart {s : State} {i : StationId} {f : Station → Station} (h : s.accounted (· ≠ i))
    (hsheet : (f (s.st i)).sheet = (s.st i).sheet) (hstacked : (f (s.st i)).stacked = (s.st i).stacked) :
    (s.updSt i f).accounted (· ≠ i) :=
  State.accounted.updSt (P := (· ≠ i)) (h.others i) (by rw [hsheet]) hstacked (fun hn => absurd rfl hn)

/-- A calibration unit changed, whether its station agrees after or not. -/
theorem State.accounted.updCal_apart {P : StationId → Prop} {s : State} {i : StationId} (f : CalUnit → CalUnit)
    (h : s.accounted (fun k => P k ∧ k ≠ i)) : (s.updCal i f).accounted (fun k => P k ∧ k ≠ i) :=
  ⟨h.ledger, h.queue, fun k hk => (h.agrees k hk).congr rfl (State.cal_updCal_other _ _ hk.2) (Nat.le_refl _) id id⟩

/-- A station as it enters FAULTED. -/
def Station.faultedBy (c : FaultCause) (x : Station) : Station :=
  { x.timersStopped with state := .faulted, cause := c, drive := [], driveSaturated := 0 }

theorem State.enterFaulted_eq (s : State) (i : StationId) (c : FaultCause) :
    s.enterFaulted i c = ((((s.updSt i (Station.faultedBy c)).leaveAll i).alert).dropWork i).settle := rfl

theorem State.enterFaulted_whole {s : State} (i : StationId) (c : FaultCause) (h : s.whole) : (s.enterFaulted i c).whole := by
  rw [State.enterFaulted_eq]
  have hfaulted : (s.updSt i (Station.faultedBy c)).accounted (· ≠ i) :=
    State.accounted.updSt_apart (h.mono (fun _ _ => trivial)) rfl rfl
  obtain ⟨hst, -, hflight, hreads⟩ := (s.updSt i (Station.faultedBy c)).leaveAll_spec i
  have hstate : (((s.updSt i (Station.faultedBy c)).leaveAll i).st i).state = .faulted := by
    rw [hst.state, State.st_updSt_same]; rfl
  refine State.settle_whole (State.dropWork_whole ((State.alert_keeps _).accounted (State.leaveAll_accounted hfaulted)) ?_ hflight
    hreads)
  rw [show ((State.alert _).st i).state = .faulted from hstate]
  simp

/-- A pending return cleared leaves its job at the station, in ATTACHED (R64). -/
theorem State.keepJob_accounted {P : StationId → Prop} {s : State} (i : StationId) (h : s.accounted P) :
    (s.keepJob i).accounted P := by
  unfold State.keepJob
  split
  next j hj =>
    split
    next hret =>
      simp only [Bool.and_eq_true] at hret
      refine h.updJob hj (State.noSheet_of_attached h.ledger hj (fun ⟨_, _, hr⟩ => ?_)) rfl (by simp) (by simp)
      rw [hret.1] at hr; cases hr
    next => exact h
  next => exact h

/-- A station as a reset places it (R86). -/
def Station.placedReset (ready : Bool) (x : Station) : Station :=
  { x.timersStopped with state := if ready then .ready else .parked, cause := .none, powered := ready, drive := [],
                         driveSaturated := 0 }

/-- The reset places the station READY: its drive is powered and its table valid. -/
def State.resetsReady (s : State) (i : StationId) : Bool := (s.st i).powered && (s.cal i).valid

theorem State.placeReset_eq (s : State) (i : StationId) : s.placeReset i =
    (s.updSt i (Station.placedReset (s.resetsReady i))).updCal i (fun c => { c with valid := s.resetsReady i }) := rfl

theorem State.resetStation_whole {s : State} (i : StationId) (h : s.whole) : (s.resetStation i).whole := by
  have hleft := State.leaveAll_accounted (i := i) (h.mono (fun _ _ => trivial))
  obtain ⟨hst, -, hflight, hreads⟩ := s.leaveAll_spec i
  have hplaced : ((s.leaveAll i).placeReset i).accounted (· ≠ i) := by
    rw [State.placeReset_eq]
    have hst : ((s.leaveAll i).updSt i (Station.placedReset ((s.leaveAll i).resetsReady i))).accounted (· ≠ i) :=
      hleft.updSt_apart rfl rfl
    exact ((hst.others i).updCal_apart _).mono (fun k hk => ⟨hk, hk⟩)
  have hwhole : (((s.leaveAll i).placeReset i).dropWork i).whole := by
    refine State.dropWork_whole hplaced ?_ ?_ hreads
    · rw [State.placeReset_eq, State.st_updCal, State.st_updSt_same]
      unfold Station.placedReset
      dsimp only
      split <;> simp
    · rw [State.placeReset_eq, State.cal_updCal_same]; exact hflight
  exact State.settle_whole (State.readyActions_accounted (State.keepJob_accounted i hwhole) trivial)

end Sys2Proof.Machine
end

section
/-! PROOFS. The pages accounted for, on an open sheet (R116 to R127): the frame boundary and what follows it, a page reached,
and a frame's bands, abort and end. -/

namespace Sys2Proof.Machine

/-! ## The frame boundary (R116, R117) -/

/-- Station `i` is at a frame boundary, with nothing open and nothing waited for. -/
structure State.atBoundary (s : State) (i : StationId) : Prop where
  work : s.mayWork i .idle
  sheetOpen : (s.st i).state = .sheetOpen

theorem State.quietAt.atBoundary {s t : State} {i : StationId} (h : s.quietAt t i) (hb : s.atBoundary i) : t.atBoundary i :=
  ⟨h.mayWork hb.work, h.station.state.trans hb.sheetOpen⟩

/-- At a boundary any activity may be taken up. -/
theorem State.atBoundary.mayWork {s : State} {i : StationId} (h : s.atBoundary i) (act : Activity) : s.mayWork i act :=
  ⟨h.work.atWork, fun sh hsh ho => absurd (h.work.opened sh hsh ho) (by decide), h.work.queue, h.work.reads⟩

/-- A station that waits at a boundary, not for the photometer and with no page entry read on its way, is at one. -/
theorem State.agrees.atBoundary {s : State} {i : StationId} {act : Activity} (h : s.agrees i) (ha : (s.st i).activity = act)
    (hb : act.atBoundary = true) (hq : act ≠ .quickWait) (hr : s.entryReads i = 0) : s.atBoundary i := by
  have hidle : (s.st i).activity ≠ .idle := by rw [ha]; rintro rfl; cases hb
  have hw := Station.agrees.atWork h hidle
  refine ⟨⟨hw, fun sh hsh ho => absurd (Station.agrees.closed h ?_ hsh) ho, Station.agrees.not_waits h hw.sheet (ha ▸ hq), hr⟩, ?_⟩
  · rw [ha]; cases act <;> cases hb <;> rfl
  · obtain ⟨-, -, -, hopen, -⟩ := h.coherent
    exact hopen (ha ▸ hb)

/-- The page of the next entry read is one that the job has left. -/
theorem State.requestEntry_whole {s : State} {i : StationId} (a : Addr) (n : Nat) (h : s.whole)
    (ha : (s.st i).activity = .entryRead) (hr : s.entryReads i = 0) : (s.requestRead (.pageEntry i) a n).whole := by
  refine ⟨h.ledger, h.queue, fun k _ => ?_⟩
  have hreads : (s.requestRead (.pageEntry i) a n).entryReads k = s.entryReads k + if Purpose.pageEntry i = .pageEntry k then 1 else 0 :=
    s.request_entryReads _ k
  by_cases hki : k = i
  · subst hki
    obtain ⟨hc, hs, hf, -, hl⟩ := h.agrees k trivial
    refine ⟨hc, hs, hf, ?_, hl⟩
    rw [hreads, hr, if_pos rfl, if_pos (show ((s.requestRead (.pageEntry k) a n).st k).activity = .entryRead from ha)]
  · refine (h.agrees k trivial).congr rfl rfl ?_ id id
    rw [hreads, if_neg (by rintro h; cases h; exact hki rfl)]
    exact Nat.le_refl _

/-- Station `i` takes up what it waits for at a boundary. -/
theorem State.atBoundary.waits {s : State} {i : StationId} {act : Activity} {f : Station → Station}
    (h : s.accounted (fun k => True ∧ k ≠ i)) (hb : s.atBoundary i) (hact : (f (s.st i)).activity = act) (hstate : (f (s.st i)).state = (s.st i).state)
    (hsheet : (f (s.st i)).sheet = (s.st i).sheet) (hstacked : (f (s.st i)).stacked = (s.st i).stacked)
    (hl : act = .entryRead → s.ledger.pagesLeft i) : (s.updSt i f).whole := by
  refine h.updSt (by rw [hsheet]) hstacked (fun _ => ?_)
  obtain ⟨⟨hwork, hopen, hqueue, hreads⟩, hstate'⟩ := hb
  have hwork' : (f (s.st i)).atWork (s.cal i) := ⟨by rw [hsheet]; exact hwork.sheet, hstacked.trans hwork.stacked,
    by rw [hstate]; exact hwork.state, hwork.valid, hwork.flight⟩
  exact hwork'.agrees (fun sh hsh ho => absurd (hopen sh (hsheet ▸ hsh) ho) (by decide)) (fun _ => hstate.trans hstate')
    (fun hq => absurd hq hqueue) (by rw [hreads]; exact Nat.zero_le _) (fun ha => hl (hact.symm.trans ha))

theorem State.position_accounted {P : StationId → Prop} {s : State} {i : StationId} {a : Area} {x : Int} {y : Nat}
    (h : s.accounted (fun k => P k ∧ k ≠ i)) (hw : P i → s.mayWork i (.positioning a)) : (s.position i a x y).accounted P :=
  h.work hw rfl rfl (.inl rfl) rfl rfl

theorem State.nextArea_whole {s : State} {i : StationId} (h : s.whole) (hb : s.atBoundary i) : (s.nextArea i).whole := by
  unfold State.nextArea
  split
  next j sh hj hsh =>
    split
    · exact State.position_accounted (h.others i) (fun _ => hb.mayWork _)
    · split
      next hmore =>
        simp only [Bool.and_eq_true, decide_eq_true_eq] at hmore
        have hleft : s.ledger.pagesLeft i := by
          refine (State.pagesLeft_iff h.ledger.stations i).2 (fun k hk => ?_)
          obtain rfl := Option.some.inj (hj.symm.trans hk)
          exact hmore.2
        have hreads : (s.updSt i (fun x => { x with activity := .entryRead })).entryReads i = 0 := hb.work.reads
        exact State.requestEntry_whole _ _ (hb.waits (h.others i) rfl rfl rfl rfl (fun _ => hleft)) (by simp) hreads
      next =>
        have hclosed : sh.openEntry = none := by
          by_contra ho; exact absurd (hb.work.opened sh hsh ho) (by decide)
        have hopened : (s.updSheet i (fun sh =>
            { sh with openEntry := some (newEntry j sh j.frames none spaceKey .ok) })).accounted (fun k => True ∧ k ≠ i) := by
          refine State.accounted.updSt ((h.others i).mono (fun k hk => ⟨trivial, hk.2⟩)) ?_ rfl (fun hk => absurd rfl hk.2)
          simp [hsh, Sheet.pages, hclosed, pagesOn, newEntry]
        refine State.position_accounted hopened (fun _ => ?_)
        obtain ⟨hwork, -, hqueue, hreads⟩ := hb.work
        refine ⟨⟨?_, ?_, ?_, hwork.valid, hwork.flight⟩, fun _ _ _ => rfl, hqueue, hreads⟩
        · simp [State.updSheet, hsh]
        · simpa [State.updSheet] using hwork.stacked
        · simpa [State.updSheet] using hwork.state
  next => exact h

theorem State.boundaryDecision_whole {s : State} {i : StationId} (h : s.whole) (hb : s.atBoundary i) :
    (s.boundaryDecision i).whole := by
  unfold State.boundaryDecision
  split
  · exact State.askPhotometer_accounted (hb.waits (act := .quickWait) (h.others i) rfl rfl rfl rfl (fun hn => by cases hn)) (fun _ => by simp)
  · exact State.nextArea_whole h hb

theorem State.boundary_whole {s : State} {i : StationId} (h : s.whole) (hb : s.atBoundary i) : (s.boundary i).whole := by
  unfold State.boundary
  split
  · exact State.boundaryDecision_whole h hb
  · exact (State.askStop_keeps _ i (fun k hk => by cases hk)).accounted
      (hb.waits (act := .boundaryReading) (h.others i) rfl rfl rfl rfl (fun hn => by cases hn))

theorem State.boundaryRead_whole {s : State} (i : StationId) (stop : Bool) (h : s.whole) : (s.boundaryRead i stop).whole := by
  have hseen : s.keeps (if stop then s.seeStop i else s) := by
    split
    · exact s.seeStop_keeps i
    · exact .refl s
  unfold State.boundaryRead
  dsimp only
  split
  next ha =>
    have hr := Station.agrees.reads_zero (h.agrees i trivial) (by simp [ha])
    exact State.boundaryDecision_whole (hseen.accounted h)
      ((hseen.toquiet.at i).atBoundary ((h.agrees i trivial).atBoundary ha rfl (by simp) hr))
  next => exact hseen.accounted h

/-! ## A page reached (R51, R116) -/

section
variable {s : State} {i : StationId} {j : Job} {sh : Sheet}

/-- A page reached and put on the sheet, or counted, leaves the others as they were. -/
theorem State.reached_accounted {f : Job → Job} {g : Station → Station} (h : s.whole) (hj : s.attached i = some j)
    (hsh : (s.st i).sheet = some sh) (hl : s.ledger.pagesLeft i)
    (hf : (f j).account = { j.account with nextPage := j.nextPage + 1, counted := (f j).counts.total })
    (hg : ∃ sh', (g (s.st i)).sheet = some sh' ∧ (f j).counts.total + sh'.pages = j.counts.total + sh.pages + 1)
    (hstacked : (g (s.st i)).stacked = (s.st i).stacked) :
    ((s.updJob j.slotAddr f).updSt i g).accounted (fun k => True ∧ k ≠ i) := by
  let t := (s.updJob j.slotAddr f).updSt i g
  obtain ⟨hmem, hst⟩ := State.attached_spec hj
  obtain ⟨hactive, hend, hret, hlost⟩ := State.works_of_attached h.ledger hj (.inl (by simp [hsh]))
  obtain ⟨sh', hsh', hpages⟩ := hg
  have hnone : (s.st i).stacked = none := by
    by_contra hne
    obtain ⟨q, hq⟩ := Option.ne_none_iff_exists'.1 hne
    rw [State.sheet_of_stacked h.ledger hq] at hsh; cases hsh
  have hother : ∀ k, k ≠ i → t.st k = s.st k := fun k hk => State.st_updSt_other _ _ hk
  have hhere : t.st i = g (s.st i) := State.st_updSt_same _ _ _
  have hacc := h.ledger.accounts _ (List.mem_map_of_mem (f := Job.account) hmem)
  have hsum := State.sum_of_sheet h.ledger hj hsh
  have hslot : (f j).account.slotAddr = j.slotAddr := by rw [hf]; rfl
  have hstation : (f j).account.station = some i := by rw [hf]; exact hst
  have hstate : (f j).account.state = .sheetActive := by rw [hf]; exact hactive
  have hlost' : (f j).account.lost = none := by rw [hf]; simp [Job.account, hlost]
  have hends : (f j).account.ends = false := by rw [hf]; simp [Job.account, hend]
  have hrets : (f j).account.returns = false := by rw [hf]; exact hret
  have hnext : (f j).account.nextPage = j.nextPage + 1 := by rw [hf]
  have hcount : (f j).account.pageCount = j.pageCount := by rw [hf]; rfl
  have hsheets : t.ledger.sheets i = some sh'.pages := by simp only [State.ledger, hhere, hsh', Option.map_some]
  have hstackedt : t.ledger.stacked i = none := by simp only [State.ledger, hhere, hstacked, hnone, Option.map_none]
  refine ⟨h.ledger.change (j := j.account) (j' := (f j).account)
    ⟨List.mem_map_of_mem hmem, State.ledger_jobsWith h.ledger hmem rfl, hslot, fun k hk _ => ?_⟩
    ?_ ?_ ?_ ?_ ⟨?_, ?_, ?_, ?_⟩ (fun hf' => absurd (hactive.symm.trans hf') (by decide)) (.inl rfl), h.queue, fun k hk => ?_⟩
  · have hki : k ≠ i := by rintro rfl; exact hk hst
    simp only [State.ledger]
    rw [show ((s.updJob j.slotAddr f).updSt i g).st k = s.st k from hother k hki]
    exact ⟨rfl, rfl⟩
  · intro k hk q hq hqk
    obtain rfl : i = k := Option.some.inj (hstation.symm.trans hk)
    exact h.ledger.eq_of_station (List.mem_map_of_mem hmem) hq hst hqk
  · intro k hk hne
    obtain rfl : i = k := Option.some.inj (hst.symm.trans hk)
    exact absurd hstation hne
  · intro k _ _
    exact ⟨hstate, hends, hrets, hlost'⟩
  · intro k hk _
    obtain rfl : i = k := Option.some.inj (hstation.symm.trans hk)
    exact hstackedt
  · rw [hnext, hcount]
    exact hl _ (List.mem_map_of_mem hmem) hst
  · have hun : t.ledger.uncounted (f j).account = sh'.pages := by
      simp [Ledger.uncounted, hstation, hlost', hsheets, hstackedt]
    rw [if_neg (by rw [hstate]; decide), hnext]
    show (f j).counts.total + t.ledger.uncounted _ = _
    omega
  · rw [hstate]
    rintro (hs | hs) <;> cases hs
  · exact fun hne => absurd hlost' hne
  · exact (h.agrees k trivial).congr (hother k hk.2) rfl (Nat.le_refl _) id
      (State.pagesLeft_elsewhere h.ledger hmem rfl (fun he => hk.2 (Option.some.inj (hstation.symm.trans he)).symm))

/-- A page put on the sheet with an entry of its own: its station may take up the entry's frame. -/
theorem State.opened_accounted {g : Station → Station} {e : FrameEntry} {n : Nat} (h : s.whole) (hb : s.atBoundary i)
    (hj : s.attached i = some j) (hsh : (s.st i).sheet = some sh) (hl : s.ledger.pagesLeft i) (he : e.page = some n)
    (hsheet : (g (s.st i)).sheet = some { sh with openEntry := some e, nextPos := sh.nextPos + 1 })
    (hstate : (g (s.st i)).state = (s.st i).state) (hstacked : (g (s.st i)).stacked = (s.st i).stacked) :
    ((s.updJob j.slotAddr Job.reached).updSt i g).accounted (fun k => True ∧ k ≠ i) ∧
      ∀ act : Activity, act.inFrame = true → ((s.updJob j.slotAddr Job.reached).updSt i g).mayWork i act := by
  have hclosed : sh.openEntry = none := by
    by_contra ho; exact absurd (hb.work.opened sh hsh ho) (by decide)
  refine ⟨State.reached_accounted h hj hsh hl rfl ⟨_, hsheet, ?_⟩ hstacked, fun act hin => ?_⟩
  · have hpages : Sheet.pages { sh with openEntry := some e, nextPos := sh.nextPos + 1 } = sh.pages + 1 := by
      simp [Sheet.pages, pagesOn, hclosed, he]
    rw [hpages]
    exact (Nat.add_assoc _ _ _).symm
  · have hhere : ((s.updJob j.slotAddr Job.reached).updSt i g).st i = g (s.st i) := State.st_updSt_same _ _ _
    obtain ⟨hwork, -, hqueue, hreads⟩ := hb.work
    refine ⟨⟨?_, ?_, ?_, hwork.valid, hwork.flight⟩, fun _ _ _ => hin, hqueue, hreads⟩
    · rw [hhere, hsheet]; simp
    · rw [hhere, hstacked]; exact hwork.stacked
    · rw [hhere, hstate]; exact hwork.state

/-- A page entry read at a boundary, bad or good (R23, R24, R116). -/
theorem State.takeEntry_whole (data : List Byte) (h : s.whole) (hb : s.atBoundary i) (hl : s.ledger.pagesLeft i) :
    (s.takeEntry i data).whole := by
  cases hj : s.attached i with
  | none => rw [State.takeEntry, hj]; exact h
  | some j =>
    obtain ⟨sh, hsh⟩ := Option.ne_none_iff_exists'.1 hb.work.atWork.sheet
    cases hgood : (readPageEntry data).good with
    | false =>
      have hcounted : j.reachedBad.counts.total = j.counts.total + 1 := by
        simp only [Job.reachedBad, PageCounts.total]; omega
      have hreached : ((s.updJob j.slotAddr Job.reachedBad).updSt i (fun x => x)).accounted (fun k => True ∧ k ≠ i) :=
        State.reached_accounted h hj hsh hl rfl ⟨sh, hsh, by omega⟩ rfl
      rw [State.updSt_id] at hreached
      have hb' : (s.updJob j.slotAddr Job.reachedBad).atBoundary i :=
        ((s.updJob_quiet _ _).at i).atBoundary hb
      rw [State.takeEntry_bad hj hgood]
      exact (State.addTask_keeps _ rfl).accounted
        (hb'.waits (act := .rejecting) hreached rfl rfl rfl rfl (fun hn => by cases hn))
    | true =>
      obtain ⟨hopened, hwork⟩ := State.opened_accounted (g := fun x => x.frameOpened j sh j.nextPage (readPageEntry data)) h hb hj hsh
        hl rfl rfl rfl rfl
      have hbands := State.beginBands_keeps ((s.updJob j.slotAddr Job.reached).updSt i
        (fun x => x.frameOpened j sh j.nextPage (readPageEntry data))) i
      rw [State.takeEntry_good hj hsh hgood]
      exact State.position_accounted (hbands.accounted hopened) (fun _ => (hbands.toquiet.at i).mayWork (hwork _ rfl))

/-- A page whose entry could not be read: its frame is voided (R23). -/
theorem State.voidUnread_whole (h : s.whole) (hb : s.atBoundary i) (hj : s.attached i = some j) (hl : s.ledger.pagesLeft i) :
    ((s.reachPage i).voidUnread i j.nextPage).whole := by
  obtain ⟨sh, hsh⟩ := Option.ne_none_iff_exists'.1 hb.work.atWork.sheet
  let e := newEntry j sh sh.nextPos (some j.nextPage) spaceKey .voidRead
  obtain ⟨hopened, hwork⟩ := State.opened_accounted (e := e)
    (g := fun x => { x with sheet := some { sh with openEntry := some e, nextPos := sh.nextPos + 1 } }) h hb hj hsh hl rfl rfl rfl rfl
  have hposition := State.position_accounted (a := .voidPass) (x := headForFrame (j.layout.left sh.nextPos) sh.offset)
    (y := j.layout.top sh.nextPos) hopened (fun _ => hwork _ rfl)
  rw [State.voidUnread_eq hj hsh]
  rw [State.position, State.updSt_updSt] at hposition
  exact hposition

end

end Sys2Proof.Machine
end

section
/-! PROOFS. The pages accounted for, through a frame (R98 to R102, R119 to R127): its bands, its aborts, the ends of its lines
and of the areas, and the moves between them. -/

namespace Sys2Proof.Machine

section
variable {s : State} {i : StationId}

/-! ## The end of an exposure (R80, R119, R126) -/

/-- A station with a sheet that is closed, doing nothing in SHEET_OPEN or CLOSING, agrees. -/
theorem Station.atWork.agrees_idle {x y : Station} {c : CalUnit} {reads : Nat} {waits left : Prop} (h : x.atWork c)
    (hsheet : y.sheet = x.sheet) (hstacked : y.stacked = x.stacked) (hidle : y.activity = .idle)
    (hstate : y.state = .sheetOpen ∨ y.state = .closing) (hclosed : ∀ sh, x.sheet = some sh → sh.openEntry = none)
    (hw : ¬waits) (hr : reads = 0) : y.agrees c reads waits left := by
  refine ⟨⟨fun _ => ?_, fun _ => by rw [hsheet]; exact h.sheet, fun hn => absurd hidle hn, fun hb => ?_, fun sh hsh => ?_,
    fun sh hsh => ?_⟩, fun _ => ⟨h.valid, fun hw' => absurd hw' hw, fun f hf => ?_⟩, fun hf => absurd h.flight hf,
    by simp [hr], fun ha => ?_⟩
  · rcases hstate with hs | hs <;> simp [hs]
  · rw [hidle] at hb; cases hb
  · exact ⟨hstacked.trans h.stacked, fun ho => absurd (hclosed sh (hsheet ▸ hsh)) ho⟩
  · rw [hstacked, h.stacked] at hsh; cases hsh
  · rw [h.flight] at hf; cases hf
  · rw [hidle] at ha; cases ha

theorem State.mayWork.closed (h : s.mayWork i .idle) {sh : Sheet} (hsh : (s.st i).sheet = some sh) : sh.openEntry = none := by
  by_contra ho; exact absurd (h.opened sh hsh ho) (by decide)

/-- An exposure ends, with no entry open: the station is in SHEET_OPEN at a boundary, or in CLOSING. -/
theorem State.endExposure_whole {next : StationState} (h : s.accounted (fun k => True ∧ k ≠ i)) (hw : s.mayWork i .idle)
    (hnext : next = .sheetOpen ∨ next = .closing) :
    (s.endExposure i next).whole ∧ (next = .sheetOpen → (s.endExposure i next).atBoundary i) := by
  let u := s.updSt i (fun x => { x with state := next, activity := .idle, drive := [], driveSaturated := 0 })
  have hhere : u.st i = { s.st i with state := next, activity := .idle, drive := [], driveSaturated := 0 } :=
    State.st_updSt_same _ _ _
  have hu : u.whole := h.updSt rfl rfl (fun _ => hw.atWork.agrees_idle rfl rfl rfl hnext (fun _ hsh => hw.closed hsh) hw.queue hw.reads)
  have hat : u.quietAt (u.returnPermit i) i := State.returnPermit_quietAt u i (.inr (by simp [hhere]))
  refine ⟨State.returnPermit_accounted i hu (fun _ _ => trivial), fun hopen => hat.atBoundary ⟨⟨⟨?_, ?_, ?_, hw.atWork.valid,
    hw.atWork.flight⟩, fun sh hsh => ?_, hw.queue, hw.reads⟩, ?_⟩⟩
  · rw [hhere]; exact hw.atWork.sheet
  · rw [hhere]; exact hw.atWork.stacked
  · rw [hhere]; exact .inl hopen
  · rw [hhere] at hsh; exact hw.opened sh hsh
  · rw [hhere]; exact hopen

/-- The open entry joins the map: the sheet's pages are the same, and none is open. -/
theorem State.append_accounted {act : Activity} (h : s.whole) (hw : s.mayWork i act) :
    (s.updSheet i Sheet.append).accounted (fun k => True ∧ k ≠ i) ∧ (s.updSheet i Sheet.append).mayWork i .idle := by
  have hpages : ∀ sh : Sheet, sh.append.pages = sh.pages := fun sh => by simp [Sheet.append, Sheet.pages]
  have hothers : s.accounted (fun k => (True ∧ k ≠ i) ∧ k ≠ i) := h.mono (fun _ _ => trivial)
  refine ⟨hothers.updSt (f := fun x => { x with sheet := x.sheet.map Sheet.append }) ?_ rfl (fun hk => absurd rfl hk.2), ?_⟩
  · simp [Option.map_map, Function.comp_def, hpages]
  · have hhere : (s.updSheet i Sheet.append).st i = { s.st i with sheet := (s.st i).sheet.map Sheet.append } := State.st_updSt_same _ _ _
    obtain ⟨hwork, -, hqueue, hreads⟩ := hw
    refine ⟨⟨?_, ?_, ?_, hwork.valid, hwork.flight⟩, fun sh hsh ho => ?_, hqueue, hreads⟩
    · rw [hhere]; simpa using hwork.sheet
    · rw [hhere]; exact hwork.stacked
    · rw [hhere]; exact hwork.state
    · rw [hhere] at hsh
      obtain ⟨sh', -, rfl⟩ := Option.map_eq_some_iff.1 hsh
      exact absurd rfl ho

theorem State.frameEndEvent_keeps (s : State) (i : StationId) : s.keeps (s.frameEndEvent i) := State.updCal_keeps rfl rfl

/-- A frame's end leaves the station at a boundary. -/
theorem State.endFrame_whole {act : Activity} (h : s.whole) (hw : s.mayWork i act) :
    (s.endFrame i).whole ∧ (s.endFrame i).atBoundary i := by
  obtain ⟨happ, hidle⟩ := State.append_accounted h hw
  have hmap := State.endMapping_keeps (s.updSheet i Sheet.append) i
  obtain ⟨hwhole, hb⟩ := State.endExposure_whole (next := .sheetOpen) (hmap.accounted happ) ((hmap.toquiet.at i).mayWork hidle) (.inl rfl)
  have hevent := State.frameEndEvent_keeps (((s.updSheet i Sheet.append).endMapping i).endExposure i .sheetOpen) i
  exact ⟨hevent.accounted hwhole, (hevent.toquiet.at i).atBoundary (hb rfl)⟩

/-! ## Aborts and holds (R100, R101, R124, R125) -/

theorem State.abortFrame_whole (status : FrameStatus) (h : s.whole) (hw : s.mayWork i .returnMove) :
    (s.abortFrame i status).whole := by
  have hkeeps := (s.endMapping_keeps i).trans (State.updEntry_keeps _ i (f := fun e => { e with status := status }) (fun _ => rfl))
  exact ((hkeeps.accounted h).others i).work (act := .returnMove) (fun _ => (hkeeps.toquiet.at i).mayWork hw) rfl rfl (.inl rfl) rfl rfl

theorem State.holdLine_whole (b : Nat) (h : s.whole) (hw : s.mayWork i (.lineHold b)) : (s.holdLine i b).whole := by
  have hkeeps := s.updEntry_keeps i (f := fun e => { e with held := true, holds := e.holds + 1 }) (fun _ => rfl)
  exact ((hkeeps.accounted h).others i).work (act := .lineHold b) (fun _ => (hkeeps.toquiet.at i).mayWork hw) rfl rfl (.inl rfl) rfl rfl

theorem Station.freeBand_alike (x : Station) (b : Nat) : (x.freeBand b).alike x := by
  unfold Station.freeBand
  split
  · exact ⟨rfl, rfl, rfl, rfl⟩
  · split
    · exact ⟨rfl, rfl, rfl, rfl⟩
    · exact .refl x

theorem Station.setFilling_alike (x : Station) (b : BandBuffer) : (x.setFilling b).alike x := by
  unfold Station.setFilling
  split <;> exact ⟨rfl, rfl, rfl, rfl⟩

/-- At a band's end with its frame in flight (R124). -/
theorem State.bandBoundary_whole (b : Nat) (h : s.whole) (hw : ∀ act : Activity, act.inFrame = true → s.mayWork i act) :
    (s.bandBoundary i b).whole := by
  have hseen : s.keeps (if (s.st i).bandReading == some true then s.seeStop i else s) := by
    split
    · exact s.seeStop_keeps i
    · exact .refl s
  have habort : ∀ status, ((if (s.st i).bandReading == some true then s.seeStop i else s).abortFrame i status).whole :=
    fun status => State.abortFrame_whole status (hseen.accounted h) ((hseen.toquiet.at i).mayWork (hw _ rfl))
  have hfree : s.keeps (s.updSt i (fun x => { x.freeBand b with bandReading := none })) := by
    have ha := (s.st i).freeBand_alike b
    exact State.updSt_keeps ⟨ha.state, ha.activity, ha.sheet, ha.stacked⟩
  unfold State.bandBoundary
  dsimp only
  split
  · exact habort _
  · split
    next hstop =>
      have hvoid := habort .voidStop
      rwa [if_pos hstop] at hvoid
    next =>
      split
      · have hbegun := hfree.trans (State.beginBands_keeps _ i)
        exact State.startLine_accounted (hbegun.accounted h) (fun _ => (hbegun.toquiet.at i).mayWork (hw _ rfl))
      · exact State.holdLine_whole b (hfree.accounted h) ((hfree.toquiet.at i).mayWork (hw _ rfl))

/-- The end of a page frame's last line (R117, R123). -/
theorem State.pageFrameEnd_whole {act : Activity} (h : s.whole) (hw : s.mayWork i act) : (s.pageFrameEnd i).whole := by
  unfold State.pageFrameEnd
  split
  next stop _ =>
    have hseen : s.keeps (if stop then s.seeStop i else s) := by
      split
      · exact s.seeStop_keeps i
      · exact .refl s
    obtain ⟨hend, hb⟩ := State.endFrame_whole (hseen.accounted h) ((hseen.toquiet.at i).mayWork hw)
    exact State.boundaryDecision_whole hend hb
  next =>
    obtain ⟨hend, hb⟩ := State.endFrame_whole h hw
    exact State.boundary_whole hend hb

/-! ## Rows (R98, R101) -/

theorem State.bandFull_whole (b : Nat) (h : s.whole) : (s.bandFull i b).whole := by
  have hmay : ∀ {act act' : Activity}, (s.st i).activity = act → act.engaged = true → (act.inFrame = true → act'.inFrame = true) →
      s.mayWork i act' := fun ha he hin => (h.agrees i trivial).mayWork ha he hin
  unfold State.bandFull
  split
  next ha =>
    split
    · exact State.askPermit_accounted h trivial (hmay ha rfl (fun _ => rfl))
    · exact h
  next k ha =>
    split
    · exact State.startLine_accounted h (fun _ => hmay ha rfl (fun _ => rfl))
    · exact h
  next => exact h

theorem State.takeRow_whole (data : List Byte) (h : s.whole) : (s.takeRow i data).whole := by
  have hset : ∀ b : BandBuffer, s.keeps (s.updSt i (fun x => x.setFilling b)) := fun b => State.updSt_keeps (Station.setFilling_alike _ b)
  unfold State.takeRow
  split
  · split
    · dsimp only
      split
      · exact State.bandFull_whole _ (((hset _).trans (State.beginBands_keeps _ i)).accounted h)
      · exact ((hset _).trans (State.requestRow_keeps _ i _ _)).accounted h
    · exact h
  · exact h

theorem State.voidBeforeExposure_whole (h : s.whole) : (s.voidBeforeExposure i).whole := by
  have hkeeps := (s.endMapping_keeps i).trans (State.updEntry_keeps _ i (f := fun e => { e with status := .voidRead }) (fun _ => rfl))
  have hmay : ∀ {act act' : Activity}, (s.st i).activity = act → act.engaged = true → (act.inFrame = true → act'.inFrame = true) →
      State.mayWork _ i act' := fun ha he hin => (hkeeps.toquiet.at i).mayWork ((h.agrees i trivial).mayWork ha he hin)
  unfold State.voidBeforeExposure
  dsimp only
  split
  next ha => exact State.askPermit_accounted (hkeeps.accounted h) trivial (hmay ha rfl (fun _ => rfl))
  next ha =>
    exact ((hkeeps.accounted h).others i).work (act := .positioning .voidPass) (fun _ => hmay ha rfl (fun _ => rfl)) rfl rfl (.inl rfl)
      rfl rfl
  next => exact hkeeps.accounted h

theorem State.readFault_whole (h : s.whole) : (s.readFault i).whole := by
  unfold State.readFault
  split
  next b _ =>
    have hset : s.keeps (s.updSt i (fun x => x.setFilling { b with state := .failed, rows := [] })) :=
      State.updSt_keeps (Station.setFilling_alike _ _)
    dsimp only
    split
    · exact State.voidBeforeExposure_whole (hset.accounted h)
    · split
      next k ha =>
        split
        · exact State.abortFrame_whole _ (hset.accounted h)
            ((hset.toquiet.at i).mayWork ((h.agrees i trivial).mayWork ha rfl (fun _ => rfl)))
        · exact hset.accounted h
      next => exact hset.accounted h
  next => exact h

/-! ## The ends of lines (R106, R121) -/

theorem State.countSaturated_keeps (s : State) (i : StationId) : s.keeps (s.countSaturated i) :=
  State.updEntry_keeps s i (fun _ => rfl)

theorem State.titleLineEnd_whole {job : Job} {k j : Nat} (h : s.whole) (ha : (s.st i).activity = .line (.title k) j) :
    (s.titleLineEnd i job k j).whole := by
  have hmay : ∀ act : Activity, s.mayWork i act := fun act => (h.agrees i trivial).mayWork ha rfl (fun hn => by cases hn)
  unfold State.titleLineEnd
  split
  · exact State.startLine_accounted h (fun _ => hmay _)
  · split
    · exact (h.others i).work (act := .swathMove (k + 1)) (fun _ => hmay _) rfl rfl (.inl rfl) rfl rfl
    · have hdone := s.updSheet_keeps i (f := fun sh => { sh with titleDone := true }) (fun _ => ⟨rfl, rfl⟩)
      obtain ⟨hend, hb⟩ := State.endExposure_whole (next := .sheetOpen) ((hdone.accounted h).others i)
        ((hdone.toquiet.at i).mayWork (hmay _)) (.inl rfl)
      exact State.boundary_whole hend (hb rfl)

theorem State.pageLineEnd_whole {job : Job} {j : Nat} (h : s.whole) (hw : ∀ act : Activity, act.inFrame = true → s.mayWork i act) :
    (s.pageLineEnd i job j).whole := by
  unfold State.pageLineEnd
  split
  · exact State.pageFrameEnd_whole (act := .returnMove) h (hw _ rfl)
  · split
    · exact State.bandBoundary_whole _ h hw
    · exact State.startLine_accounted h (fun _ => hw _ rfl)

theorem State.voidLineEnd_whole {job : Job} {j : Nat} (h : s.whole) (hw : ∀ act : Activity, act.inFrame = true → s.mayWork i act) :
    (s.voidLineEnd i job j).whole := by
  unfold State.voidLineEnd
  split
  · obtain ⟨hend, hb⟩ := State.endFrame_whole h (hw .returnMove rfl)
    exact State.boundary_whole hend hb
  · exact State.startLine_accounted h (fun _ => hw _ rfl)

theorem State.indexLineEnd_whole {job : Job} {j : Nat} (h : s.whole) (hw : ∀ act : Activity, act.inFrame = true → s.mayWork i act) :
    (s.indexLineEnd i job j).whole := by
  unfold State.indexLineEnd
  split
  · obtain ⟨happ, hidle⟩ := State.append_accounted h (hw .returnMove rfl)
    obtain ⟨hend, -⟩ := State.endExposure_whole (next := .closing) happ hidle (.inr rfl)
    exact ((State.frameEndEvent_keeps _ i).trans (State.updSt_keeps ⟨rfl, rfl, rfl, rfl⟩)).accounted hend
  · exact State.startLine_accounted h (fun _ => hw _ rfl)

theorem State.endLine_whole {job : Job} {a : Area} {j : Nat} (h : s.whole) (ha : (s.st i).activity = .line a j) :
    (s.endLine i job a j).whole := by
  have hmay : ∀ act : Activity, ((Activity.line a j).inFrame = true → act.inFrame = true) → s.mayWork i act :=
    fun act hin => (h.agrees i trivial).mayWork ha rfl hin
  have hcount := s.countSaturated_keeps i
  cases a with
  | title k => exact State.titleLineEnd_whole h ha
  | page =>
    exact State.pageLineEnd_whole (hcount.accounted h) (fun act hin => (hcount.toquiet.at i).mayWork (hmay act (fun _ => hin)))
  | voidPass => exact State.voidLineEnd_whole h (fun act hin => hmay act (fun _ => hin))
  | index =>
    exact State.indexLineEnd_whole (hcount.accounted h) (fun act hin => (hcount.toquiet.at i).mayWork (hmay act (fun _ => hin)))

/-! ## Band readings and moves (R119, R121, R124, R144) -/

theorem State.bandRead_whole (i : StationId) (stop : Bool) (h : s.whole) : (s.bandRead i stop).whole := by
  have hkept : s.keeps (s.updSt i (fun x => { x with bandReading := some stop })) := State.updSt_keeps ⟨rfl, rfl, rfl, rfl⟩
  have hseen := s.seeStop_keeps i
  unfold State.bandRead
  split
  · exact hkept.accounted h
  next k ha =>
    split
    · exact State.abortFrame_whole _ (hseen.accounted h)
        ((hseen.toquiet.at i).mayWork ((h.agrees i trivial).mayWork ha rfl (fun _ => rfl)))
    · exact hkept.accounted h
  · split
    · exact hseen.accounted h
    · exact h

theorem State.positioned_whole {a : Area} (h : s.whole) (ha : (s.st i).activity = .positioning a) : (s.positioned i a).whole := by
  have hmay : ∀ act : Activity, ((Activity.positioning a).inFrame = true → act.inFrame = true) → s.mayWork i act :=
    fun act hin => (h.agrees i trivial).mayWork ha rfl hin
  unfold State.positioned
  split
  · exact (h.others i).work (act := .bandWait) (fun _ => hmay _ (fun _ => rfl)) rfl rfl (.inl rfl) rfl rfl
  · exact State.askPermit_accounted h trivial (hmay _ (by cases a <;> exact id))

theorem State.calibrating_spec {p : CalPhase} {f : Calibration} (h : s.calibrating i p = some f) :
    (s.st i).state = .calibrating ∧ (s.cal i).flight = some f := by
  unfold State.calibrating at h
  split at h
  next hs => exact ⟨hs, (Option.filter_eq_some_iff.1 h).1⟩
  next => cases h

theorem State.moveEnds_whole (h : s.whole) : (s.moveEnds i).whole := by
  unfold State.moveEnds
  split
  next f hf =>
    obtain ⟨-, hflight⟩ := State.calibrating_spec hf
    refine ((State.updSt_keeps ⟨rfl, rfl, rfl, rfl⟩).trans (State.updCal_keeps rfl ?_)).accounted h
    rw [State.cal_updSt, hflight]; rfl
  next =>
    split
    next a ha => exact State.positioned_whole h ha
    next k ha => exact State.startLine_accounted h (fun _ => (h.agrees i trivial).mayWork ha rfl (fun hn => by cases hn))
    next ha => exact State.startLine_accounted h (fun _ => (h.agrees i trivial).mayWork ha rfl (fun _ => rfl))
    next => exact h

end

end Sys2Proof.Machine
end

section
/-! PROOFS. The pages accounted for, at the calibrations, the stations' timers and reports, and the stacked sheet (R69 to R82,
R143 to R150). -/

namespace Sys2Proof.Machine

section
variable {s : State} {i : StationId}

/-! ## Calibrations (R144, R146, R148) -/

/-- A FULL is in flight at a station without a sheet. -/
theorem State.noSheet_of_full (h : s.agrees i) {f : Calibration} (hf : (s.cal i).flight = some f) (hk : f.kind = .full) :
    (s.st i).sheet = none := by
  by_contra hne
  have := (Station.agrees.sheet h hne).2.2 f hf
  rw [hk] at this; cases this

/-- A calibration ends, and its station leaves CALIBRATING. -/
theorem State.calibrated_whole {c : CalUnit → CalUnit} {next : StationState} (h : s.whole)
    (hstate : (s.st i).state = .calibrating) (hflight : (c (s.cal i)).flight = none)
    (hvalid : (s.st i).sheet ≠ none → (c (s.cal i)).valid = (s.cal i).valid)
    (hnext : next = if (s.st i).sheet = none then .ready else .sheetOpen) :
    ((s.updCal i c).updSt i (fun x => { x with state := next })).whole ∧
      ((s.st i).sheet ≠ none → ((s.updCal i c).updSt i (fun x => { x with state := next })).atBoundary i) := by
  let u := (s.updCal i c).updSt i (fun x => { x with state := next })
  have hag := h.agrees i trivial
  have hidle := Station.agrees.idle_of_state hag (by simp [hstate]) (by simp [hstate])
  have hreads := Station.agrees.reads_zero hag (by simp [hidle])
  have hhere : u.st i = { s.st i with state := next } := State.st_updSt_same _ _ _
  have hcal : u.cal i = c (s.cal i) := State.cal_updCal_same _ _ _
  have hsheet : (s.st i).sheet ≠ none → u.atBoundary i := by
    intro hs
    have hopen : next = .sheetOpen := hnext.trans (if_neg hs)
    obtain ⟨sh, hsh⟩ := Option.ne_none_iff_exists'.1 hs
    obtain ⟨-, -, -, -, hone, -⟩ := hag.coherent
    refine ⟨⟨⟨by rw [hhere]; exact hs, by rw [hhere]; exact (hone sh hsh).1, by rw [hhere]; exact .inl hopen, ?_, by rw [hcal]; exact hflight⟩,
      fun q hq ho => ?_, Station.agrees.not_waits hag hs (by simp [hidle]), hreads⟩, by rw [hhere]; exact hopen⟩
    · rw [hcal, hvalid hs]; exact (Station.agrees.sheet hag hs).1
    · rw [hhere] at hq
      exact absurd (Station.agrees.closed hag (by rw [hidle]; rfl) hq) ho
  refine ⟨?_, hsheet⟩
  have hothers : (s.updCal i c).accounted (fun k => True ∧ k ≠ i) := (h.others i).updCal_apart c
  refine hothers.updSt rfl rfl (fun _ => ?_)
  rw [State.cal_updCal_same]
  by_cases hs : (s.st i).sheet = none
  · refine Station.agrees_of_none hs hidle ?_ (fun sh hsh => Station.agrees.stacked_closed hag hsh)
      (fun hf => absurd hflight hf) hreads
    rw [hnext, if_pos hs]; simp
  · have hb := hsheet hs
    have hwork : (u.st i).atWork (c (s.cal i)) := hcal ▸ hb.work.atWork
    rw [hhere] at hwork
    exact hwork.agrees_idle rfl rfl hidle (.inl (hnext.trans (if_neg hs)))
      (fun sh hsh => hb.work.closed (by rw [hhere]; exact hsh)) hb.work.queue hb.work.reads

theorem State.completeFull_whole {f : Calibration} (readings : List Nat) (h : s.whole) (hf : s.calibrating i .measuring = some f)
    (hk : f.kind = .full) : (s.completeFull i f readings).whole := by
  obtain ⟨hstate, hflight⟩ := State.calibrating_spec hf
  have hsheet := State.noSheet_of_full (h.agrees i trivial) hflight hk
  obtain ⟨hwhole, -⟩ := State.calibrated_whole (c := fun c => c.fullDone f (readings.map clampReading)) (next := .ready) h hstate rfl
    (fun hn => absurd hsheet hn) (by rw [if_pos hsheet])
  have hfree := State.releasePhotometer_accounted i hwhole (fun _ _ => trivial)
  unfold State.completeFull
  dsimp only
  split
  · exact State.enterFaulted_whole i _ hfree
  · exact State.settle_whole (State.readyActions_accounted hfree trivial)

theorem State.completeQuick_whole {f : Calibration} (q : Nat) (h : s.whole) (hf : s.calibrating i .measuring = some f) :
    (s.completeQuick i f q).whole := by
  obtain ⟨hstate, -⟩ := State.calibrating_spec hf
  obtain ⟨hwhole, hb⟩ := State.calibrated_whole (c := fun c => c.quickDone f q)
    (next := if (s.st i).sheet.isSome then .sheetOpen else .ready) h hstate rfl (fun _ => rfl)
    (by cases (s.st i).sheet <;> rfl)
  have hfree := State.releasePhotometer_accounted i hwhole (fun _ _ => trivial)
  unfold State.completeQuick
  dsimp only
  by_cases hs : (s.st i).sheet = none
  · simp only [hs, Option.isSome_none, Bool.false_eq_true, if_false] at hfree ⊢
    exact State.settle_whole (State.readyActions_accounted hfree trivial)
  · have hsome : (s.st i).sheet.isSome = true := Option.isSome_iff_ne_none.2 hs
    have hb' := hb hs
    simp only [hsome, if_true] at hfree hb' ⊢
    exact State.boundaryDecision_whole hfree ((State.releasePhotometer_quietAt _ i hb'.work.queue).atBoundary hb')

/-! ## Timers and wakes (R70 to R73) -/

/-- A station without a sheet takes another state that has none. -/
theorem State.rests_whole {f : Station → Station} {c : CalUnit → CalUnit} (h : s.whole)
    (hstate : (s.st i).state = .parked ∨ (s.st i).state = .waking ∨ (s.st i).state = .ready ∨ (s.st i).state = .dozing ∨
      (s.st i).state = .faulted)
    (hf : (f (s.st i)).state ≠ .loading) (hactivity : (f (s.st i)).activity = (s.st i).activity)
    (hsheet : (f (s.st i)).sheet = (s.st i).sheet) (hstacked : (f (s.st i)).stacked = (s.st i).stacked)
    (hflight : (c (s.cal i)).flight = (s.cal i).flight) : ((s.updCal i c).updSt i f).whole := by
  have hag := h.agrees i trivial
  have hnone := Station.agrees.no_sheet hag hstate
  have hidle := Station.agrees.idle hag hnone
  have hcal := Station.agrees.flight_none hag (by rcases hstate with hs | hs | hs | hs | hs <;> simp [hs])
  have hothers : (s.updCal i c).accounted (fun k => True ∧ k ≠ i) := (h.others i).updCal_apart c
  refine hothers.updSt (f := f) (by rw [State.st_updCal, hsheet]) hstacked (fun _ => ?_)
  rw [State.cal_updCal_same]
  exact Station.agrees_of_none (hsheet.trans hnone) (hactivity.trans hidle) hf
    (fun sh hsh => Station.agrees.stacked_closed hag (hstacked ▸ hsh)) (fun hn => absurd (hflight.trans hcal) hn)
    (Station.agrees.reads_zero hag (by simp [hidle]))

theorem State.updCal_id (s : State) (i : StationId) : s.updCal i (fun c => c) = s := by cases i <;> rfl

theorem State.wakeEnds_whole (h : s.whole) (hstate : (s.st i).state = .waking) : (s.wakeEnds i).whole := by
  have hready := State.rests_whole (c := fun c => c) (f := fun x =>
    { x with state := .ready, wakeTimer := none, powered := x.powered || x.wakeFromParked, wakeFromParked := false })
    h (.inr (.inl hstate)) (by simp) rfl rfl rfl rfl
  rw [State.updCal_id] at hready
  exact State.settle_whole (State.readyActions_accounted (State.keepJob_accounted i hready) trivial)

/-! ## The load and the stacked sheet (R62, R77, R78, R80) -/

/-- A station that ejects its sheet and feeds a second one (R78). -/
def Station.fedAgain (x : Station) : Station :=
  { x with supply := x.supply - 1, loadTimer := some Config.loadMs, ejects := x.ejects + 1, feeds := x.feeds + 1,
           transport := .feed (x.feeds + 1) }

theorem State.failAttempt_whole (h : s.whole) : (s.failAttempt i).whole := by
  unfold State.failAttempt
  dsimp only
  split
  · have hfeed : s.keeps (s.updSt i Station.fedAgain) := State.updSt_keeps ⟨rfl, rfl, rfl, rfl⟩
    exact (hfeed.trans (State.updSheet_keeps _ i (f := fun sh => { sh with attempt := 2 }) (fun _ => ⟨rfl, rfl⟩))).accounted h
  · exact State.enterFaulted_whole i _ ((State.updSt_keeps ⟨rfl, rfl, rfl, rfl⟩).accounted h)

/-- A station that waits with its sheet, in LOADING or CLOSING, does nothing, and its sheet is closed. -/
theorem State.agrees.idleSheet (h : s.agrees i) {sh : Sheet} (hsh : (s.st i).sheet = some sh)
    (hstate : (s.st i).state = .loading ∨ (s.st i).state = .closing) :
    (s.st i).activity = .idle ∧ sh.openEntry = none ∧ (s.cal i).flight = none ∧ i ∉ s.photometerQueue ∧ s.entryReads i = 0 := by
  have hidle := Station.agrees.idle_of_state h (by rcases hstate with hs | hs <;> simp [hs]) (by rcases hstate with hs | hs <;> simp [hs])
  exact ⟨hidle, Station.agrees.closed h (by rw [hidle]; rfl) hsh,
    Station.agrees.flight_none h (by rcases hstate with hs | hs <;> simp [hs]),
    Station.agrees.not_waits h (by simp [hsh]) (by simp [hidle]), Station.agrees.reads_zero h (by simp [hidle])⟩

theorem State.registered_whole (h : s.whole) (hstate : (s.st i).state = .loading) :
    ((s.updSt i (fun x => { x with state := .sheetOpen, loadTimer := none })).boundary i).whole := by
  let u := s.updSt i (fun x => { x with state := .sheetOpen, loadTimer := none })
  have hag := h.agrees i trivial
  obtain ⟨-, hload, -, -, hone, -⟩ := hag.coherent
  obtain ⟨sh, hsh⟩ := Option.ne_none_iff_exists'.1 (hload hstate)
  obtain ⟨hidle, hclosed, hflight, hqueue, hreads⟩ := hag.idleSheet hsh (.inl hstate)
  have hhere : u.st i = { s.st i with state := .sheetOpen, loadTimer := none } := State.st_updSt_same _ _ _
  have hwork : (u.st i).atWork (s.cal i) := by
    rw [hhere]
    exact ⟨hload hstate, (hone sh hsh).1, .inl rfl, (Station.agrees.sheet hag (hload hstate)).1, hflight⟩
  have hb : u.atBoundary i := by
    refine ⟨⟨hwork, fun q hq ho => ?_, hqueue, hreads⟩, by rw [hhere]⟩
    rw [hhere] at hq
    obtain rfl := Option.some.inj (hsh.symm.trans hq)
    exact absurd hclosed ho
  refine State.boundary_whole ((h.others i).updSt rfl rfl (fun _ => ?_)) hb
  rw [hhere] at hwork
  exact hwork.agrees_idle rfl rfl hidle (.inl rfl) (fun q hq => hb.work.closed (by rw [hhere]; exact hq)) hqueue hreads

/-- The sheet carried off: its pages pass from the sheet present to the sheet stacked. -/
theorem State.carriedOff_whole {j : Job} {sh : Sheet} (h : s.whole) (hj : s.attached i = some j) (hsh : (s.st i).sheet = some sh)
    (hstate : (s.st i).state = .closing) : (s.updSt i (fun x => x.carriedOff sh)).whole := by
  let t := s.updSt i (fun x => x.carriedOff sh)
  have hag := h.agrees i trivial
  obtain ⟨hmem, hst⟩ := State.attached_spec hj
  have hw := State.works_of_attached h.ledger hj (.inl (by simp [hsh]))
  obtain ⟨hidle, hclosed, hflight, hqueue, hreads⟩ := hag.idleSheet hsh (.inr hstate)
  obtain ⟨-, -, -, -, hone, -⟩ := hag.coherent
  have hnone := (hone sh hsh).1
  have hother : ∀ k, k ≠ i → t.st k = s.st k := fun k hk => State.st_updSt_other _ _ hk
  have hhere : t.st i = (s.st i).carriedOff sh := State.st_updSt_same _ _ _
  have hsheets : t.ledger.sheets i = none ∧ t.ledger.stacked i = some (pagesOn sh.map) := by
    simp only [State.ledger, hhere, Station.carriedOff, Option.map_none, Option.map_some, and_self]
  have hpages : sh.pages = pagesOn sh.map := by simp [Sheet.pages, hclosed]
  have hworks : j.account.works := by simpa [JobAccount.works, Job.account] using hw
  have hacc := h.ledger.accounts _ (List.mem_map_of_mem (f := Job.account) hmem)
  have hun : t.ledger.uncounted j.account = s.ledger.uncounted j.account := by
    have hstation : j.account.station = some i := hst
    have hold : s.ledger.sheets i = some sh.pages ∧ s.ledger.stacked i = none := by simp [State.ledger, hsh, hnone]
    simp [Ledger.uncounted, hstation, hsheets.1, hsheets.2, hold.1, hold.2, hpages]
  have hledger : t.ledger.balanced := by
    refine h.ledger.change (j := j.account) (j' := j.account) ⟨List.mem_map_of_mem hmem, ?_, rfl, fun k hk _ => ?_⟩
      (fun k hk q hq hqk => h.ledger.eq_of_station (List.mem_map_of_mem hmem) hq hk hqk) (fun k hk hne => absurd hk hne)
      (fun _ _ _ => hworks) (fun k hk hne => ?_) ⟨hacc.reached, by rw [hun]; exact hacc.sum, hacc.offStation, hacc.lost⟩ id (.inl rfl)
    · exact State.ledger_jobsWith (f := fun k => k) h.ledger hmem (by simp [State.jobsWith, t])
    · have hki : k ≠ i := by rintro rfl; exact hk hst
      simp only [State.ledger, hother k hki, and_self]
    · obtain rfl : i = k := Option.some.inj (hst.symm.trans hk)
      exact absurd hsheets.1 hne
  refine ⟨hledger, h.queue, fun k _ => ?_⟩
  by_cases hki : k = i
  · subst hki
    unfold State.agrees
    rw [hhere]
    refine Station.agrees_of_none rfl rfl (by simp [Station.carriedOff]) (fun q hq => ?_) (fun hn => absurd hflight hn) hreads
    cases hq
    exact hclosed
  · exact (h.agrees k trivial).congr (hother k hki) rfl (Nat.le_refl _) id id

theorem State.stackSheet_whole {j : Job} {sh : Sheet} (h : s.whole) (hj : s.attached i = some j) (hsh : (s.st i).sheet = some sh)
    (hstate : (s.st i).state = .closing) : (s.stackSheet i j sh).whole := by
  have hadded := (State.addTask_keeps (k := releaseTask i j sh) _ rfl).accounted (State.carriedOff_whole h hj hsh hstate)
  unfold State.stackSheet
  dsimp only
  split
  · exact State.settle_whole (State.stackedEvent_accounted hadded trivial)
  · exact hadded

end

end Sys2Proof.Machine
end

section
/-! PROOFS. The pages accounted for, at the scan half and the completion writer (R33 to R50): the slots and tickets read, a job
admitted, and a task that leaves the write list, a completion's context with it. -/

namespace Sys2Proof.Machine

/-! ## Contexts that join and leave -/

/-- A ledger balances still with a context more, at a fresh slot and at no station. -/
theorem Ledger.balanced.insert {L M : Ledger} {j : JobAccount} (h : L.balanced) (hjobs : M.jobs.Perm (j :: L.jobs))
    (hfresh : ∀ k ∈ L.jobs, k.slotAddr ≠ j.slotAddr) (hstation : j.station = none) (hb : j.balances)
    (hsheets : M.sheets = L.sheets) (hstacked : M.stacked = L.stacked) (hc : M.completions = L.completions) : M.balanced := by
  have hun : ∀ k, M.uncounted k = L.uncounted k := fun k => by unfold Ledger.uncounted; rw [hsheets, hstacked]
  have hmem : ∀ k, k ∈ L.jobs → k ∈ M.jobs := fun k hk => hjobs.mem_iff.2 (List.mem_cons_of_mem _ hk)
  refine ⟨?_, ?_, fun i hi => ?_, fun i hi => ?_, fun k hk => ?_, hc ▸ h.tasksOnce, fun a ha => ?_⟩
  · rw [(hjobs.map _).nodup_iff, List.map_cons, List.nodup_cons]
    refine ⟨fun hm => ?_, h.slots⟩
    obtain ⟨k, hk, hs⟩ := List.mem_map.1 hm
    exact hfresh k hk hs
  · rw [(hjobs.filterMap _).nodup_iff, List.filterMap_cons, hstation]
    exact h.stations
  · obtain ⟨k, hk, hki, hw⟩ := h.works i (by rwa [hsheets, hstacked] at hi)
    exact ⟨k, hmem k hk, hki, hw⟩
  · rw [hstacked]; exact h.oneSheet i (hsheets ▸ hi)
  · rcases List.mem_cons.1 (hjobs.mem_iff.1 hk) with rfl | hk
    · have hzero : M.uncounted k = k.lost.getD 0 := by simp [Ledger.uncounted, hstation]
      exact ⟨hb.reached, hzero ▸ hb.sum, hb.offStation, hb.lost⟩
    · obtain ⟨h1, h2, h3, h4⟩ := h.accounts k hk
      exact ⟨h1, by rw [hun]; exact h2, h3, h4⟩
  · obtain ⟨k, hk, hs, hf⟩ := h.tasksEnded a (hc ▸ ha)
    exact ⟨k, hmem k hk, hs, hf⟩

/-- A ledger balances still when a completion task ends and its context is discarded (R66). -/
theorem Ledger.balanced.discard {L M : Ledger} {a : Addr} (h : L.balanced)
    (hjobs : M.jobs = L.jobs.filter (fun k => k.slotAddr != a)) (hc : L.completions.Perm (a :: M.completions))
    (hsheets : M.sheets = L.sheets) (hstacked : M.stacked = L.stacked) : M.balanced := by
  have hun : ∀ k, M.uncounted k = L.uncounted k := fun k => by unfold Ledger.uncounted; rw [hsheets, hstacked]
  have hsub : M.jobs.Sublist L.jobs := hjobs ▸ List.filter_sublist
  obtain ⟨hnot, honce⟩ := List.nodup_cons.1 (hc.nodup_iff.1 h.tasksOnce)
  obtain ⟨j, hj, hslot, hfin⟩ := h.tasksEnded a (hc.mem_iff.2 List.mem_cons_self)
  have hkept : ∀ k ∈ L.jobs, k.slotAddr ≠ a → k ∈ M.jobs := by
    intro k hk hne
    rw [hjobs]; exact List.mem_filter.2 ⟨hk, by simpa using hne⟩
  refine ⟨h.slots.sublist (hsub.map _), h.stations.sublist (hsub.filterMap _), fun i hi => ?_, fun i hi => ?_, fun k hk => ?_, honce,
    fun b hb => ?_⟩
  · obtain ⟨k, hk, hki, hw⟩ := h.works i (by rwa [hsheets, hstacked] at hi)
    refine ⟨k, hkept k hk (fun hs => ?_), hki, hw⟩
    rw [h.eq_of_slot hj hk (hs.trans hslot.symm)] at hw
    exact absurd (hw.1.symm.trans hfin) (by decide)
  · rw [hstacked]; exact h.oneSheet i (hsheets ▸ hi)
  · obtain ⟨h1, h2, h3, h4⟩ := h.accounts k (hsub.subset hk)
    exact ⟨h1, by rw [hun]; exact h2, h3, h4⟩
  · obtain ⟨k, hk, hs, hf⟩ := h.tasksEnded b (hc.mem_iff.2 (List.mem_cons_of_mem _ hb))
    refine ⟨k, hkept k hk (fun hs' => hnot ?_), hs, hf⟩
    rwa [← hs'.symm.trans hs] at hb

theorem insertJob_perm (j : Job) (l : List Job) : (insertJob j l).Perm (j :: l) := by
  induction l with
  | nil => exact .refl _
  | cons k l ih =>
    unfold insertJob
    split
    · exact (ih.cons k).trans (.swap _ _ _)
    · exact .refl _

section
variable {s : State} {i : StationId}

/-! ## The scan half (R33 to R43) -/

theorem State.giveUpPlace_whole (h : s.whole) : s.giveUpPlace.whole := by
  unfold State.giveUpPlace
  split
  · exact State.settle_whole ((s.updPass_keeps _).accounted h)
  · exact h

theorem State.skipCandidate_whole (h : s.whole) : s.skipCandidate.whole :=
  (State.nextCandidate_keeps _).accounted (State.giveUpPlace_whole h)

theorem State.endTicket_whole (o : TicketOutcome) (r : Reason) (n : Nat) (h : s.whole) : (s.endTicket o r n).whole :=
  (State.addTicket_keeps _ o r n).accounted (State.giveUpPlace_whole ((s.updPass_keeps _).accounted h))

theorem State.examineHeld_whole (a : Addr) (stop : Nat) (h : s.whole) : (s.examineHeld a stop).whole := by
  unfold State.examineHeld
  split
  next j hj =>
    split
    next hc =>
      obtain ⟨hq, -, -⟩ := hc
      obtain ⟨hmem, rfl⟩ := State.job_spec hj
      have hseen := (s.updJob_keeps j.slotAddr (f := fun k => { k with stopSeen := true }) (fun _ => rfl)).accounted h
      refine State.settle_whole (State.endJob_accounted (j := { j with stopSeen := true }) .stopped hseen
        (List.mem_map.2 ⟨j, hmem, if_pos rfl⟩) (by simp [hq]) ?_)
      rw [show Job.station _ = none from (State.queued_station h.ledger hmem hq).1]
      exact State.noSheet_none _
    next => exact h
  next => exact h

theorem State.takeSlot_whole (d : List Byte) (h : s.whole) : (s.takeSlot d).whole := by
  unfold State.takeSlot
  split
  · split
    · dsimp only
      split
      · exact State.examineHeld_whole _ _ h
      · split
        · exact (s.updPass_keeps _).accounted h
        · exact h
    · split
      · exact State.examineHeld_whole _ _ h
      · exact h
    · exact h
  · exact h

theorem State.takePeek_whole (d : List Byte) (h : s.whole) : (s.takePeek d).whole := by
  unfold State.takePeek
  split
  · exact State.skipCandidate_whole h
  · split
    · exact ((s.updPass_keeps _).trans (State.requestClaim_keeps _ _)).accounted h
    · exact h

theorem State.lockWrite_keeps (s : State) (d : List Byte) : s.keeps (s.lockWrite d) :=
  (s.updPass_keeps _).trans (State.keeps_of_port rfl (fun _ => Nat.le_refl _))

theorem State.takeClaim_keeps (s : State) : s.keeps s.takeClaim := by
  unfold State.takeClaim
  split
  · exact ((s.scan_keeps s.scanTimer s.passPending s.pass _).trans (State.updPass_keeps _ _)).trans
      (State.requestRead_keeps (fun k h => by cases h))
  · exact .refl s

theorem State.takeTicketHead_whole (d : List Byte) (h : s.whole) : (s.takeTicketHead d).whole := by
  unfold State.takeTicketHead
  split
  · dsimp only
    split
    · exact State.endTicket_whole _ _ _ h
    · exact ((s.updPass_keeps _).trans (State.requestRead_keeps (fun k h => by cases h))).accounted h
  · exact h

/-- A job fresh from its ticket joins the intake list (R51, R53). -/
theorem State.admitJob_whole {j : Job} (h : s.whole) (hq : j.state = .queued) (hstation : j.station = none)
    (hret : j.returnPending = false) (hlost : j.lostSheet = none) (hnext : j.nextPage = 0) (hcounts : j.counts.total = 0) :
    (s.admitJob j).whole := by
  unfold State.admitJob
  split
  · exact State.giveUpPlace_whole h
  next hnone =>
    have hfresh : ∀ k ∈ s.jobs, k.slotAddr ≠ j.slotAddr := by simpa [State.job] using hnone
    have hb : j.account.balances := by
      refine ⟨by simp [Job.account, hnext], ?_, fun _ => ⟨hstation, hret⟩, fun hl => absurd (by simp [Job.account, hlost]) hl⟩
      rw [if_neg (by simp [Job.account, hq])]
      simp [Job.account, hlost, hnext, hcounts]
    have hpass : ({ s with jobs := insertJob j s.jobs } : State).whole := by
      have hjobs : (({ s with jobs := insertJob j s.jobs } : State).ledger.jobs).Perm (j.account :: s.ledger.jobs) :=
        (insertJob_perm j s.jobs).map Job.account
      refine ⟨h.ledger.insert hjobs (List.forall_mem_map.2 hfresh) hstation hb rfl rfl rfl, h.queue, fun k _ => ?_⟩
      refine (h.agrees k trivial).congr rfl rfl (Nat.le_refl _) id (fun hl q hq' hqk => ?_)
      rcases List.mem_cons.1 (hjobs.mem_iff.1 hq') with rfl | hq'
      · rw [show j.account.station = none from hstation] at hqk; cases hqk
      · exact hl q hq' hqk
    have hmem : j ∈ (State.updPass { s with jobs := insertJob j s.jobs } (fun p => { p with place := false })).jobs :=
      (insertJob_perm j s.jobs).mem_iff.2 List.mem_cons_self
    exact State.settle_whole (State.testStock_accounted ((State.updPass_keeps _ _).accounted hpass) hmem)

theorem State.takeTicket_whole (head data : List Byte) (h : s.whole) : (s.takeTicket head data).whole := by
  have hend : ∀ r, (s.endTicket .refusedTicket r 0).whole := fun r => State.endTicket_whole _ _ _ h
  unfold State.takeTicket
  split
  next c _ =>
    split
    · unfold State.takeFiche
      split
      · exact (State.nextCandidate_keeps _).accounted (State.admitJob_whole h rfl rfl rfl rfl rfl rfl)
      · exact hend _
    · split
      next k _ =>
        unfold State.takeService
        split
        · split
          · exact ((s.updPass_keeps _).trans (State.requestRead_keeps (fun k h => by cases h))).accounted h
          · exact (s.updPass_keeps _).accounted h
        · exact hend _
      next => exact h
  next => exact h

/-! ## The completion writer (R44 to R50, R66) -/

theorem State.afterRejection_whole (a : Addr) (i : StationId) (n : Nat) (h : s.whole) : (s.afterRejection a i n).whole := by
  unfold State.afterRejection
  split
  · split
    next hc =>
      have hr := Station.agrees.reads_zero (h.agrees i trivial) (by simp [hc.1])
      exact State.nextArea_whole h ((h.agrees i trivial).atBoundary hc.1 rfl (by simp) hr)
    · exact h
  · exact h

theorem State.taskJoined_whole (k : Task) (h : s.whole) : (s.taskJoined k).whole := by
  unfold State.taskJoined
  split
  · exact h
  · split
    · exact State.settle_whole (State.stackedEvent_accounted h trivial)
    · exact h
  · exact State.settle_whole h
  · exact (State.nextCandidate_keeps _).accounted h

/-- The task at the front of the write list leaves it, the lists of tasks being otherwise the same, and what its end brings
about is done. -/
theorem State.taskEnded_whole {k : Task} {tasks waiters : List Task} {plan : List PlannedWrite} (h : s.whole)
    (hl : s.tasks ++ s.waiters = k :: (tasks ++ waiters)) :
    ((({ s with tasks := tasks, waiters := waiters, plan := plan } : State).beginTask).taskEnded k).whole := by
  let u : State := { s with tasks := tasks, waiters := waiters, plan := plan }
  have hbegin := u.beginTask_keeps
  have hcomp : s.completions = k.completes.toList ++ u.completions := by
    simp only [State.completions, hl, List.filterMap_cons, u]
    cases k.completes <;> rfl
  have hstays : k.completes = none → u.beginTask.whole := fun hk =>
    (hbegin.accounted (State.keeps.accounted (State.keeps_of (s := s) (t := u) rfl rfl (.refl _) rfl
      (by rw [hcomp, hk]; rfl) (fun _ => Nat.le_refl _)) h))
  unfold State.taskEnded
  split
  next a ticket i n => exact State.afterRejection_whole a i n (hstays rfl)
  next => exact hstays rfl
  next a =>
    have hjobs : u.beginTask.jobs = s.jobs := u.beginTask_jobs
    have hq : s.quiet u.beginTask := State.quiet.trans (t := u)
      ⟨fun _ => .refl _, fun _ => ⟨rfl, rfl⟩, .refl _, fun _ => Nat.le_refl _⟩ hbegin.toquiet
    let t : State := { u.beginTask with jobs := u.beginTask.jobs.filter (fun j => j.slotAddr != a) }
    have hledger : t.ledger.jobs = s.ledger.jobs.filter (fun k => k.slotAddr != a) := by
      simp only [State.ledger, t, hjobs, List.filter_map]
      rfl
    refine ⟨h.ledger.discard (M := t.ledger) hledger ?_ hq.sheets hq.stacked, h.queue.sublist hq.queue, fun k _ => ?_⟩
    · have hc : t.completions = u.completions := hbegin.completions
      show s.completions.Perm (a :: t.completions)
      rw [hcomp, hc]; rfl
    · have hqt : s.quietAt t k := ⟨(hq.at k).station, (hq.at k).cal, (hq.at k).queue, (hq.at k).reads⟩
      refine hqt.agrees (h.agrees k trivial) (fun hl q hq' hqk => hl q ?_ hqk)
      rw [hledger] at hq'
      exact List.mem_of_mem_filter hq'
  next => exact hstays rfl

theorem State.leaveTask_whole (h : s.whole) : s.leaveTask.whole := by
  unfold State.leaveTask
  split
  next t rest ht hw =>
    have hended := State.taskEnded_whole (k := t) (tasks := rest) (waiters := []) (plan := []) h (by simp [ht, hw])
    rw [← hw] at hended
    exact hended
  next t rest w ws ht hw =>
    exact State.taskJoined_whole w (State.taskEnded_whole (k := t) (tasks := rest ++ [w]) (waiters := ws) (plan := []) h
      (by simp [ht, hw]))
  next => exact h

theorem State.nextWrite_whole (h : s.whole) : s.nextWrite.whole := by
  unfold State.nextWrite
  split
  next w rest _ =>
    have hcounted := ((s.plan_keeps rest).trans (State.countField_keeps _ w)).accounted h
    dsimp only
    split
    · exact State.leaveTask_whole hcounted
    · exact (State.issueWrite_keeps _).accounted hcounted
  next => exact h

/-- The registers and counts of the window changed alone. -/
theorem State.counts_keep (s : State) (lostDone : Bool) (doneCount : Nat) :
    s.keeps { s with lostDone := lostDone, doneCount := doneCount } :=
  State.keeps_of rfl rfl (.refl _) rfl rfl (fun _ => Nat.le_refl _)

theorem State.doneWritten_whole (h : s.whole) : s.doneWritten.whole :=
  State.leaveTask_whole (((s.counts_keep s.lostDone _).trans (State.dropHeld_keeps _)).accounted h)

theorem State.doneLost_whole (h : s.whole) : s.doneLost.whole :=
  State.leaveTask_whole ((((s.counts_keep true s.doneCount).trans (State.alert_keeps _)).trans (State.dropHeld_keeps _)).accounted h)

end

end Sys2Proof.Machine
end

section
/-! PROOFS. The pages accounted for, at every command (R67): the services, the resets and the registers, the port, and the step. -/

namespace Sys2Proof.Machine

section
variable {s : State} {i : StationId}

/-- What the count of the pages does not look at does not matter to it. -/
theorem State.whole_of_same {t : State} (h : s.whole) (hst : t.stations = s.stations) (hcals : t.cals = s.cals)
    (hqueue : t.photometerQueue = s.photometerQueue) (hjobs : t.jobs = s.jobs) (htasks : t.tasks = s.tasks)
    (hwaiters : t.waiters = s.waiters) (hlist : t.port.list = s.port.list) (harriving : t.port.arriving = s.port.arriving) :
    t.whole :=
  State.keeps.accounted (State.keeps_of hst hcals (hqueue ▸ .refl _) hjobs (by simp only [State.completions, htasks, hwaiters])
    (fun k => by simp only [State.entryReads, hlist, harriving, Nat.le_refl])) h

/-! ## The services (R152 to R164) -/

theorem State.supplyChanged_whole (i : StationId) (h : s.whole) : (s.supplyChanged i).whole := by
  unfold State.supplyChanged
  split
  next j hj =>
    split
    next hc =>
      split
      · exact State.runDecision_accounted h trivial
      · exact h.updJob hj (State.noSheet_of_attached h.ledger hj (fun hh => by rw [hc.1] at hh; cases hh.1)) rfl (by simp) (by simp)
    next => exact h
  next => exact h

theorem State.dueMarkSet_whole (i : StationId) (h : s.whole) : (s.dueMarkSet i).whole := by
  have haged := (s.updEntry_keeps i (f := fun e => { e with aged := true }) (fun _ => rfl)).accounted h
  unfold State.dueMarkSet
  dsimp only
  split
  next hdozing =>
    refine State.beginWake_accounted haged (.inr ?_)
    rw [State.updEntry, State.updSheet, State.st_updSt_same]
    exact hdozing
  next => exact State.readyActions_accounted haged trivial

theorem State.parkStation_whole (h : s.whole) (hlegal : s.parkLegal i = true) : (s.parkStation i).whole := by
  have hstate : (s.st i).state = .ready ∨ (s.st i).state = .dozing ∨ (s.st i).state = .faulted := by
    unfold State.parkLegal at hlegal
    split at hlegal <;> simp_all
  have hparked := State.rests_whole (c := fun c => { c with valid := false }) (f := fun x =>
    { x.timersStopped with powered := false, state := if x.state = .faulted then .faulted else .parked }) h
    (.inr (.inr hstate)) (by dsimp only; split <;> simp) rfl rfl rfl rfl
  exact (State.leavePhotometerQueue_keeps _ i).accounted hparked

/-- Things done one after another at the stations. -/
theorem State.foldl_whole {f : State → StationId → State} (hf : ∀ (u : State) (i : StationId), u.whole → (f u i).whole)
    (l : List StationId) (h : s.whole) : (l.foldl f s).whole := by
  induction l generalizing s with
  | nil => exact h
  | cons i l ih => exact ih (hf s i h)

theorem State.inSomeOrder_whole {f : State → StationId → State} (hf : ∀ (u : State) (i : StationId), u.whole → (f u i).whole)
    (l : List StationId) (h : s.whole) : (s.inSomeOrder l f).whole :=
  State.foldl_whole hf _ (State.whole_of_same h rfl rfl rfl rfl rfl rfl rfl rfl)

theorem State.dozeDelaySet_whole (h : s.whole) : s.dozeDelaySet.whole := by
  unfold State.dozeDelaySet
  split
  · exact State.foldl_whole (fun u i hu => (State.updSt_keeps ⟨rfl, rfl, rfl, rfl⟩).accounted hu) _ h
  · exact State.foldl_whole (fun u i hu => (u.dozeIfIdle_keeps i).accounted hu) _ h

theorem State.endReset_whole (a : Option Addr) (h : s.whole) : (s.endReset a).whole := by
  unfold State.endReset
  split
  · exact State.giveUpPlace_whole (((s.endQueue_keeps _).trans (State.updPass_keeps _ _)).accounted h)
  · exact State.endTicket_whole _ _ _ h

theorem State.writeOutput_whole (v : Service) (pieces : List (List Byte)) (h : s.whole) : (s.writeOutput v pieces).whole := by
  unfold State.writeOutput
  dsimp only
  split
  · exact State.endTicket_whole _ _ _ h
  · exact ((s.updPass_keeps _).trans (State.requestWrite_keeps (fun k h => by cases h))).accounted h

theorem State.nextOutput_whole (h : s.whole) : s.nextOutput.whole := by
  unfold State.nextOutput
  split
  · split
    · exact ((s.updPass_keeps _).trans (State.requestWrite_keeps (fun k h => by cases h))).accounted h
    · exact State.endTicket_whole _ _ _ h
    · exact h
  · exact h

theorem State.tones_keep (s : State) (tones : List (List Nat)) (staging : List (Option Nat)) :
    s.keeps { s with tones := tones, staging := staging } :=
  State.keeps_of rfl rfl (.refl _) rfl rfl (fun _ => Nat.le_refl _)

theorem State.takeToneImage_whole (v : Service) (data : List Byte) (h : s.whole) : (s.takeToneImage v data).whole := by
  have hstaged := s.tones_keep s.tones ((toneEntries data).map (fun e => some (min 1023 e)))
  unfold State.takeToneImage
  dsimp only
  split
  · exact State.endTicket_whole _ _ _ ((hstaged.trans (State.tones_keep _ _ _)).accounted h)
  · exact State.endTicket_whole _ _ _ ((hstaged.trans (State.tones_keep _ _ _)).accounted h)

/-! ## The resets (R35, R87, R167) -/

/-- With no context left, no sheet and no completion task, every page is accounted for. -/
theorem State.whole_of_empty (hjobs : s.jobs = []) (htasks : s.tasks = []) (hwaiters : s.waiters = [])
    (hqueue : s.photometerQueue = []) (harriving : s.port.arriving = []) (hlist : s.port.list = [])
    (hst : ∀ i, (s.st i).sheet = none ∧ (s.st i).stacked = none ∧ (s.st i).activity = .idle ∧ (s.st i).state ≠ .loading ∧
      (s.cal i).flight = none) : s.whole := by
  have hledger : s.ledger.jobs = [] := by simp [State.ledger, hjobs]
  have hcomp : s.ledger.completions = [] := by simp [State.ledger, State.completions, htasks, hwaiters]
  refine ⟨⟨by simp [hledger], by simp [hledger], fun i hi => ?_, fun i hi => ?_, by simp [hledger], by simp [hcomp], by simp [hcomp]⟩,
    by simp [hqueue], fun i _ => ?_⟩
  · obtain ⟨h1, h2, -⟩ := hst i
    simp [State.ledger, h1, h2] at hi
  · simp [State.ledger, (hst i).2.1]
  · obtain ⟨h1, h2, h3, h4, h5⟩ := hst i
    exact Station.agrees_of_none h1 h3 h4 (fun sh hsh => by rw [h2] at hsh; cases hsh) (fun hf => absurd h5 hf)
      (by simp [State.entryReads, hlist, harriving])

theorem Station.softReset_spec (valid : Bool) (x : Station) : (x.softReset valid).sheet = none ∧ (x.softReset valid).stacked = none ∧
    (x.softReset valid).activity = .idle ∧ (x.softReset valid).state ≠ .loading := by
  unfold Station.softReset
  dsimp only
  split
  · exact ⟨rfl, rfl, rfl, by simp⟩
  · split
    next hs => exact ⟨rfl, rfl, rfl, by rcases hs with hs | hs <;> simp [Station.cleared, Station.timersStopped, hs]⟩
    next => split <;> exact ⟨rfl, rfl, rfl, by simp⟩

theorem Port.softReset_lists (p : Port) : p.softReset.list = [] ∧ p.softReset.arriving = [] := by
  unfold Port.softReset
  dsimp only
  split <;> exact ⟨rfl, rfl⟩

theorem State.softResetBlocks_whole (s : State) : s.softResetBlocks.whole := by
  obtain ⟨hlist, harriving⟩ := s.port.softReset_lists
  refine State.whole_of_empty rfl rfl rfl rfl harriving hlist (fun i => ?_)
  have hst : s.softResetBlocks.st i = (s.st i).softReset (s.cal i).valid := by cases i <;> rfl
  have hcal : s.softResetBlocks.cal i = { s.cal i with flight := none } := by cases i <;> rfl
  obtain ⟨h1, h2, h3, h4⟩ := (s.st i).softReset_spec (s.cal i).valid
  rw [hst, hcal]
  exact ⟨h1, h2, h3, h4, rfl⟩

/-! ## Commands -/

/-- The state that a command leaves, if any, has every page accounted for. -/
def State.leavesWhole (o : Host.Outcome State Fault Refusal) : Prop := ∀ t, o = .next t → t.whole

theorem State.leavesWhole_next (h : s.whole) : State.leavesWhole (.next s) := by
  rintro t ⟨⟩; exact h

theorem State.leavesWhole_done (h : s.whole) : State.leavesWhole s.done := State.leavesWhole_next (s.join_keeps.accounted h)

theorem State.leavesWhole_ite {c : Prop} [Decidable c] {a b : Host.Outcome State Fault Refusal} (ha : c → State.leavesWhole a)
    (hb : ¬c → State.leavesWhole b) : State.leavesWhole (if c then a else b) := by
  split
  next hc => exact ha hc
  next hc => exact hb hc

/-- A completion leaves every page accounted for when what its channel does does. -/
theorem State.leavesWhole_completed {answers : Request → Bool} {act : Request → State → State} (h : s.whole)
    (hact : ∀ r, s.serving = some r → (act r s.endRequest).whole) : State.leavesWhole (s.completed answers act) := by
  unfold State.completed
  split
  next r hr => exact State.leavesWhole_ite (fun _ => State.leavesWhole_done (hact r hr)) (fun _ => State.leavesWhole_next h)
  next =>
    exact State.leavesWhole_ite (fun _ => State.leavesWhole_done (s.endDiscarded_keeps.accounted h)) (fun _ => State.leavesWhole_next h)

theorem State.leavesWhole_service {k : ServiceKind} {act : Service → State} (h : s.whole) (hact : ∀ v, (act v).whole) :
    State.leavesWhole (s.runService k act) := by
  unfold State.runService
  split
  · exact State.leavesWhole_done (hact _)
  · exact State.leavesWhole_next h

/-- The request being served is the list's head. -/
theorem State.list_of_serving {r : Request} (h : s.serving = some r) : ∃ rest, s.port.list = r :: rest := by
  unfold State.serving Port.onBus at h
  split at h
  next hd =>
    split at h
    · rw [Option.isNone_iff_eq_none.1 hd, Option.none_or] at h
      exact List.head?_eq_some_iff.1 h
    · cases h
  next => cases h

/-- A page entry's read that ends was its station's only one, and the station was at its boundary with a page left. -/
theorem State.atBoundary_of_entry (h : s.whole) {r : Request} (hr : s.serving = some r) (hp : r.purpose = .pageEntry i) :
    s.endRequest.whole ∧ s.endRequest.atBoundary i ∧ s.endRequest.ledger.pagesLeft i := by
  obtain ⟨rest, hlist⟩ := State.list_of_serving hr
  have hreads : s.entryReads i = s.endRequest.entryReads i + 1 := by
    simp [State.entryReads, State.endRequest, hlist, hp]
  have hag := h.agrees i trivial
  have ha : (s.st i).activity = .entryRead := by
    by_contra hne
    rw [Station.agrees.reads_zero hag hne] at hreads; cases hreads
  have hle := hag.reads
  rw [if_pos ha] at hle
  have hwhole := s.endRequest_keeps.accounted h
  exact ⟨hwhole, (hwhole.agrees i trivial).atBoundary (act := .entryRead) ha rfl (by simp) (by omega),
    Station.agrees.left (hwhole.agrees i trivial) ha⟩

theorem State.passEndRead_whole (i : StationId) (stop : Bool) (h : s.whole) : (s.passEndRead i stop).whole := by
  unfold State.passEndRead
  split
  next j hj =>
    split
    next =>
      dsimp only
      split
      next hs => exact State.settle_whole (State.stopEnds_accounted h hj (by simp [hs]))
      next => exact (s.updJob_keeps _ (f := fun k => { k with stopSeen := true }) (fun _ => rfl)).accounted h
    next => exact h
  next => exact h

theorem State.decisionRead_whole (i : StationId) (stop : Bool) (h : s.whole) : (s.decisionRead i stop).whole :=
  State.settle_whole (State.loadDecision_accounted stop h trivial)

end

end Sys2Proof.Machine
end

section
/-! PROOFS. The pages accounted for at every step: the five counts of an ended job add up to its page count (R67). -/

namespace Sys2Proof.Machine

section
variable {s : State}

/-! ## The resets (R35, R87) -/

theorem execPowerOnReset_whole (s : State) : State.leavesWhole (execPowerOnReset s) :=
  State.leavesWhole_next (State.whole_of_empty rfl rfl rfl rfl rfl rfl (fun i => by
    cases i <;> exact ⟨rfl, rfl, rfl, (by decide : StationState.parked ≠ .loading), rfl⟩))

theorem execSoftReset_whole (s : State) : State.leavesWhole (execSoftReset s) := by
  have hdozes := State.foldl_whole (f := State.dozeIfIdle) (fun u i hu => (u.dozeIfIdle_keeps i).accounted hu) allStations
    s.softResetBlocks_whole
  exact State.leavesWhole_done (State.inSomeOrder_whole (fun u i hu => State.readyActions_accounted hu trivial) _ hdozes)

/-! ## The register window and the scan timer (R36, R37, R165 to R169) -/

theorem execPortEn_whole (v : Bool) (h : s.whole) : State.leavesWhole (execPortEn v s) := by
  unfold execPortEn
  refine State.leavesWhole_ite (fun _ => State.leavesWhole_next h) (fun _ => ?_)
  exact State.leavesWhole_ite (fun _ => State.leavesWhole_done (State.whole_of_same h rfl rfl rfl rfl rfl rfl rfl rfl))
    (fun _ => State.leavesWhole_done (State.whole_of_same h rfl rfl rfl rfl rfl rfl rfl rfl))

theorem execScanEn_whole (v : Bool) (h : s.whole) : State.leavesWhole (execScanEn v s) := by
  have hctrl : ({ s with ctrl := { s.ctrl with scanEn := v } } : State).whole := State.whole_of_same h rfl rfl rfl rfl rfl rfl rfl rfl
  unfold execScanEn
  refine State.leavesWhole_ite (fun _ => State.leavesWhole_next h) (fun _ => ?_)
  refine State.leavesWhole_ite (fun _ => State.leavesWhole_done ?_)
    (fun _ => State.leavesWhole_done (State.whole_of_same h rfl rfl rfl rfl rfl rfl rfl rfl))
  split
  · exact (State.loadScanTimer_keeps _).accounted hctrl
  · exact hctrl

theorem execIntEn_whole (v : Bool) (h : s.whole) : State.leavesWhole (execIntEn v s) :=
  State.leavesWhole_ite (fun _ => State.leavesWhole_next h)
    (fun _ => State.leavesWhole_done (State.whole_of_same h rfl rfl rfl rfl rfl rfl rfl rfl))

theorem execWait_whole (v : BitVec 4) (h : s.whole) : State.leavesWhole (execWait v s) :=
  State.leavesWhole_ite (fun _ => State.leavesWhole_next h)
    (fun _ => State.leavesWhole_done (State.whole_of_same h rfl rfl rfl rfl rfl rfl rfl rfl))

theorem execParkEn_whole (v : Bool) (h : s.whole) : State.leavesWhole (execParkEn v s) := by
  unfold execParkEn
  refine State.leavesWhole_ite (fun _ => State.leavesWhole_next h) (fun _ => ?_)
  exact State.leavesWhole_ite (fun _ => State.leavesWhole_done (State.whole_of_same h rfl rfl rfl rfl rfl rfl rfl rfl))
    (fun _ => State.leavesWhole_done (State.whole_of_same h rfl rfl rfl rfl rfl rfl rfl rfl))

theorem execScanivlWrite_whole (value : Word) (lanes : BitVec 4) (h : s.whole) :
    State.leavesWhole (execScanivlWrite value lanes s) := by
  unfold execScanivlWrite
  refine State.leavesWhole_ite (fun _ => State.leavesWhole_done (State.whole_of_same h rfl rfl rfl rfl rfl rfl rfl rfl)) (fun _ => ?_)
  refine State.leavesWhole_ite (fun _ => State.leavesWhole_done (State.whole_of_same h rfl rfl rfl rfl rfl rfl rfl rfl)) (fun _ => ?_)
  exact State.leavesWhole_done ((State.loadScanTimer_keeps _).accounted (State.whole_of_same h rfl rfl rfl rfl rfl rfl rfl rfl))

theorem execLook_whole (h : s.whole) : State.leavesWhole (execLook s) := by
  unfold execLook
  refine State.leavesWhole_ite (fun _ => State.leavesWhole_next h) (fun _ => ?_)
  exact State.leavesWhole_ite (fun _ => State.leavesWhole_done (State.whole_of_same h rfl rfl rfl rfl rfl rfl rfl rfl))
    (fun _ => State.leavesWhole_done (s.startPass_keeps.accounted h))

theorem execRegisterWrite_whole (reg : PlainReg) (value : Word) (lanes : BitVec 4) (h : s.whole) :
    State.leavesWhole (execRegisterWrite reg value lanes s) := by
  cases reg with
  | brdBase => exact State.leavesWhole_done (State.whole_of_same h rfl rfl rfl rfl rfl rfl rfl rfl)
  | brdSlots => exact State.leavesWhole_done (State.whole_of_same h rfl rfl rfl rfl rfl rfl rfl rfl)
  | ident => exact State.leavesWhole_next h
  | stat => exact State.leavesWhole_next h
  | attn => exact State.leavesWhole_next h

/-- A port that is moved without its lists. -/
theorem Port.begin_lists (c : Ctrl) (p : Port) : (p.begin c).list = p.list ∧ (p.begin c).arriving = p.arriving := by
  unfold Port.begin
  dsimp only
  split <;> exact ⟨rfl, rfl⟩

theorem State.leavesWhole_port (h : s.whole) (p : Port) (hlist : p.list = s.port.list) (harriving : p.arriving = s.port.arriving) :
    State.leavesWhole ({ s with port := p } : State).done :=
  State.leavesWhole_done (State.whole_of_same h rfl rfl rfl rfl rfl rfl hlist harriving)

theorem execBusGrant_whole (h : s.whole) : State.leavesWhole (execBusGrant s) := by
  obtain ⟨hlist, harriving⟩ := s.port.begin_lists s.ctrl
  unfold execBusGrant
  refine State.leavesWhole_ite (fun _ => ?_) (fun _ => State.leavesWhole_next h)
  exact State.leavesWhole_ite (fun _ => State.leavesWhole_port h _ hlist harriving) (fun _ => State.leavesWhole_port h _ rfl rfl)

theorem execBusyReleased_whole (h : s.whole) : State.leavesWhole (execBusyReleased s) := by
  obtain ⟨hlist, harriving⟩ := s.port.begin_lists s.ctrl
  unfold execBusyReleased
  split
  · exact State.leavesWhole_port h _ hlist harriving
  · exact State.leavesWhole_port h _ rfl rfl
  · exact State.leavesWhole_port h _ rfl rfl
  · exact State.leavesWhole_next h
  · exact State.leavesWhole_next h

theorem execGrantWithdrawn_whole (h : s.whole) : State.leavesWhole (execGrantWithdrawn s) := by
  unfold execGrantWithdrawn
  split
  · exact State.leavesWhole_port h _ rfl rfl
  · exact State.leavesWhole_port h _ rfl rfl
  · exact State.leavesWhole_port h _ rfl rfl
  · exact State.leavesWhole_next h
  · exact State.leavesWhole_next h

/-! ## Completions (R38 to R50, R58, R60, R98, R172) -/

theorem execClaimReadDone_whole (data : List Byte) (h : s.whole) : State.leavesWhole (execClaimReadDone data s) := by
  unfold execClaimReadDone
  refine State.leavesWhole_ite (fun _ => State.leavesWhole_done ((s.lockWrite_keeps data).accounted h)) (fun _ => ?_)
  exact State.leavesWhole_completed h (fun _ _ => State.skipCandidate_whole (s.endRequest_keeps.accounted h))

theorem execTicketRestReadDone_whole (data : List Byte) (h : s.whole) : State.leavesWhole (execTicketRestReadDone data s) := by
  have hend := s.endRequest_keeps.accounted h
  refine State.leavesWhole_completed h (fun _ _ => ?_)
  split
  · split
    · exact State.takeTicket_whole _ _ hend
    · exact hend
  · exact hend

theorem execToneLoad_whole (data : List Byte) (h : s.whole) : State.leavesWhole (execToneLoad data s) := by
  have hend := s.endRequest_keeps.accounted h
  refine State.leavesWhole_completed h (fun _ _ => ?_)
  split
  · split
    · exact State.takeToneImage_whole _ _ hend
    · exact hend
  · exact hend

theorem execSlotReadDone_whole (data : List Byte) (h : s.whole) : State.leavesWhole (execSlotReadDone data s) :=
  State.leavesWhole_completed h (fun _ _ =>
    (State.nextSlotRead_keeps _).accounted (State.takeSlot_whole data (s.endRequest_keeps.accounted h)))

theorem execKindPeekDone_whole (data : List Byte) (h : s.whole) : State.leavesWhole (execKindPeekDone data s) :=
  State.leavesWhole_completed h (fun _ _ => State.takePeek_whole data (s.endRequest_keeps.accounted h))

theorem execTicketHeadReadDone_whole (data : List Byte) (h : s.whole) : State.leavesWhole (execTicketHeadReadDone data s) :=
  State.leavesWhole_completed h (fun _ _ => State.takeTicketHead_whole data (s.endRequest_keeps.accounted h))

theorem execLoadDecision_whole (stop : Word) (h : s.whole) : State.leavesWhole (execLoadDecision stop s) := by
  refine State.leavesWhole_completed h (fun r _ => ?_)
  split
  · exact State.decisionRead_whole _ _ (s.endRequest_keeps.accounted h)
  · exact s.endRequest_keeps.accounted h

theorem execPassEndReadingDone_whole (stop : Word) (h : s.whole) : State.leavesWhole (execPassEndReadingDone stop s) := by
  refine State.leavesWhole_completed h (fun r _ => ?_)
  split
  · exact State.passEndRead_whole _ _ (s.endRequest_keeps.accounted h)
  · exact s.endRequest_keeps.accounted h

theorem execBoundaryReadingDone_whole (stop : Word) (h : s.whole) : State.leavesWhole (execBoundaryReadingDone stop s) := by
  refine State.leavesWhole_completed h (fun r _ => ?_)
  split
  · exact State.boundaryRead_whole _ _ (s.endRequest_keeps.accounted h)
  · exact s.endRequest_keeps.accounted h

theorem execBandReadingDone_whole (stop : Word) (h : s.whole) : State.leavesWhole (execBandReadingDone stop s) := by
  refine State.leavesWhole_completed h (fun r _ => ?_)
  split
  · exact State.bandRead_whole _ _ (s.endRequest_keeps.accounted h)
  · exact s.endRequest_keeps.accounted h

theorem execRowFetchDone_whole (data : List Byte) (h : s.whole) : State.leavesWhole (execRowFetchDone data s) := by
  refine State.leavesWhole_completed h (fun r _ => ?_)
  split
  · exact State.takeRow_whole data (s.endRequest_keeps.accounted h)
  · exact s.endRequest_keeps.accounted h

theorem execPageEntryReadDone_whole (data : List Byte) (h : s.whole) : State.leavesWhole (execPageEntryReadDone data s) := by
  refine State.leavesWhole_completed h (fun r hr => ?_)
  split
  next i hp =>
    obtain ⟨hwhole, hb, hl⟩ := State.atBoundary_of_entry h hr hp
    exact State.takeEntry_whole data hwhole hb hl
  next => exact s.endRequest_keeps.accounted h

theorem State.portError_whole (h : s.whole) {r : Request} (hr : s.serving = some r) :
    ((({ s.endRequest with portErr := true } : State).portError r.purpose)).whole := by
  have hmarked : ∀ {u : State}, u.whole → ({ u with portErr := true } : State).whole :=
    fun hu => State.whole_of_same hu rfl rfl rfl rfl rfl rfl rfl rfl
  have hend := hmarked (s.endRequest_keeps.accounted h)
  unfold State.portError
  split
  · exact (State.nextSlotRead_keeps _).accounted hend
  · exact State.skipCandidate_whole hend
  · exact State.skipCandidate_whole hend
  · exact State.endTicket_whole _ _ _ hend
  · exact State.endTicket_whole _ _ _ hend
  · exact State.endTicket_whole _ _ _ ((State.tones_keep _ _ _).accounted hend)
  · exact State.nextOutput_whole hend
  · exact State.nextWrite_whole hend
  · exact State.doneLost_whole hend
  · exact State.readFault_whole hend
  next i hp =>
    obtain ⟨-, hb, hl⟩ := State.atBoundary_of_entry h hr hp
    split
    next j hj =>
      have hquiet : s.endRequest.quietAt { s.endRequest with portErr := true } i := State.quietAt_of_eq rfl rfl id (Nat.le_refl _)
      have hb' := hquiet.atBoundary hb
      exact State.voidUnread_whole hend hb' hj hl
    next => exact hend
  · exact State.decisionRead_whole _ _ hend
  · exact State.passEndRead_whole _ _ hend
  · exact State.boundaryRead_whole _ _ hend
  · exact State.bandRead_whole _ _ hend

theorem execTransferTimeout_whole (h : s.whole) : State.leavesWhole (execTransferTimeout s) := by
  unfold execTransferTimeout
  split
  next r hr => exact State.leavesWhole_done (State.portError_whole h hr)
  next =>
    exact State.leavesWhole_ite (fun _ => State.leavesWhole_done (s.endDiscarded_keeps.accounted h)) (fun _ => State.leavesWhole_next h)

/-! ## Services (R152 to R164) -/

theorem execStockSet_whole (h : s.whole) : State.leavesWhole (execStockSet s) := by
  refine State.leavesWhole_service h (fun v => ?_)
  dsimp only
  split
  · have hset := (s.updSt_keeps (i := v.station) (f := fun x => { x with
        stock := v.p1.toNat % 65536, speed := clamp 256 4096 v.p2.toNat, supply := clamp 0 65535 v.p3.toNat }) ⟨rfl, rfl, rfl, rfl⟩).accounted h
    exact State.endTicket_whole _ _ _ (State.settle_whole (State.testAllStock_accounted (State.supplyChanged_whole _ hset)))
  · exact State.endTicket_whole _ _ _ h

theorem execSupplySet_whole (h : s.whole) : State.leavesWhole (execSupplySet s) := by
  refine State.leavesWhole_service h (fun v => ?_)
  dsimp only
  split
  · have hset := (s.updSt_keeps (i := v.station) (f := fun x => { x with supply := clamp 0 65535 v.p1.toNat }) ⟨rfl, rfl, rfl, rfl⟩).accounted h
    exact State.endTicket_whole _ _ _ (State.settle_whole (State.supplyChanged_whole _ hset))
  · exact State.endTicket_whole _ _ _ h

theorem execCalRequest_whole (h : s.whole) : State.leavesWhole (execCalRequest s) := by
  refine State.leavesWhole_service h (fun v => ?_)
  split
  · exact State.endTicket_whole _ _ _ h
  · have hmark : s.keeps (s.updCal v.station (fun c =>
        if v.selector = 1 then { c with quickDue := true } else { c with fullDue := true })) := by
      refine State.updCal_keeps ?_ ?_ <;> split <;> rfl
    exact State.endTicket_whole _ _ _ (State.dueMarkSet_whole _ (hmark.accounted h))

theorem execStationPark_whole (h : s.whole) : State.leavesWhole (execStationPark s) := by
  refine State.leavesWhole_service h (fun v => ?_)
  split
  next hlegal => exact State.endTicket_whole _ _ _ (State.parkStation_whole h hlegal)
  next => exact State.endTicket_whole _ _ _ h

theorem execStationWake_whole (h : s.whole) : State.leavesWhole (execStationWake s) := by
  refine State.leavesWhole_service h (fun v => ?_)
  split
  next hs => exact State.endTicket_whole _ _ _ (State.beginWake_accounted h (.inl hs))
  next hs => exact State.endTicket_whole _ _ _ (State.beginWake_accounted h (.inr hs))
  all_goals exact State.endTicket_whole _ _ _ h

theorem execStationReset_whole (h : s.whole) : State.leavesWhole (execStationReset s) :=
  State.leavesWhole_service h (fun _ => State.endReset_whole _ (State.resetStation_whole _ h))

theorem execTimingSet_whole (h : s.whole) : State.leavesWhole (execTimingSet s) := by
  refine State.leavesWhole_service h (fun v => ?_)
  have htiming : ({ s with timing := timingOf v } : State).whole := State.whole_of_same h rfl rfl rfl rfl rfl rfl rfl rfl
  have hcompared := State.foldl_whole (f := fun s i => s.updCal i (CalUnit.compare (timingOf v)))
    (fun u i hu => (State.updCal_keeps rfl rfl).accounted hu) allStations htiming
  exact State.endTicket_whole _ _ _ (State.dozeDelaySet_whole
    (State.inSomeOrder_whole (fun u i hu => State.dueMarkSet_whole i hu) _ hcompared))

theorem execSerialSet_whole (h : s.whole) : State.leavesWhole (execSerialSet s) :=
  State.leavesWhole_service h (fun _ => State.endTicket_whole _ _ _ (State.whole_of_same h rfl rfl rfl rfl rfl rfl rfl rfl))

/-! ## The stations' timers and reports (R69 to R82, R144) -/

theorem execDozeTimerExpiry_whole (i : StationId) (h : s.whole) : State.leavesWhole (execDozeTimerExpiry i s) := by
  unfold execDozeTimerExpiry
  refine State.leavesWhole_ite (fun hc => State.leavesWhole_done ?_) (fun _ => State.leavesWhole_next h)
  simp only [Bool.and_eq_true, beq_iff_eq] at hc
  have hrests := State.rests_whole (c := fun c => c) (f := fun x =>
    { x with state := .dozing, dozeTimer := none, holdTimer := some s.timing.trimHold }) h (.inr (.inr (.inl hc.2))) (by simp) rfl rfl rfl rfl
  rwa [State.updCal_id] at hrests

theorem execHoldTimerExpiry_whole (i : StationId) (h : s.whole) : State.leavesWhole (execHoldTimerExpiry i s) := by
  unfold execHoldTimerExpiry
  refine State.leavesWhole_ite (fun _ => State.leavesWhole_done ?_) (fun _ => State.leavesWhole_next h)
  have htimer : s.keeps (s.updSt i (fun x => { x with holdTimer := none })) := State.updSt_keeps ⟨rfl, rfl, rfl, rfl⟩
  exact (htimer.trans (State.updCal_keeps rfl rfl)).accounted h

theorem execWakeTimerExpiry_whole (i : StationId) (h : s.whole) : State.leavesWhole (execWakeTimerExpiry i s) := by
  unfold execWakeTimerExpiry
  refine State.leavesWhole_ite (fun hc => State.leavesWhole_done ?_) (fun _ => State.leavesWhole_next h)
  simp only [Bool.and_eq_true, beq_iff_eq] at hc
  exact State.wakeEnds_whole h hc.2

theorem execRegistrationFound_whole (i : StationId) (feed : Nat) (h : s.whole) :
    State.leavesWhole (execRegistrationFound i feed s) := by
  unfold execRegistrationFound
  refine State.leavesWhole_ite (fun hc => State.leavesWhole_done ?_) (fun _ => State.leavesWhole_next h)
  simp only [Bool.and_eq_true, beq_iff_eq] at hc
  exact State.registered_whole h hc.1

theorem execSheetStacked_whole (i : StationId) (h : s.whole) : State.leavesWhole (execSheetStacked i s) := by
  unfold execSheetStacked
  refine State.leavesWhole_ite (fun hc => ?_) (fun _ => State.leavesWhole_next h)
  split
  next j sh hj hsh => exact State.leavesWhole_done (State.stackSheet_whole h hj hsh hc)
  next => exact State.leavesWhole_next h

theorem execMoveComplete_whole (i : StationId) (h : s.whole) : State.leavesWhole (execMoveComplete i s) := by
  have hmoved : s.keeps (s.updSt i (fun x => { x with moveOut := false })) := State.updSt_keeps ⟨rfl, rfl, rfl, rfl⟩
  exact State.leavesWhole_ite (fun _ => State.leavesWhole_done (State.moveEnds_whole (hmoved.accounted h)))
    (fun _ => State.leavesWhole_next h)

theorem execSettleTimerExpiry_whole (i : StationId) (h : s.whole) : State.leavesWhole (execSettleTimerExpiry i s) := by
  unfold execSettleTimerExpiry
  split
  next f hf =>
    refine State.leavesWhole_ite (fun _ => State.leavesWhole_done ?_) (fun _ => State.leavesWhole_next h)
    obtain ⟨-, hflight⟩ := State.calibrating_spec hf
    have htimer : s.keeps (s.updSt i (fun x => { x with settleTimer := none })) := State.updSt_keeps ⟨rfl, rfl, rfl, rfl⟩
    refine (htimer.trans (State.updCal_keeps rfl ?_)).accounted h
    rw [State.cal_updSt, hflight]; rfl
  next => exact State.leavesWhole_next h

theorem execFullMeasurementReport_whole (i : StationId) (readings : List Nat) (h : s.whole) :
    State.leavesWhole (execFullMeasurementReport i readings s) := by
  unfold execFullMeasurementReport
  split
  next f hf =>
    exact State.leavesWhole_ite (fun hc => State.leavesWhole_done (State.completeFull_whole readings h hf hc.1))
      (fun _ => State.leavesWhole_next h)
  next => exact State.leavesWhole_next h

theorem execQuickMeasurementReport_whole (i : StationId) (q : Nat) (h : s.whole) :
    State.leavesWhole (execQuickMeasurementReport i q s) := by
  unfold execQuickMeasurementReport
  split
  next f hf =>
    exact State.leavesWhole_ite (fun _ => State.leavesWhole_done (State.completeQuick_whole q h hf)) (fun _ => State.leavesWhole_next h)
  next => exact State.leavesWhole_next h

theorem execLineEnd_whole (i : StationId) (h : s.whole) : State.leavesWhole (execLineEnd i s) := by
  unfold execLineEnd
  split
  next a j job _ ha _ => exact State.leavesWhole_done (State.endLine_whole h ha)
  next => exact State.leavesWhole_next h

/-! ## Every command (R67) -/

/-- Whatever command runs, every page reached stays accounted for. -/
theorem exec_whole (instr : Instr) (h : s.whole) : State.leavesWhole (exec instr s) := by
  have hend := s.endRequest_keeps.accounted h
  have hfault : ∀ i c, State.leavesWhole (if s.takesFault i then (s.enterFaulted i c).done else .next s) := fun i c =>
    State.leavesWhole_ite (fun _ => State.leavesWhole_done (State.enterFaulted_whole i c h)) (fun _ => State.leavesWhole_next h)
  have hfails : ∀ (i : StationId) (c : Prop) [Decidable c],
      State.leavesWhole (if c then (s.failAttempt i).done else .next s) := fun i c _ =>
    State.leavesWhole_ite (fun _ => State.leavesWhole_done (State.failAttempt_whole h)) (fun _ => State.leavesWhole_next h)
  cases instr with
  | powerOnReset => exact execPowerOnReset_whole s
  | softReset => exact execSoftReset_whole s
  | portEn v => exact execPortEn_whole v h
  | scanEn v => exact execScanEn_whole v h
  | intEn v => exact execIntEn_whole v h
  | parkEn v => exact execParkEn_whole v h
  | wait v => exact execWait_whole v h
  | scanivlWrite value lanes => exact execScanivlWrite_whole value lanes h
  | look => exact execLook_whole h
  | attnRead => exact State.leavesWhole_done (State.whole_of_same h rfl rfl rfl rfl rfl rfl rfl rfl)
  | registerWrite reg value lanes => exact execRegisterWrite_whole reg value lanes h
  | scanTimerExpiry =>
    exact State.leavesWhole_ite (fun _ => State.leavesWhole_done (s.startPass_keeps.accounted h)) (fun _ => State.leavesWhole_next h)
  | slotReadDone data => exact execSlotReadDone_whole data h
  | kindPeekDone data => exact execKindPeekDone_whole data h
  | claimReadDone data => exact execClaimReadDone_whole data h
  | claimWriteDone => exact State.leavesWhole_completed h (fun _ _ => (State.takeClaim_keeps _).accounted hend)
  | ticketHeadReadDone data => exact execTicketHeadReadDone_whole data h
  | ticketRestReadDone data => exact execTicketRestReadDone_whole data h
  | toneLoad data => exact execToneLoad_whole data h
  | stockSet => exact execStockSet_whole h
  | supplySet => exact execSupplySet_whole h
  | calRequest => exact execCalRequest_whole h
  | stationPark => exact execStationPark_whole h
  | stationWake => exact execStationWake_whole h
  | stationReset => exact execStationReset_whole h
  | timingSet => exact execTimingSet_whole h
  | serialSet => exact execSerialSet_whole h
  | emitterRead => exact State.leavesWhole_service h (fun v => State.writeOutput_whole v _ h)
  | stationQuery => exact State.leavesWhole_service h (fun v => State.writeOutput_whole v _ h)
  | outputWriteDone => exact State.leavesWhole_completed h (fun _ _ => State.nextOutput_whole hend)
  | completionWriteDone => exact State.leavesWhole_completed h (fun _ _ => State.nextWrite_whole hend)
  | doneWriteDone => exact State.leavesWhole_completed h (fun _ _ => State.doneWritten_whole hend)
  | loadDecision stop => exact execLoadDecision_whole stop h
  | passEndReadingDone stop => exact execPassEndReadingDone_whole stop h
  | boundaryReadingDone stop => exact execBoundaryReadingDone_whole stop h
  | bandReadingDone stop => exact execBandReadingDone_whole stop h
  | dozeTimerExpiry i => exact execDozeTimerExpiry_whole i h
  | holdTimerExpiry i => exact execHoldTimerExpiry_whole i h
  | wakeTimerExpiry i => exact execWakeTimerExpiry_whole i h
  | loadTimerExpiry i => exact hfails i _
  | registrationFound i feed => exact execRegistrationFound_whole i feed h
  | registrationFailed i feed => exact hfails i _
  | jam i => exact hfault i _
  | headFault i => exact hfault i _
  | sheetStacked i => exact execSheetStacked_whole i h
  | moveComplete i => exact execMoveComplete_whole i h
  | settleTimerExpiry i => exact execSettleTimerExpiry_whole i h
  | fullMeasurementReport i readings => exact execFullMeasurementReport_whole i readings h
  | quickMeasurementReport i q => exact execQuickMeasurementReport_whole i q h
  | pageEntryReadDone data => exact execPageEntryReadDone_whole data h
  | rowFetchDone data => exact execRowFetchDone_whole data h
  | lineEnd i => exact execLineEnd_whole i h
  | busGrant => exact execBusGrant_whole h
  | busyReleased => exact execBusyReleased_whole h
  | grantWithdrawn => exact execGrantWithdrawn_whole h
  | transferTimeout => exact execTransferTimeout_whole h

theorem State.transferEnds_whole (h : s.whole) : s.transferEnds.whole := by
  have hstage : ∀ r, s.keeps (s.stageTransfer r) := by
    intro r
    unfold State.stageTransfer
    split
    · exact s.tones_keep s.tones _
    · exact .refl s
  unfold State.transferEnds
  split
  next r _ =>
    split
    · have hport : (s.stageTransfer r).port = s.port := by
        unfold State.stageTransfer
        split <;> rfl
      exact State.whole_of_same ((hstage r).accounted h) rfl rfl rfl rfl rfl rfl (by rw [hport]) (by rw [hport])
    · exact h
  next =>
    split
    · exact (s.endDiscarded_keeps.trans (State.join_keeps _)).accounted h
    · exact h

theorem step_whole (h : s.whole) : State.leavesWhole (step s) := by
  unfold step
  split
  · exact State.leavesWhole_next (State.transferEnds_whole h)
  · exact exec_whole _ (State.whole_of_same h rfl rfl rfl rfl rfl rfl rfl rfl)

end

/-- Settles O35: an ended job's counts add up by what its end counts; over a run the accounts of every context, station and
task are kept by every command. -/
theorem pageCountsAddUp : Obligations.PageCountsAddUp := by
  refine ⟨fun j o hle hsum => ⟨?_, rfl, rfl, rfl⟩, fun s t hs hp ht => ?_⟩
  · have hlost : j.counts.total + j.lostPages = j.nextPage := by
      unfold Job.lostPages
      cases hl : j.lostSheet <;> simpa [hl, pagesOn] using hsum
    rw [Job.finished_total]
    omega
  · obtain ⟨hledger, hagree⟩ := s.pagesAccounted_iff.1 hs
    obtain ⟨hnodup, -, -⟩ := hp
    have hwhole : s.whole := ⟨hledger, (List.nodup_append.1 hnodup).2.1, fun i _ => hagree i⟩
    have htwhole := step_whole hwhole t ht
    exact t.pagesAccounted_iff.2 ⟨htwhole.ledger, fun i => htwhole.agrees i trivial⟩

end Sys2Proof.Machine
end

section
/-! PROOFS. The load decision that begins no load (R58, R64): the dispatcher at rest behind a job that changes at its station,
the ends at a check, and the return. -/

namespace Sys2Proof.Machine

/-! ## The dispatcher at rest behind a job that changes -/

/-- A change of the job of one slot that keeps its station and is of no intake list leaves a dispatcher at rest at rest, when a
return that it leaves pending has no room, or was pending already. -/
theorem State.atRest.updJob {s : State} {a : Addr} {f : Job → Job} (h : s.atRest) (hstation : ∀ k, (f k).station = k.station)
    (hq : ∀ k ∈ s.jobs, k.slotAddr = a → k.state ≠ .queued ∧ (f k).state ≠ .queued)
    (hret : s.roomForReturn = false ∨
      ∀ k ∈ s.jobs, k.slotAddr = a → (f k).returnPending = true → (f k).ending = none → k.returnPending = true ∧ k.ending = none) :
    (s.updJob a f).atRest := by
  rw [State.atRest_iff] at h ⊢
  obtain ⟨hevents, hreturn, hmatch⟩ := h
  have hintake := State.intake_updJob hq
  have hroom : (s.updJob a f).roomForReturn = s.roomForReturn := by rw [State.roomForReturn, State.intakeCount, hintake]; rfl
  refine ⟨hevents, ?_, State.nextMatch_eq_none.2 (fun k hk => ?_)⟩
  · rcases hreturn with hnone | hno
    · refine hret.elim (fun hno => .inr (hroom.trans hno)) (fun hret => .inl ?_)
      rw [State.nextReturn_eq_none] at hnone ⊢
      intro k hk
      obtain ⟨q, hq', rfl⟩ := List.mem_map.1 hk
      split
      next ha =>
        intro hp he
        obtain ⟨hp', he'⟩ := hret q hq' ha hp he
        exact hnone q hq' hp' he'
      next => exact hnone q hq'
    · exact .inr (hroom.trans hno)
  · have hfree : s.free k = true := by
      have hatt := State.attached_updJob (s := s) (a := a) (f := f) hstation k
      rw [← hk]
      simp [State.free, hatt]
      rfl
    rw [State.oldestFit, hintake]
    exact State.nextMatch_eq_none.1 hmatch k hfree

/-- The job with its stop-seen flag raised when a stop has been `seen` (R61). -/
def Job.sees (seen : Bool) (j : Job) : Job := { j with stopSeen := j.stopSeen || seen }

theorem Job.sees_false (j : Job) : j.sees false = j := by simp [Job.sees]

theorem State.updJob_id (s : State) (a : Addr) : s.updJob a (fun k => k) = s := by simp [State.updJob]

/-- A job attached is found at its slot. -/
theorem State.job_of_attached {s : State} {i : StationId} {j : Job} (hn : (s.jobs.map (·.slotAddr)).Nodup)
    (hj : s.attached i = some j) : s.job j.slotAddr = some j := by
  cases h : s.job j.slotAddr with
  | none => exact absurd (beq_self_eq_true j.slotAddr) (List.find?_eq_none.1 h j (State.attached_spec hj).1)
  | some k =>
    obtain ⟨hk, hslot⟩ := State.job_spec h
    rw [State.eq_attached_of_slotAddr hn hj hk hslot]

section
variable {s : State} {i : StationId} {n : Nat} {j : Job} (hserves : s.serves (.decision i) n) (hj : s.attached i = some j)
  (hs : j.state = .attached ∨ j.state = .supplyWait) (he : j.ending = none) (hseen : j.stopSeen = false)
  (hmay : s.mayDecide i = true) (hn : (s.jobs.map (·.slotAddr)).Nodup)
include hj hs he hmay

/-! ## The decision's checks (R58) -/

theorem State.loadDecision_stops : s.loadDecision i true = (s.updJob j.slotAddr (Job.sees true)).endJob j.slotAddr .stopped := by
  have hsees : (fun k : Job => { k with stopSeen := true }) = Job.sees true := by funext k; simp [Job.sees]
  unfold State.loadDecision
  rcases hs with hs | hs <;> simp [hj, hs, he, hmay, hsees]

include hseen in
theorem State.loadDecision_decides : s.loadDecision i false = s.decideLoad i j := by
  unfold State.loadDecision
  rcases hs with hs | hs <;> simp [hj, hs, he, hmay, hseen]

omit hs he hmay in
include hserves hn in
/-- A decision that ends the job: its completion task joins the write list, and the dispatcher rests behind it (R58, R65). -/
theorem exec_loadDecision_ends {stop : Word} {seen : Bool} {o : TicketOutcome} (hroom : s.listRoom 1)
    (hend : s.endRequest.loadDecision i (stop != 0) = (s.endRequest.updJob j.slotAddr (Job.sees seen)).endJob j.slotAddr o)
    (hrest : ({ s with jobs := s.jobsWith j.slotAddr (fun k => (k.sees seen).finished o) } : State).atRest) :
    ∃ t, exec (.loadDecision stop) s = .next t ∧
      ({ s with jobs := s.jobsWith j.slotAddr (Job.sees seen) } : State).jobEnds t j.slotAddr o ∧
      t = { s with port := t.port, jobs := t.jobs, tasks := t.tasks, plan := t.plan, stations := t.stations } ∧
      ∀ q, t.st q = { s.st q with dozeTimer := (t.st q).dozeTimer } := by
  have hjob : (s.endRequest.updJob j.slotAddr (Job.sees seen)).job j.slotAddr = some (j.sees seen) := by
    rw [State.job_updJob (f := Job.sees seen) (fun _ => rfl), State.job_of_attached (s := s.endRequest) hn hj]
    exact congrArg some (if_pos rfl)
  have hjobs : (s.endRequest.updJob j.slotAddr (Job.sees seen)).jobsWith j.slotAddr (·.finished o) =
      s.jobsWith j.slotAddr (fun k => (k.sees seen).finished o) :=
    congrArg State.jobs (State.updJob_updJob (s := s.endRequest) (f := Job.sees seen) (g := (·.finished o)) (fun _ => rfl))
  obtain ⟨stations, plan, l, hl, hst, hends⟩ := State.endJob_settles o hjob hroom
    (State.atRest_of_view hrest (by rw [State.dispatchView, hjobs]; rfl) (Nat.le_refl _))
  have hexec := (exec_loadDecision_of_serves stop hserves).trans (by rw [State.decisionRead, hend, hends, hjobs])
  exact ⟨_, hexec.trans (State.done_withRequests hserves.1 rfl rfl hl), ⟨hjobs.symm, rfl, hroom.2⟩, rfl, hst⟩

end

/-! ## The return (R64) -/

section
variable {s : State} {i : StationId} {j : Job}

/-- What a check that finds no stop leads to (R58). -/
theorem State.decideLoad_noStock (h : (s.st i).stock ≠ j.expo.stock) (hb : j.boundTo ≠ none) :
    s.decideLoad i j = s.endJob j.slotAddr .noStock := by
  simp [State.decideLoad, h, Option.isSome_iff_ne_none.2 hb]

theorem State.decideLoad_returns (h : (s.st i).stock ≠ j.expo.stock) (hb : j.boundTo = none) : s.decideLoad i j = s.returnJob j := by
  simp [State.decideLoad, h, hb]

theorem State.decideLoad_sheetLimit (h : (s.st i).stock = j.expo.stock) (hl : 16 ≤ j.sheets.length) :
    s.decideLoad i j = s.endJob j.slotAddr .sheetLimit := by
  simp [State.decideLoad, h, Config.sheetLimit, hl]

theorem State.decideLoad_unfit (h : (s.st i).stock = j.expo.stock) (hl : j.sheets.length < 16)
    (hw : j.expo.allowance < (chooseWindow (s.cal i).statuses j.ew).2) : s.decideLoad i j = s.endJob j.slotAddr .unfitStation := by
  simp [State.decideLoad, h, Config.sheetLimit, Nat.not_le.2 hl, hw]

theorem State.decideLoad_waits (h : (s.st i).stock = j.expo.stock) (hl : j.sheets.length < 16)
    (hw : (chooseWindow (s.cal i).statuses j.ew).2 ≤ j.expo.allowance) (hsupply : (s.st i).supply = 0) :
    s.decideLoad i j = s.updJob j.slotAddr (fun k => { k with state := .supplyWait }) := by
  simp [State.decideLoad, h, Config.sheetLimit, Nat.not_le.2 hl, Nat.not_lt.2 hw, hsupply]

/-- The doze timer of an idle station that runs none, loaded unless it is off (R72). -/
def Station.dozes (delay : Nat) (x : Station) : Station :=
  { x with dozeTimer := if delay ≠ 0 ∧ x.dozeTimer = none then some delay else x.dozeTimer }

/-- A READY station that has nothing to do loads its doze timer, unless that runs or is off. -/
theorem State.dozeIfIdle_of_ready (hready : (s.st i).state = .ready) (hatt : s.attached i = none)
    (hmarked : (s.cal i).marked = false) (hqueue : i ∉ s.photometerQueue) :
    s.dozeIfIdle i = s.updSt i (Station.dozes s.timing.dozeDelay) := by
  by_cases hc : s.timing.dozeDelay ≠ 0 ∧ (s.st i).dozeTimer = none
  · have hidle : s.idle i = true := by simp [State.idle, hready, hatt, hmarked, hqueue, hc.1]
    rw [State.dozeIfIdle, if_pos (by simp [hidle, hc.2])]
    exact State.updSt_congr (by simp [Station.dozes, hc])
  · have hno : ¬(s.idle i && (s.st i).dozeTimer.isNone) = true := by
      simp only [State.idle, Bool.and_eq_true, bne_iff_ne, Option.isNone_iff_eq_none]
      exact fun h => hc ⟨h.1.2, h.2⟩
    have hsame : (s.st i).dozes s.timing.dozeDelay = s.st i := by simp only [Station.dozes, if_neg hc]
    rw [State.dozeIfIdle, if_neg hno, State.updSt_congr (g := fun x => x) hsame, State.updSt_id]

/-- A job that returns from a READY station with nothing else to do, its stock carried somewhere: no request of its station's
being outstanding, the job is QUEUED and the station left to its doze timer (R57, R64, R72). -/
theorem State.makeReturn_of_ready (hn : (s.jobs.map (·.slotAddr)).Nodup) (hj : s.attached i = some j)
    (halone : ∀ k ∈ s.jobs, k.station = some i → k = j) (hmay : s.mayDecide i = true) (hstock : s.stockCarried j = true)
    (harr : s.port.arriving = []) (hlist : ∀ r ∈ s.port.list, ofControl i r = false) :
    s.makeReturn j = (s.updJob j.slotAddr Job.returned).updSt i (Station.dozes s.timing.dozeDelay) := by
  obtain ⟨hmem, hst⟩ := State.attached_spec hj
  have hwith : s.withdraw (ofControl i) = s := State.withdraw_of_none (by simp [harr]) hlist
  have hatt : (s.updJob j.slotAddr Job.returned).attached i = none := by
    refine List.find?_eq_none.2 (fun k hk => ?_)
    obtain ⟨q, hq, rfl⟩ := List.mem_map.1 hk
    split
    · simp [Job.returned]
    next hne => simpa using fun hqi => hne (halone q hq hqi ▸ rfl)
  have hspec : (s.st i).state = .ready ∧ i ∉ s.photometerQueue ∧ (s.cal i).marked = false := by
    simp only [State.mayDecide, Bool.and_eq_true, beq_iff_eq, Bool.not_eq_true'] at hmay
    exact ⟨hmay.1.1, by simpa using hmay.1.2, hmay.2⟩
  obtain ⟨hready, hqueue, hmarked⟩ := hspec
  have hdozes := State.dozeIfIdle_of_ready (s := s.updJob j.slotAddr Job.returned) (i := i) hready hatt hmarked hqueue
  have hjob : ((s.updJob j.slotAddr Job.returned).updSt i (Station.dozes s.timing.dozeDelay)).job j.slotAddr = some j.returned := by
    refine (State.job_updJob (f := Job.returned) (fun _ => rfl) j.slotAddr).trans ?_
    rw [State.job_of_attached hn hj]
    exact congrArg some (if_pos rfl)
  have hcarried : ((s.updJob j.slotAddr Job.returned).updSt i (Station.dozes s.timing.dozeDelay)).stockCarried j.returned = true := by
    have hsame : ∀ k, (((s.updJob j.slotAddr Job.returned).updSt i (Station.dozes s.timing.dozeDelay)).st k).stock = (s.st k).stock := by
      intro k
      rw [State.st_updSt]
      split <;> rfl
    simpa only [State.stockCarried, hsame, Job.returned] using hstock
  unfold State.makeReturn
  simp only [hst, hwith]
  rw [show s.updJob j.slotAddr (fun j => { j with station := none, returnPending := false, state := .queued }) =
    s.updJob j.slotAddr Job.returned from rfl, hdozes]
  rw [show (s.updJob j.slotAddr Job.returned).timing.dozeDelay = s.timing.dozeDelay from rfl, hjob]
  exact State.testStock_carried hcarried

end

/-- Settles O33: each check by what `State.decideLoad` does at it, the ends by `State.endJob_settles`, the return by
`State.makeReturn_of_ready`. -/
theorem loadDecisionChecks : Obligations.LoadDecisionChecks := by
  refine ⟨fun s i n stop j hserves hj hs he hseen hmay hroom hn => ?_, fun s i n j hserves hj hs he hseen hmay hb hstock hcarried hn
    halone hlist => ⟨fun hfull hrest => ?_, fun hfree hrest => ?_⟩⟩
  · have hdecides : stop = 0 → s.endRequest.loadDecision i (stop != 0) = s.endRequest.decideLoad i j := by
      rintro rfl
      exact State.loadDecision_decides (s := s.endRequest) hj hs he hseen hmay
    have hsame : s.endRequest.updJob j.slotAddr (Job.sees false) = s.endRequest := by
      rw [show Job.sees false = fun k => k from funext Job.sees_false]; exact State.updJob_id _ _
    have hends : ∀ {o : TicketOutcome}, stop = 0 → s.endRequest.decideLoad i j = s.endRequest.endJob j.slotAddr o →
        s.endRequest.loadDecision i (stop != 0) = (s.endRequest.updJob j.slotAddr (Job.sees false)).endJob j.slotAddr o :=
      fun h0 hd => by rw [hsame, hdecides h0, hd]
    refine ⟨fun hstop hrest => ?_, fun h0 hstock hb hrest => ?_, fun h0 hstock hl hrest => ?_, fun h0 hstock hl hw hrest => ?_,
      fun h0 hstock hl hw hsupply hrest => ?_⟩
    · refine exec_loadDecision_ends (seen := true) hserves hj hn hroom ?_ hrest
      rw [bne_iff_ne.2 hstop]
      exact State.loadDecision_stops (s := s.endRequest) hj hs he hmay
    · exact exec_loadDecision_ends hserves hj hn hroom (hends h0 (State.decideLoad_noStock (s := s.endRequest) hstock hb)) hrest
    · exact exec_loadDecision_ends hserves hj hn hroom (hends h0 (State.decideLoad_sheetLimit (s := s.endRequest) hstock hl)) hrest
    · exact exec_loadDecision_ends hserves hj hn hroom (hends h0 (State.decideLoad_unfit (s := s.endRequest) hstock hl hw)) hrest
    · have hrest' : (s.endRequest.updJob j.slotAddr (fun k => { k with state := .supplyWait })).atRest := by
        refine State.atRest.updJob (State.atRest_of_view (u := s.endRequest) hrest rfl (Nat.le_refl _)) (fun _ => rfl) (fun k hk ha => ?_)
          (.inr (fun k _ _ hp he => ⟨hp, he⟩))
        rw [State.eq_attached_of_slotAddr hn hj hk ha]
        rcases hs with hs | hs <;> simp [hs]
      rw [exec_loadDecision_of_serves stop hserves, State.decisionRead, hdecides h0,
        State.decideLoad_waits (s := s.endRequest) hstock hl hw hsupply, State.settle_of_rest hrest']
      exact State.done_endRequest_none hserves.1 rfl rfl
  · have hnq : j.state ≠ .queued := by rcases hs with hs | hs <;> simp [hs]
    have hfull' : s.endRequest.roomForReturn = false := hfull
    have hret : s.endRequest.loadDecision i false = s.endRequest.updJob j.slotAddr (fun k => { k with returnPending := true }) := by
      rw [State.loadDecision_decides (s := s.endRequest) hj hs he hseen hmay, State.decideLoad_returns (s := s.endRequest) hstock hb,
        State.returnJob, if_neg (by simp [hfull'])]
    have hrest' : (s.endRequest.updJob j.slotAddr (fun k => { k with returnPending := true })).atRest := by
      refine State.atRest.updJob (State.atRest_of_view (u := s.endRequest) hrest rfl (Nat.le_refl _)) (fun _ => rfl) (fun k hk ha => ?_)
        (.inl hfull')
      rw [State.eq_attached_of_slotAddr hn hj hk ha]
      exact ⟨hnq, hnq⟩
    rw [exec_loadDecision_of_serves 0 hserves, State.decisionRead, show ((0 : Word) != 0) = false from rfl, hret,
      State.settle_of_rest hrest']
    exact State.done_endRequest_none hserves.1 rfl rfl
  · have hfree' : s.endRequest.roomForReturn = true := hfree
    have hret : s.endRequest.loadDecision i false =
        (s.endRequest.updJob j.slotAddr Job.returned).updSt i (Station.dozes s.timing.dozeDelay) := by
      rw [State.loadDecision_decides (s := s.endRequest) hj hs he hseen hmay, State.decideLoad_returns (s := s.endRequest) hstock hb,
        State.returnJob, if_pos hfree']
      exact State.makeReturn_of_ready (s := s.endRequest) hn hj halone hmay hcarried (by simp [State.endRequest, hserves.1])
        (by simpa [State.endRequest] using hlist)
    have hdozes : s.dozesAlone (s.updSt i (Station.dozes s.timing.dozeDelay)) := by
      intro q
      rw [State.st_updSt]
      split <;> rfl
    have hrest' : ((s.endRequest.updJob j.slotAddr Job.returned).updSt i (Station.dozes s.timing.dozeDelay)).atRest :=
      State.atRest_of_dozesAlone hrest rfl rfl rfl rfl rfl hdozes
    rw [exec_loadDecision_of_serves 0 hserves, State.decisionRead, show ((0 : Word) != 0) = false from rfl, hret,
      State.settle_of_rest hrest']
    exact State.done_endRequest_none hserves.1 rfl rfl

end Sys2Proof.Machine
end


section
/-! PROOFS. Two statements of the services that fail at states no run meets, for both suppose of a queued job that it is at no
station: SUPPLY_SET's match (R54, R55), and STATION_RESET with a job attached and no room for its return (R64, R86). -/

namespace Sys2Proof.Machine

/-- A queued job of the slot at `a` that needs stock `stock`, its context at a station all the same. -/
def queuedAt (place : Option StationId) (a : Addr) (stock : Nat) : Job :=
  { slot := a.toNat, slotAddr := a, post := a.toNat, ticket := 0,
    layout := { rows := 1, cols := 1, titleMag := 1, titleLines := 0, w := 64, h := 64, pitchX := 64, pitchY := 64, x0 := 0,
                y0 := 0, t := 0, title := [] },
    ew := 64, lines := 64, frames := 1, indexCap := 0,
    expo := { stock := stock, tone := 0, allowance := 0, gain := 0, textLevel := 0, lineTicks := 0, margin := 0 },
    clamped := false, mask := 0, bufAddr := 0, bufSize := 0, pageCount := 1, nextPage := 0, planned := 1, state := .queued,
    station := place, boundTo := none, lastStation := none, returnPending := false, stopSeen := false, sheets := [],
    counts := { exposed := 0, failedRead := 0, rejected := 0, notExposed := 0, lost := 0 }, totalHolds := 0,
    totalSaturated := 0, framesInJob := 0, snapshot := none, kept := [], fieldsWritten := 0, lostSheet := none,
    ending := none, outcome := none }

/-- A service of station S0 with first parameter 1. -/
def serviceAtS0 (k : ServiceKind) : Service :=
  { kind := k, station := .s0, selector := 0, p1 := 1, p2 := 0, p3 := 0, p4 := 0, bufAddr := 0, bufSize := 0 }

/-- The candidate of the service's slot, and the pass in which the service stands ready. -/
def serviceSlot : Candidate := { slot := 63, addr := 0xFC0, post := 63, ticket := 0 }

def servicePass (k : ServiceKind) : Pass :=
  { base := 0, slots := 64, phase := .service (serviceAtS0 k), candidates := [], current := some serviceSlot, place := false }

theorem atService_servicePass {s : State} {k : ServiceKind} (h : s.pass = some (servicePass k)) :
    s.atService (servicePass k) serviceSlot (serviceAtS0 k) := ⟨h, rfl, rfl⟩

/-! ## SUPPLY_SET: the match of a job that stands at another station frees that station -/

/-- S0 dozes without supply. S1 dozes with supply, and the job that S0 fits stands there, though it is queued; the other job
fits S1. -/
def dozingPair : State :=
  { (State.reset.updSt .s0 (fun x => { x with state := .dozing, stock := 1 })).updSt .s1
      (fun x => { x with state := .dozing, stock := 2, supply := 1 }) with
    jobs := [queuedAt (some .s1) 0 1, queuedAt none 0x40 2], pass := some (servicePass .supplySet) }

/-- `dozingPair` once the service has ended. -/
def dozingPairSupplied : State :=
  (((dozingPair.updSt .s0 (fun x => { x with supply := 1 })).settle).endService false).join

theorem exec_supplySet_dozingPair : exec .supplySet dozingPair = .next dozingPairSupplied := rfl

theorem dozingPair_calm : dozingPair.calm := rfl

/-- S1, that the first attach left free, has taken the second job in the same run of the dispatcher. -/
theorem dozingPairSupplied_states : dozingPairSupplied.jobs.map (·.state) = [.attached, .attached] := by decide

/-- Refutes O21: in `dozingPair` the match attaches the second job of the intake list too, and not the first alone. -/
theorem not_stockAndSupplySet : ¬ Obligations.StockAndSupplySet := by
  rintro ⟨-, -, attaches⟩
  obtain ⟨t, hexec, -, hjobs, -⟩ := attaches dozingPair (servicePass .supplySet) serviceSlot (serviceAtS0 .supplySet)
    (queuedAt (some .s1) 0 1) [] [queuedAt none 0x40 2] ⟨rfl, rfl⟩ dozingPair_calm (atService_servicePass rfl) rfl rfl rfl rfl
    (by decide) rfl rfl rfl (by decide) (by decide) (by decide) (by simp)
  cases hexec.symm.trans exec_supplySet_dozingPair
  have hstates := dozingPairSupplied_states
  rw [hjobs] at hstates
  exact absurd hstates (by decide)

/-! ## STATION_RESET: a queued job that stands at the station leaves the intake list, which lets a waiting return in -/

/-- The job that waits to return from S1. -/
def waitingReturn : Job := { queuedAt (some .s1) 0x400 1 with state := .attached, returnPending := true }

/-- S0 is powered, with a valid table and no mark. The intake list holds eight jobs, the first of which stands at S0. -/
def fullIntake : State :=
  { (State.reset.updSt .s0 (fun x => { x with state := .faulted, powered := true })).updCal .s0 (fun u => { u with valid := true }) with
    jobs := queuedAt (some .s0) 0 1 ::
      ([0x40, 0x80, 0xC0, 0x100, 0x140, 0x180, 0x1C0] : List Addr).map (queuedAt none · 1) ++ [waitingReturn],
    pass := some (servicePass .stationReset) }

/-- `fullIntake` once the service has ended. -/
def fullIntakeReset : State := ((fullIntake.resetStation .s0).endReset (some 0)).join

theorem exec_stationReset_fullIntake : exec .stationReset fullIntake = .next fullIntakeReset := rfl

theorem fullIntake_calm : fullIntake.calm := rfl

/-- S0 has taken its job back, and the place that job gave up has gone to the return that waited. -/
theorem fullIntakeReset_returns : fullIntakeReset.jobs.map (·.returnPending) = List.replicate 9 false := by decide

/-- Refutes O24: in `fullIntake` the reset has a return made that waits at another station, and does not change S0's job
alone. -/
theorem not_stationResetActs : ¬ Obligations.StationResetActs := by
  rintro ⟨-, returns, -, -⟩
  obtain ⟨-, noRoom⟩ := returns fullIntake (servicePass .stationReset) serviceSlot (serviceAtS0 .stationReset)
    (queuedAt (some .s0) 0 1) ⟨rfl, rfl⟩ (atService_servicePass rfl) rfl rfl rfl rfl rfl (by decide) (by decide) (by decide) (by decide)
    rfl (by decide)
  obtain ⟨-, unmarked⟩ := noRoom rfl
  obtain ⟨t, ⟨hexec, ⟨honly, -⟩, -⟩, -⟩ := unmarked ⟨rfl, rfl⟩ fullIntake_calm rfl
  cases hexec.symm.trans exec_stationReset_fullIntake
  have hreturns := fullIntakeReset_returns
  rw [show fullIntakeReset.jobs = _ from congrArg State.jobs honly] at hreturns
  exact absurd hreturns (by decide)

end Sys2Proof.Machine
end


section
/-! PROOFS. A fault that leaves the dispatcher nothing more to do (R69, R82): the lists left, the work dropped, the dispatcher at
rest behind a station that is FAULTED. -/

namespace Sys2Proof.Machine

/-! ## What a fault report does (R69) -/

/-- JAM and HEAD_FAULT are one report with two causes. -/
theorem exec_faultReport {s : State} {i : StationId} {c : Instr} {cause : FaultCause}
    (h : (c = .jam i ∧ cause = .jam) ∨ (c = .headFault i ∧ cause = .head)) :
    exec c s = if s.takesFault i then (s.enterFaulted i cause).done else .next s := by
  rcases h with ⟨rfl, rfl⟩ | ⟨rfl, rfl⟩ <;> rfl

theorem State.takesFault_iff {s : State} {i : StationId} :
    s.takesFault i = true ↔ (s.st i).state ≠ .parked ∧ (s.st i).state ≠ .faulted := by
  simp [State.takesFault]

/-! ## Every list left, with no permit to pass on (R82, R86) -/

theorem filter_ne_of_not_mem {i : StationId} {l : List StationId} (h : i ∉ l) : l.filter (· != i) = l :=
  List.filter_eq_self.2 (fun k hk => by simpa using fun he : k = i => h (he ▸ hk))

/-- Station `i` off every list, with its requests withdrawn. -/
def State.offLists (s : State) (i : StationId) : State :=
  { s.withdraw (ofStation i) with
    permitHolders := s.permitHolders.filter (· != i), permitQueue := s.permitQueue.filter (· != i),
    photometerQueue := s.photometerQueue.filter (· != i) }

section
variable {s : State} {i : StationId}

/-- The lists left up to the calibration, where no station waits for the permit. -/
theorem State.leaveAll_aborts (hpermit : i ∉ s.permitHolders ∨ s.permitQueue = []) :
    s.leaveAll i = (s.offLists i).abortCalibration i := by
  unfold State.leaveAll
  congr 1
  rcases ((s.withdraw (ofStation i)).leavePermitQueue i).returnPermit_cases i with ⟨hno, he⟩ | ⟨-, -, he⟩ | ⟨q, rest, hin, hq, -⟩
  · have hno' : i ∉ s.permitHolders := hno
    rw [he]
    unfold State.offLists
    rw [filter_ne_of_not_mem hno']
    rfl
  · rw [he]; rfl
  · have hmem : i ∈ s.permitHolders := hin
    have hnil : s.permitQueue = [] := hpermit.resolve_left (fun h => h hmem)
    simp [State.leavePermitQueue, hnil] at hq

theorem State.abortCalibration_none {u : State} (h : (u.cal i).flight = none) : u.abortCalibration i = u := by
  simp [State.abortCalibration, h]

/-! ## The work dropped (R63, R64) -/

variable {j : Job}

theorem State.loseSheet_of_none (h : (s.st i).sheet = none) : s.loseSheet i = s.updSt i Station.cleared := by
  simp [State.loseSheet, h]

/-- A station with no job has no work but its buffers. -/
theorem State.dropWork_free (hatt : s.attached i = none) (hstacked : (s.st i).stacked = none) :
    s.dropWork i = s.updSt i Station.cleared := by
  have hlose : s.loseSheet i = s.updSt i Station.cleared := by simp [State.loseSheet, hatt]
  simp [State.dropWork, hstacked, hlose, hatt]

/-- A job with no sheet returns. -/
theorem State.dropWork_returns (hj : s.attached i = some j) (he : j.ending = none) (hsheet : (s.st i).sheet = none)
    (hstacked : (s.st i).stacked = none) : s.dropWork i = (s.updSt i Station.cleared).returnJob j := by
  simp [State.dropWork, hstacked, State.loseSheet_of_none hsheet, hj, he]

/-- The job whose sheet is lost, ended. -/
def Job.lostAndEnded (sh : Sheet) (k : Job) : Job := (k.loseSheet sh).finished .sheetLost

/-- A sheet is lost, and its job ends at once when the dispatcher does not wait. -/
theorem State.dropWork_loses {sh : Sheet} (hj : s.attached i = some j) (hsheet : (s.st i).sheet = some sh)
    (hstacked : (s.st i).stacked = none) (halone : ∀ k ∈ s.jobs, k.station = some i → k.slotAddr = j.slotAddr)
    (hroom : s.listRoom 1) : s.dropWork i =
      ((s.updSt i Station.cleared).updJob j.slotAddr (Job.lostAndEnded sh)).addTask (.completion j.slotAddr) := by
  let u := (s.updSt i Station.cleared).updJob j.slotAddr (·.loseSheet sh)
  obtain ⟨hmem, -⟩ := State.attached_spec hj
  obtain ⟨k, hk⟩ : ∃ k, s.job j.slotAddr = some k :=
    Option.isSome_iff_exists.1 (List.find?_isSome.2 ⟨j, hmem, beq_self_eq_true _⟩)
  have hjob : u.job j.slotAddr = some (k.loseSheet sh) := by
    refine (State.job_updJob (s := s.updSt i Station.cleared) (f := fun q => q.loseSheet sh) (fun _ => rfl) j.slotAddr).trans ?_
    rw [show (s.updSt i Station.cleared).job j.slotAddr = some k from hk]
    exact congrArg some (if_pos (State.job_spec hk).2)
  have hlose : s.loseSheet i = (u.updJob j.slotAddr (·.finished .sheetLost)).addTask (.completion j.slotAddr) := by
    have hends : u.endJob j.slotAddr .sheetLost = u.finishJob j.slotAddr .sheetLost := by
      rw [State.endJob, if_neg]
      simp [show u.dispatcherWaits = false from hroom.not_dispatcherWaits]
    rw [← State.finishJob_unattached hjob rfl, ← hends]
    simp only [State.loseSheet, hsheet, hj]
    rfl
  have hended : u.updJob j.slotAddr (·.finished .sheetLost) =
      (s.updSt i Station.cleared).updJob j.slotAddr (Job.lostAndEnded sh) :=
    State.updJob_updJob (s := s.updSt i Station.cleared) (f := fun q => q.loseSheet sh) (fun _ => rfl)
  rw [hended] at hlose
  have hgone : (s.loseSheet i).attached i = none := by
    have hjobs : (s.loseSheet i).jobs = s.jobsWith j.slotAddr (Job.lostAndEnded sh) := by
      rw [hlose]
      exact congrArg State.jobs (State.addTask_spec _ _).1
    rw [State.attached, hjobs]
    refine List.find?_eq_none.2 (fun q hq => ?_)
    obtain ⟨p, hp, rfl⟩ := List.mem_map.1 hq
    split
    · simp [Job.lostAndEnded, Job.finished]
    next hne => simpa using fun hst => hne (halone p hp hst)
  rw [State.dropWork, if_neg (by simp [hstacked]), hgone, hlose]

/-! ## The writer's requests, and the end of the event -/

/-- The writer's requests are of no station. -/
theorem ofStation_of_writer {r : Request} (h : r.purpose.channel = .writer) (i : StationId) : ofStation i r = false := by
  simp [ofStation, ofControl, h]

/-- The end of an event that makes one request at most. -/
theorem State.done_of_few {u : State} (h : u.port.arriving.length ≤ 1) :
    ∃ port, u.done = .next { u with port := port } ∧ port.list = u.port.list ++ u.port.arriving := by
  match ha : u.port.arriving, h with
  | [], _ =>
    obtain ⟨port, hdone, hlist⟩ := State.done_of_none ha
    exact ⟨port, hdone, by simp [hlist]⟩
  | [r], _ => exact ⟨_, by rw [State.done, State.join_of_one ha], by simp⟩

end

/-! ## The dispatcher at rest behind a FAULTED station -/

/-- A dispatcher at rest stays so when a station enters FAULTED and the others are as they were. -/
theorem State.atRest_of_faulted {v u : State} {i : StationId} (h : v.atRest) (hw : u.waiters = v.waiters)
    (he : u.endQueue = v.endQueue) (hj : u.jobs = v.jobs) (hp : u.pass = v.pass) (hcals : ∀ k, k ≠ i → u.cal k = v.cal k)
    (hstate : (u.st i).state = .faulted) (hothers : ∀ k, k ≠ i → u.st k = v.st k) : u.atRest := by
  refine State.atRest_of_matches h hw he hj hp (fun k hk => ?_)
  have hki : k ≠ i := by
    rintro rfl
    simp [State.free, hstate] at hk
  refine ⟨(State.free_congr hj (hothers k hki)).symm.trans hk, funext (fun q => ?_)⟩
  rw [State.fitsJob, State.fitsJob, hothers k hki, hcals k hki]

/-! ## The station FAULTED -/

/-- A station FAULTED with its work dropped. -/
def Station.faultedOut (c : FaultCause) (x : Station) : Station :=
  { x.cleared.timersStopped with state := .faulted, cause := c }

/-- Station `i` FAULTED, off every list, with its work dropped and the ALERT count raised. -/
def State.faultedAt (s : State) (i : StationId) (c : FaultCause) : State :=
  ({ s.offLists i with alertCount := min 255 (s.alertCount + 1) } : State).updSt i (Station.faultedOut c)

section
variable {s : State} {i : StationId} {c : FaultCause}

/-- The state in which a fault drops the station's work: `State.faultedAt` but for what the work leaves. -/
def State.faultsAt (s : State) (i : StationId) (c : FaultCause) : State :=
  ({ s.offLists i with alertCount := min 255 (s.alertCount + 1) } : State).updSt i (Station.faultedBy c)

theorem State.faultsAt_cleared : (s.faultsAt i c).updSt i Station.cleared = s.faultedAt i c :=
  State.updSt_updSt _ _ _ _

/-- A fault at a station with no calibration in flight, where no station waits for its permit. -/
theorem State.enterFaulted_drops (hpermit : i ∉ s.permitHolders ∨ s.permitQueue = []) (hflight : (s.cal i).flight = none) :
    s.enterFaulted i c = ((s.faultsAt i c).dropWork i).settle := by
  have hleave : (s.updSt i (Station.faultedBy c)).leaveAll i = (s.updSt i (Station.faultedBy c)).offLists i :=
    (State.leaveAll_aborts (s := s.updSt i (Station.faultedBy c)) hpermit).trans
      (State.abortCalibration_none (u := (s.updSt i (Station.faultedBy c)).offLists i) hflight)
  rw [State.enterFaulted_eq, hleave]
  rfl

@[simp] theorem State.faultsAt_st : (s.faultsAt i c).st i = (s.st i).faultedBy c := State.st_updSt_same _ _ _
@[simp] theorem State.faultedAt_st : (s.faultedAt i c).st i = (s.st i).faultedOut c := State.st_updSt_same _ _ _
theorem State.faultedAt_st_other {k : StationId} (hk : k ≠ i) : (s.faultedAt i c).st k = s.st k :=
  State.st_updSt_other _ _ hk

/-- The requests of a FAULTED station are off the list. -/
theorem State.faultedAt_list : ∀ r ∈ (s.faultedAt i c).port.list, ofStation i r = false :=
  (s.withdraw_spec (ofStation i)).2.1

theorem State.faultedAt_arriving (h : s.port.arriving = []) : (s.faultedAt i c).port.arriving = [] :=
  State.withdraw_arriving h

/-- A station with no job faults, and nothing follows. -/
theorem State.enterFaulted_free (hatt : s.attached i = none) (hstacked : (s.st i).stacked = none)
    (hpermit : i ∉ s.permitHolders ∨ s.permitQueue = []) (hflight : (s.cal i).flight = none) (hrest : s.atRest) :
    s.enterFaulted i c = s.faultedAt i c := by
  rw [State.enterFaulted_drops hpermit hflight, State.dropWork_free (s := s.faultsAt i c) hatt (by rw [State.faultsAt_st]; exact hstacked),
    State.faultsAt_cleared]
  refine State.settle_of_rest (State.atRest_of_faulted (i := i) hrest rfl rfl rfl rfl (fun _ _ => rfl) ?_ (fun k hk => ?_))
  · rw [State.faultedAt_st]; rfl
  · exact State.faultedAt_st_other hk

/-- Off lists that it is on none of, with no request on the port, a station changes nothing. -/
theorem State.offLists_of_none (harr : s.port.arriving = []) (hlist : ∀ r ∈ s.port.list, ofStation i r = false)
    (hholds : i ∉ s.permitHolders) (hwaits : i ∉ s.permitQueue) (hqueue : i ∉ s.photometerQueue) : s.offLists i = s := by
  unfold State.offLists
  rw [State.withdraw_of_none (by simp [harr]) hlist, filter_ne_of_not_mem hholds, filter_ne_of_not_mem hwaits,
    filter_ne_of_not_mem hqueue]

end

end Sys2Proof.Machine
end


section
/-! PROOFS. A calibration aborted by a fault (R82, R150): the photometer free, or granted to the next station. -/

namespace Sys2Proof.Machine

section
variable {s : State} {i : StationId} {c : FaultCause}

/-- The photometer released with no station waiting for it. -/
theorem State.releasePhotometer_frees (h : s.photometer = some i) (hq : s.photometerQueue = []) :
    s.releasePhotometer i = { s with photometer := none } := by
  simp [State.releasePhotometer, h, hq]

/-- The photometer released with a station waiting for it. -/
theorem State.releasePhotometer_grants {q : StationId} {rest : List StationId} (h : s.photometer = some i)
    (hq : s.photometerQueue = q :: rest) :
    s.releasePhotometer i = ({ s with photometerQueue := rest } : State).grantPhotometer q := by
  simp [State.releasePhotometer, h, hq]

/-- No calibration is in flight at station `i`. -/
def State.uncalibrated (s : State) (i : StationId) : State := s.updCal i (fun u => { u with flight := none })

/-- A calibrating station as the fault's abort of its calibration leaves it, its work not yet dropped. -/
def Station.faultAborts (c : FaultCause) (x : Station) : Station :=
  { x.faultedBy c with settleTimer := none, moveOut := false }

/-- The calibration in flight aborted, the photometer not yet released. -/
def State.faultAborts (s : State) (i : StationId) (c : FaultCause) : State :=
  (s.uncalibrated i).updSt i (Station.faultAborts c)

@[simp] theorem State.faultAborts_st : (s.faultAborts i c).st i = (s.st i).faultAborts c := State.st_updSt_same _ _ _

/-- Every list left by a calibrating station that is on no other. -/
theorem State.leaveAll_calibrating {f : Calibration} (hfree : (s.uncalibrated i).unencumbered i)
    (hf : (s.cal i).flight = some f) (harr : s.port.arriving = []) :
    (s.updSt i (Station.faultedBy c)).leaveAll i = (s.faultAborts i c).releasePhotometer i := by
  obtain ⟨-, -, -, hholds, hwaits, -, hqueue, hlist⟩ := hfree
  let u := s.updSt i (Station.faultedBy c)
  have hoff : u.offLists i = u := State.offLists_of_none (s := u) harr hlist hholds hwaits hqueue
  have hsome : (u.cal i).flight.isSome = true := by rw [show (u.cal i).flight = some f from hf]; rfl
  have haborts : (u.updCal i (fun k => { k with flight := none })).updSt i (fun x => { x with settleTimer := none, moveOut := false }) =
      s.faultAborts i c := State.updSt_updSt (s.uncalibrated i) _ _ _
  rw [State.leaveAll_aborts (s := u) (.inl hholds), hoff, State.abortCalibration, if_pos hsome, haborts]

/-- A fault that aborts a calibration, up to what the dispatcher makes of it. -/
theorem State.enterFaulted_aborts {f : Calibration} {u : State} (hfree : (s.uncalibrated i).unencumbered i)
    (hf : (s.cal i).flight = some f) (harr : s.port.arriving = []) (hrelease : (s.faultAborts i c).releasePhotometer i = u)
    (hjobs : u.jobs = s.jobs) (hst : u.st i = (s.st i).faultAborts c) :
    s.enterFaulted i c = (u.alert.updSt i Station.cleared).settle := by
  obtain ⟨hnone, -, hempty, -⟩ := id hfree
  have hatt : u.alert.attached i = none := by
    rw [State.attached, show u.alert.jobs = s.jobs from hjobs]
    exact hnone
  have hstacked : (u.alert.st i).stacked = none := by
    rw [show u.alert.st i = _ from hst]
    exact hempty
  rw [State.enterFaulted_eq, State.leaveAll_calibrating hfree hf harr, hrelease, State.dropWork_free hatt hstacked]

/-- No station waits for the photometer: it is free. -/
theorem State.enterFaulted_frees {f : Calibration} (hfree : (s.uncalibrated i).unencumbered i)
    (hf : (s.cal i).flight = some f) (hphoto : s.photometer = some i) (hlast : s.photometerQueue = []) (harr : s.port.arriving = [])
    (hrest : s.atRest) : s.enterFaulted i c = State.updSt (State.uncalibrated { s with
      photometer := none, alertCount := min 255 (s.alertCount + 1) } i) i (Station.faultedOut c) := by
  have hrelease := State.releasePhotometer_frees (s := s.faultAborts i c) hphoto hlast
  have hcleared : (({ s.faultAborts i c with photometer := none } : State).alert).updSt i Station.cleared =
      State.updSt (State.uncalibrated { s with photometer := none, alertCount := min 255 (s.alertCount + 1) } i) i
        (Station.faultedOut c) :=
    State.updSt_updSt (State.uncalibrated { s with photometer := none, alertCount := min 255 (s.alertCount + 1) } i) i _ _
  rw [State.enterFaulted_aborts hfree hf harr hrelease rfl State.faultAborts_st, hcleared]
  refine State.settle_of_rest (State.atRest_of_faulted (i := i) hrest (by simp [State.uncalibrated]) (by simp [State.uncalibrated])
    (by simp [State.uncalibrated]) (by simp [State.uncalibrated]) (fun k hk => ?_) ?_ (fun k hk => ?_))
  · exact State.cal_updCal_other _ _ hk
  · rw [State.st_updSt_same]; rfl
  · exact State.st_updSt_other _ _ hk

/-- A station as the photometer's grant leaves it. -/
def Station.calibrates (x : Station) : Station :=
  { x with state := .calibrating, dozeTimer := none, activity := .idle, drive := [], driveSaturated := 0, head := .photometer,
           moveOut := true }

theorem State.grantPhotometer_st (s : State) (q : StationId) : (s.grantPhotometer q).st q = (s.st q).calibrates :=
  State.st_updSt_same _ _ _

/-- A calibration unit with the calibration begun that the grant begins (R143). -/
def CalUnit.begun (u : CalUnit) (sheetPresent : Bool) : CalUnit := { u with flight := some (u.granted sheetPresent) }

theorem State.grantPhotometer_cal (s : State) (q : StationId) :
    (s.grantPhotometer q).cal q = (s.cal q).begun (s.st q).sheet.isSome :=
  State.cal_updCal_same { s with photometer := some q } q _

/-- A grant of the photometer leaves what the dispatcher keeps. -/
theorem State.grantPhotometer_dispatch (s : State) (q : StationId) : (s.grantPhotometer q).waiters = s.waiters ∧
    (s.grantPhotometer q).endQueue = s.endQueue ∧ (s.grantPhotometer q).jobs = s.jobs ∧ (s.grantPhotometer q).pass = s.pass :=
  ⟨rfl, rfl, rfl, rfl⟩

/-- A READY station that calibrates is as free as it was, and fits the same jobs (R54). -/
theorem State.atRest.grantPhotometer {q : StationId} (h : s.atRest) (hready : (s.st q).state = .ready) :
    (s.grantPhotometer q).atRest := by
  obtain ⟨-, -, hothers, -⟩ := s.grantPhotometer_spec q
  refine State.atRest_of_matches (u := s.grantPhotometer q) h rfl rfl rfl rfl (fun k hk => ?_)
  by_cases hkq : k = q
  · subst hkq
    have hst := s.grantPhotometer_st k
    refine ⟨?_, funext (fun p => ?_)⟩
    · rw [State.free, hst] at hk
      rw [State.free, hready]
      exact hk
    · rw [State.fitsJob, State.fitsJob, hst, s.grantPhotometer_cal k]
      rfl
  · obtain ⟨hst, hcal'⟩ := hothers k hkq
    refine ⟨(State.free_congr (v := s) (u := s.grantPhotometer q) rfl hst).symm.trans hk, funext (fun p => ?_)⟩
    rw [State.fitsJob, State.fitsJob, hst, hcal']

/-- The state of a fault whose calibration's abort grants the photometer to station `q`. -/
def State.faultGrants (s : State) (i q : StationId) (rest : List StationId) (c : FaultCause) : State :=
  ((({ s.faultAborts i c with photometerQueue := rest } : State).grantPhotometer q).alert).updSt i Station.cleared

theorem State.faultGrants_dispatch (s : State) (i q : StationId) (rest : List StationId) (c : FaultCause) :
    (s.faultGrants i q rest c).waiters = s.waiters ∧ (s.faultGrants i q rest c).endQueue = s.endQueue ∧
      (s.faultGrants i q rest c).jobs = s.jobs ∧ (s.faultGrants i q rest c).pass = s.pass := by
  simp [State.faultGrants, State.alert, State.grantPhotometer, State.faultAborts, State.uncalibrated]

theorem State.faultGrants_arbiters (s : State) (i q : StationId) (rest : List StationId) (c : FaultCause) :
    (s.faultGrants i q rest c).port = s.port ∧ (s.faultGrants i q rest c).ctrl = s.ctrl ∧
      (s.faultGrants i q rest c).photometer = some q ∧ (s.faultGrants i q rest c).photometerQueue = rest := by
  simp [State.faultGrants, State.alert, State.grantPhotometer, State.faultAborts, State.uncalibrated]

/-- A grant behind the abort changes the stations that are neither of the two as little as the abort did. -/
theorem State.faultGrants_spec {q : StationId} {rest : List StationId} (hiq : i ≠ q) :
    (s.faultGrants i q rest c).st i = (s.st i).faultedOut c ∧ (s.faultGrants i q rest c).st q = (s.st q).calibrates ∧
      ((s.faultGrants i q rest c).cal i).flight = none ∧
      (s.faultGrants i q rest c).cal q = (s.cal q).begun (s.st q).sheet.isSome ∧
      ∀ k, k ≠ i → k ≠ q → (s.faultGrants i q rest c).st k = s.st k ∧ (s.faultGrants i q rest c).cal k = s.cal k := by
  let w : State := { s.faultAborts i c with photometerQueue := rest }
  let u : State := (w.grantPhotometer q).alert
  obtain ⟨-, -, hothers, -⟩ := w.grantPhotometer_spec q
  have hcals : ∀ k, (s.faultGrants i q rest c).cal k = (w.grantPhotometer q).cal k := fun k =>
    (State.cal_updSt u i k _).trans (congrArg (PerStation.get · k) (State.alert_cals _))
  have hi := hothers i hiq
  have hq : ∀ k, k ≠ i → (s.faultAborts i c).st k = s.st k ∧ (s.faultAborts i c).cal k = s.cal k :=
    fun k hk => ⟨State.st_updSt_other _ _ hk, State.cal_updCal_other _ _ hk⟩
  refine ⟨?_, ?_, ?_, ?_, fun k hki hkq => ⟨?_, ?_⟩⟩
  · exact (State.st_updSt_same u i _).trans (congrArg Station.cleared (hi.1.trans State.faultAborts_st))
  · exact (State.st_updSt_other u _ hiq.symm).trans
      ((w.grantPhotometer_st q).trans (congrArg Station.calibrates (hq q hiq.symm).1))
  · exact (congrArg CalUnit.flight ((hcals i).trans hi.2)).trans (congrArg CalUnit.flight (State.cal_updCal_same s i _))
  · refine (hcals q).trans ((w.grantPhotometer_cal q).trans ?_)
    obtain ⟨hst, hcal⟩ := hq q hiq.symm
    exact congrArg₂ (fun (u : CalUnit) (x : Station) => u.begun x.sheet.isSome) hcal hst
  · exact (State.st_updSt_other u _ hki).trans ((hothers k hkq).1.trans (hq k hki).1)
  · exact (hcals k).trans ((hothers k hkq).2.trans (hq k hki).2)

/-- A station waits for the photometer, in READY: it calibrates. -/
theorem State.enterFaulted_grants {f : Calibration} {q : StationId} {rest : List StationId} (hfree : (s.uncalibrated i).unencumbered i)
    (hf : (s.cal i).flight = some f) (hphoto : s.photometer = some i) (hnext : s.photometerQueue = q :: rest)
    (hready : (s.st q).state = .ready) (harr : s.port.arriving = []) (hrest : s.atRest) :
    s.enterFaulted i c = s.faultGrants i q rest c := by
  obtain ⟨-, -, -, -, -, -, hqueue, -⟩ := id hfree
  have hiq : i ≠ q := by
    rintro rfl
    exact hqueue (by rw [show (s.uncalibrated i).photometerQueue = s.photometerQueue from rfl, hnext]; simp)
  let w : State := { s.faultAborts i c with photometerQueue := rest }
  have hrelease : (s.faultAborts i c).releasePhotometer i = w.grantPhotometer q :=
    State.releasePhotometer_grants (s := s.faultAborts i c) hphoto hnext
  obtain ⟨-, -, hothers, -⟩ := w.grantPhotometer_spec q
  have hsti : (w.grantPhotometer q).st i = (s.st i).faultAborts c := (hothers i hiq).1.trans State.faultAborts_st
  have hwjobs : (w.grantPhotometer q).jobs = s.jobs := by simp [w, State.grantPhotometer, State.faultAborts, State.uncalibrated]
  have hfaults : s.enterFaulted i c = (s.faultGrants i q rest c).settle :=
    State.enterFaulted_aborts (u := w.grantPhotometer q) hfree hf harr hrelease hwjobs hsti
  obtain ⟨hst, hstq, -, hcalq, hrest'⟩ := State.faultGrants_spec (s := s) (c := c) (rest := rest) hiq
  obtain ⟨-, -, hothersq, -⟩ := s.grantPhotometer_spec q
  rw [hfaults]
  obtain ⟨hwaiters, hevents, hjobs, hpass⟩ := s.grantPhotometer_dispatch q
  obtain ⟨hwaiters', hevents', hjobs', hpass'⟩ := s.faultGrants_dispatch i q rest c
  refine State.settle_of_rest (State.atRest_of_faulted (i := i) (hrest.grantPhotometer hready) (hwaiters'.trans hwaiters.symm)
    (hevents'.trans hevents.symm) (hjobs'.trans hjobs.symm) (hpass'.trans hpass.symm) (fun k hk => ?_)
    (congrArg Station.state hst) (fun k hk => ?_))
  · by_cases hkq : k = q
    · subst hkq
      exact hcalq.trans (s.grantPhotometer_cal k).symm
    · exact (hrest' k hk hkq).2.trans (hothersq k hkq).2.symm
  · by_cases hkq : k = q
    · subst hkq
      exact hstq.trans (s.grantPhotometer_st k).symm
    · exact (hrest' k hk hkq).1.trans (hothersq k hkq).1.symm

end

end Sys2Proof.Machine
end


section
/-! PROOFS. FAULTED with a job (R63, R64, R82, R83): the job returned or its return left pending, the sheet lost. -/

namespace Sys2Proof.Machine

section
variable {s : State} {i : StationId} {c : FaultCause} {j : Job}

/-! ## What a fault leaves -/

@[simp] theorem State.faultedAt_jobs (s : State) (i : StationId) (c : FaultCause) : (s.faultedAt i c).jobs = s.jobs := by simp [State.faultedAt, State.offLists]
@[simp] theorem State.faultedAt_pass (s : State) (i : StationId) (c : FaultCause) : (s.faultedAt i c).pass = s.pass := by simp [State.faultedAt, State.offLists]
@[simp] theorem State.faultedAt_waiters (s : State) (i : StationId) (c : FaultCause) : (s.faultedAt i c).waiters = s.waiters := by simp [State.faultedAt, State.offLists]
@[simp] theorem State.faultedAt_endQueue (s : State) (i : StationId) (c : FaultCause) : (s.faultedAt i c).endQueue = s.endQueue := by simp [State.faultedAt, State.offLists]
@[simp] theorem State.faultedAt_tasks (s : State) (i : StationId) (c : FaultCause) : (s.faultedAt i c).tasks = s.tasks := by simp [State.faultedAt, State.offLists]
@[simp] theorem State.faultedAt_cals (s : State) (i : StationId) (c : FaultCause) : (s.faultedAt i c).cals = s.cals := by simp [State.faultedAt, State.offLists]

/-- Station `i` FAULTED with its work dropped, the ALERT count raised, and nothing else changed. -/
def State.faultedHere (s : State) (i : StationId) (c : FaultCause) : State :=
  ({ s with alertCount := min 255 (s.alertCount + 1) } : State).updSt i (Station.faultedOut c)

/-- A fault of a station with no permit: nothing of the arbiters' but the photometer queue is touched. -/
theorem State.faultedAt_eq (hholds : i ∉ s.permitHolders) (hwaits : i ∉ s.permitQueue) : s.faultedAt i c =
    { s.faultedHere i c with
      port := (s.withdraw (ofStation i)).port, photometerQueue := s.photometerQueue.filter (· != i) } := by
  unfold State.faultedAt State.offLists
  rw [filter_ne_of_not_mem hholds, filter_ne_of_not_mem hwaits]
  rfl

/-- A fault while no station waits for a permit: the holder's is free, and the waiting list as it was. -/
theorem State.faultedAt_frees (hpermits : s.permitQueue = []) : s.faultedAt i c =
    { s.faultedHere i c with
      port := (s.withdraw (ofStation i)).port, permitHolders := s.permitHolders.filter (· != i),
      photometerQueue := s.photometerQueue.filter (· != i) } := by
  have hqueue : s.permitQueue.filter (· != i) = s.permitQueue := by rw [hpermits]; rfl
  unfold State.faultedAt State.offLists
  rw [hqueue]
  rfl

/-- The stock that the stations carry is what it was. -/
theorem State.faultedAt_stockCarried (q : Job) : (s.faultedAt i c).stockCarried q = s.stockCarried q := by
  have hstock : ∀ k, ((s.faultedAt i c).st k).stock = (s.st k).stock := by
    intro k
    by_cases hk : k = i
    · rw [hk, State.faultedAt_st]; rfl
    · rw [State.faultedAt_st_other hk]
  simp only [State.stockCarried, hstock]

theorem State.roomForReturn_congr {u v : State} (hj : u.jobs = v.jobs) (hp : u.pass = v.pass) :
    u.roomForReturn = v.roomForReturn := by
  rw [State.roomForReturn, State.intakeCount, State.intake, State.placeHeld, hj, hp]
  rfl

/-! ## A job with no sheet (R64) -/

/-- A job that is alone in its slot is found there. -/
theorem State.job_of_alone (hj : s.attached i = some j) (halone : ∀ k ∈ s.jobs, k.slotAddr = j.slotAddr → k = j) :
    s.job j.slotAddr = some j := by
  obtain ⟨k, hk⟩ := Option.isSome_iff_exists.1
    (List.find?_isSome.2 ⟨j, (State.attached_spec hj).1, beq_self_eq_true j.slotAddr⟩ : (s.job j.slotAddr).isSome)
  obtain ⟨hmem, hslot⟩ := State.job_spec hk
  exact hk.trans (congrArg some (halone k hmem hslot))

/-- A job that returns from a station that is not READY and has no reading outstanding, its stock carried somewhere, changes alone
(R57, R64). -/
theorem State.makeReturn_of_unready (hjob : s.job j.slotAddr = some j) (hst : j.station = some i)
    (hstate : (s.st i).state ≠ .ready) (harr : s.port.arriving = []) (hlist : ∀ r ∈ s.port.list, ofControl i r = false)
    (hcarried : s.stockCarried j = true) : s.makeReturn j = s.updJob j.slotAddr Job.returned := by
  have hidle : (s.updJob j.slotAddr Job.returned).dozeIfIdle i = s.updJob j.slotAddr Job.returned := by
    have hno : (s.updJob j.slotAddr Job.returned).idle i = false := by
      simp [State.idle, hstate]
    simp [State.dozeIfIdle, hno]
  have hjob' : (s.updJob j.slotAddr Job.returned).job j.slotAddr = some j.returned := by
    rw [State.job_updJob (f := Job.returned) (fun _ => rfl), hjob]
    exact congrArg some (if_pos rfl)
  unfold State.makeReturn
  simp only [hst, State.withdraw_of_none (s := s) (p := ofControl i) (by simp [harr]) hlist]
  rw [show s.updJob j.slotAddr (fun j => { j with station := none, returnPending := false, state := .queued }) =
    s.updJob j.slotAddr Job.returned from rfl, hidle, hjob']
  exact State.testStock_carried (s := s.updJob j.slotAddr Job.returned) (j := j.returned) hcarried

section
variable (hj : s.attached i = some j) (he : j.ending = none) (hsheet : (s.st i).sheet = none)
  (hstacked : (s.st i).stacked = none) (hholds : i ∉ s.permitHolders) (hflight : (s.cal i).flight = none)
include hj he hsheet hstacked hholds hflight

/-- A job with no sheet is returned at a fault. -/
theorem State.enterFaulted_returns : s.enterFaulted i c = ((s.faultedAt i c).returnJob j).settle := by
  have hst : (s.faultsAt i c).st i = (s.st i).faultedBy c := State.faultsAt_st
  rw [State.enterFaulted_drops (.inl hholds) hflight,
    State.dropWork_returns (s := s.faultsAt i c) hj he (by rw [hst]; exact hsheet) (by rw [hst]; exact hstacked),
    State.faultsAt_cleared]

/-- The intake list has room: the job is QUEUED again. -/
theorem State.enterFaulted_queues (halone : ∀ k ∈ s.jobs, k.slotAddr = j.slotAddr → k = j) (harr : s.port.arriving = [])
    (hroom : s.roomForReturn = true) (hcarried : s.stockCarried j = true)
    (hrest : ((s.faultedAt i c).updJob j.slotAddr Job.returned).atRest) :
    s.enterFaulted i c = (s.faultedAt i c).updJob j.slotAddr Job.returned := by
  have hroom' : (s.faultedAt i c).roomForReturn = true :=
    (State.roomForReturn_congr (s.faultedAt_jobs i c) (s.faultedAt_pass i c)).trans hroom
  have hjob : (s.faultedAt i c).job j.slotAddr = some j := by
    rw [State.job, State.faultedAt_jobs]
    exact State.job_of_alone hj halone
  have hstate : ((s.faultedAt i c).st i).state ≠ .ready := by
    rw [State.faultedAt_st]
    simp [Station.faultedOut]
  have hlist : ∀ r ∈ (s.faultedAt i c).port.list, ofControl i r = false := fun r hr =>
    (Bool.or_eq_false_iff.1 (State.faultedAt_list r hr)).1
  have hcarried' : (s.faultedAt i c).stockCarried j = true := (State.faultedAt_stockCarried j).trans hcarried
  rw [State.enterFaulted_returns hj he hsheet hstacked hholds hflight, State.returnJob, if_pos hroom',
    State.makeReturn_of_unready hjob (State.attached_spec hj).2 hstate (State.faultedAt_arriving harr) hlist hcarried']
  exact State.settle_of_rest hrest

/-- It has none: the return stays pending. -/
theorem State.enterFaulted_pends (hroom : s.roomForReturn = false)
    (hrest : ((s.faultedAt i c).updJob j.slotAddr (fun k => { k with returnPending := true })).atRest) :
    s.enterFaulted i c = (s.faultedAt i c).updJob j.slotAddr (fun k => { k with returnPending := true }) := by
  have hroom' : (s.faultedAt i c).roomForReturn = false :=
    (State.roomForReturn_congr (s.faultedAt_jobs i c) (s.faultedAt_pass i c)).trans hroom
  rw [State.enterFaulted_returns hj he hsheet hstacked hholds hflight, State.returnJob, if_neg (by simp [hroom'])]
  exact State.settle_of_rest hrest

end

/-- A fault of a job without a sheet, in the words of the statement: `f` says what becomes of the job. -/
theorem exec_faultReport_job {r : Instr} {f : Job → Job} (hs : s.settled)
    (hexec : exec r s = (s.enterFaulted i c).done) (hholds : i ∉ s.permitHolders) (hwaits : i ∉ s.permitQueue)
    (hfault : ((s.faultedAt i c).updJob j.slotAddr f).atRest → s.enterFaulted i c = (s.faultedAt i c).updJob j.slotAddr f)
    (hrest : ({ s.faultedHere i c with
      jobs := s.jobsWith j.slotAddr f, photometerQueue := s.photometerQueue.filter (· != i) } : State).atRest) :
    ∃ t, exec r s = .next t ∧ t = { s.faultedHere i c with
        jobs := s.jobsWith j.slotAddr f, photometerQueue := s.photometerQueue.filter (· != i), port := t.port } ∧
      ∀ q ∈ t.port.list, ofStation i q = false := by
  have heq := State.faultedAt_eq (c := c) hholds hwaits
  have hfaults : s.enterFaulted i c = (s.faultedAt i c).updJob j.slotAddr f := by
    refine hfault (State.atRest_of_view hrest ?_ (Nat.le_of_eq ?_))
    · rw [heq]; rfl
    · rw [heq]; rfl
  obtain ⟨port, hdone, hlist⟩ := State.done_of_none (u := (s.faultedAt i c).updJob j.slotAddr f)
    (State.faultedAt_arriving (c := c) hs.1)
  refine ⟨_, by rw [hexec, hfaults, hdone], ?_, fun q hq => ?_⟩
  · rw [heq]; rfl
  · exact State.faultedAt_list (c := c) q (hlist ▸ hq)

/-! ## A sheet lost (R63, R83) -/

/-- A sheet lost at a fault: the job ends, its completion task joins the write list, and nothing follows. -/
theorem State.enterFaulted_loses {sh : Sheet} (hj : s.attached i = some j) (hsheet : (s.st i).sheet = some sh)
    (hstacked : (s.st i).stacked = none) (halone : ∀ k ∈ s.jobs, k.station = some i → k.slotAddr = j.slotAddr)
    (hflight : (s.cal i).flight = none) (hpermits : s.permitQueue = []) (hroom : s.listRoom 1)
    (hrest : ({ s with jobs := s.jobsWith j.slotAddr (Job.lostAndEnded sh) } : State).atRest) (harr : s.port.arriving = []) :
    ∃ plan port, (s.enterFaulted i c).done = .next { s.faultedAt i c with
        port := port, plan := plan, tasks := s.tasks ++ [.completion j.slotAddr],
        jobs := s.jobsWith j.slotAddr (Job.lostAndEnded sh) } ∧
      ∀ r ∈ port.list, ofStation i r = false := by
  have hst : (s.faultsAt i c).st i = (s.st i).faultedBy c := State.faultsAt_st
  have hroom' : (s.faultsAt i c).listRoom 1 := hroom
  have hdrop := State.dropWork_loses (s := s.faultsAt i c) (sh := sh) hj (by rw [hst]; exact hsheet)
    (by rw [hst]; exact hstacked) halone hroom'
  rw [State.faultsAt_cleared] at hdrop
  let w := (s.faultedAt i c).updJob j.slotAddr (Job.lostAndEnded sh)
  have hwjobs : w.jobs = s.jobsWith j.slotAddr (Job.lostAndEnded sh) := by
    simp only [w, State.updJob, State.faultedAt_jobs, State.jobsWith]
  obtain ⟨plan, l, hl, hadd⟩ := State.addTask_of_room (s := w) (.completion j.slotAddr) hroom'
  have hwarr : w.port.arriving = [] := State.faultedAt_arriving (c := c) harr
  have hwriter : ∀ r ∈ l, ofStation i r = false := by
    intro r hr
    have harrives : r ∈ (w.addTask (.completion j.slotAddr)).port.arriving := by
      rw [hadd]; exact List.mem_append_right _ hr
    exact ofStation_of_writer ((State.addTask_arriving harrives).resolve_left (by simp [hwarr])) i
  let u : State := ({ w with tasks := w.tasks ++ [.completion j.slotAddr], plan := plan } : State).withRequests l
  have hfaults : s.enterFaulted i c = u := by
    rw [State.enterFaulted_drops (.inr hpermits) hflight, hdrop, hadd]
    refine State.settle_of_rest (State.atRest_of_faulted (u := u) (i := i) hrest (s.faultedAt_waiters i c)
      (s.faultedAt_endQueue i c) hwjobs (s.faultedAt_pass i c) (fun k _ => ?_) ?_ (fun k hk => State.faultedAt_st_other hk))
    · exact congrArg (PerStation.get · k) (s.faultedAt_cals i c)
    · exact (congrArg Station.state (State.faultedAt_st (s := s) (i := i) (c := c))).trans rfl
  obtain ⟨port, hdone, hlist⟩ := State.done_of_few (u := u) (by simpa [u, State.withRequests, hwarr] using hl)
  refine ⟨plan, port, ?_, fun r hr => ?_⟩
  · rw [hfaults, hdone]
    simp only [u, w, State.withRequests, State.updJob, State.faultedAt_jobs, State.faultedAt_tasks, State.jobsWith]
  · rw [hlist, List.mem_append] at hr
    refine hr.elim (fun hr => State.faultedAt_list (c := c) r hr) (fun hr => hwriter r ?_)
    simpa [u, State.withRequests, hwarr] using hr

end

end Sys2Proof.Machine
end


section
/-! PROOFS. An exposure that others' events leave alone: the permits, and what an EXPOSING station does and drives, through every
shared operation of the dispatcher (R55, R64, R65, R118). -/

namespace Sys2Proof.Machine

/-- The permits, and a station's state, activity and drive. -/
structure ExposureView where
  holders : List StationId
  queue : List StationId
  state : StationState
  activity : Activity
  drive : List Nat

def State.exposureAt (s : State) (q : StationId) : ExposureView :=
  { holders := s.permitHolders, queue := s.permitQueue, state := (s.st q).state, activity := (s.st q).activity,
    drive := (s.st q).drive }

section
variable {q : StationId}

/-! ## Changes that it does not see -/

theorem State.exposureAt_of_behind {s t : State} (h : t.behindScanner = s.behindScanner) : t.exposureAt q = s.exposureAt q := by
  have hst : t.st q = s.st q := congrArg (PerStation.get · q) (show t.stations = s.stations from congrArg (·.stations) h)
  simp only [State.exposureAt, hst, show t.permitHolders = s.permitHolders from congrArg (·.permitHolders) h,
    show t.permitQueue = s.permitQueue from congrArg (·.permitQueue) h]

theorem State.exposureAt_addTask (s : State) (k : Task) : (s.addTask k).exposureAt q = s.exposureAt q :=
  State.exposureAt_of_behind (s.addTask_spec k).1

theorem State.exposureAt_askStop (s : State) (i : StationId) (p : Purpose) : (s.askStop i p).exposureAt q = s.exposureAt q :=
  State.exposureAt_of_behind (s.askStop_scanOnly i p).1

/-- A change of another station. -/
theorem State.exposureAt_elsewhere (s : State) {i : StationId} (f : Station → Station) (h : q ≠ i) :
    (s.updSt i f).exposureAt q = s.exposureAt q := by
  simp only [State.exposureAt, State.st_updSt_other s f h]
  rfl

/-- A change of any station in neither its state, its activity nor its drive. -/
theorem State.exposureAt_updSt (s : State) (i : StationId) (f : Station → Station)
    (h : ∀ x, (f x).state = x.state ∧ (f x).activity = x.activity ∧ (f x).drive = x.drive) :
    (s.updSt i f).exposureAt q = s.exposureAt q := by
  by_cases hq : q = i
  · subst hq
    obtain ⟨hstate, hactivity, hdrive⟩ := h (s.st q)
    simp only [State.exposureAt, State.st_updSt_same, hstate, hactivity, hdrive]
    rfl
  · exact s.exposureAt_elsewhere f hq

theorem State.exposureAt_dozeIfIdle (s : State) (i : StationId) : (s.dozeIfIdle i).exposureAt q = s.exposureAt q := by
  rcases s.dozeIfIdle_cases i with ⟨-, -, he⟩ | ⟨-, he⟩
  · rw [he]; exact s.exposureAt_updSt i _ (fun _ => ⟨rfl, rfl, rfl⟩)
  · rw [he]

/-! ## The ends and returns of jobs (R57, R64, R65) -/

theorem State.exposureAt_finishJob (s : State) (a : Addr) (o : TicketOutcome) : (s.finishJob a o).exposureAt q = s.exposureAt q := by
  cases hjob : s.job a with
  | none => rw [State.finishJob, hjob]
  | some j =>
    obtain ⟨u, hfinish, -, hsame, hst⟩ := State.finishJob_spec o hjob
    have hholders : u.permitHolders = s.permitHolders := congrArg (·.permitHolders) hsame
    have hqueue : u.permitQueue = s.permitQueue := congrArg (·.permitQueue) hsame
    rw [hfinish, State.exposureAt_addTask]
    simp only [State.exposureAt, hholders, hqueue]
    rw [hst q]

theorem State.exposureAt_endJob (s : State) (a : Addr) (o : TicketOutcome) : (s.endJob a o).exposureAt q = s.exposureAt q := by
  rcases s.endJob_cases a o with ⟨-, he⟩ | ⟨-, he⟩
  · rw [he, State.exposureAt_finishJob]
  · rw [he]; rfl

theorem State.exposureAt_testStock (s : State) (j : Job) : (s.testStock j).exposureAt q = s.exposureAt q := by
  unfold State.testStock
  split
  · exact s.exposureAt_endJob _ _
  · rfl

theorem State.exposureAt_makeReturn (s : State) (j : Job) : (s.makeReturn j).exposureAt q = s.exposureAt q := by
  have htested : ∀ u : State, State.exposureAt (match u.job j.slotAddr with
      | some j' => u.testStock j'
      | none => u) q = u.exposureAt q := by
    intro u
    split
    · exact u.exposureAt_testStock _
    · rfl
  unfold State.makeReturn
  dsimp only
  cases j.station with
  | none => exact htested _
  | some i => exact (htested _).trans (State.exposureAt_dozeIfIdle _ i)

theorem State.exposureAt_returnJob (s : State) (j : Job) : (s.returnJob j).exposureAt q = s.exposureAt q := by
  unfold State.returnJob
  split
  · exact s.exposureAt_makeReturn j
  · rfl

/-! ## The work of another station dropped (R62, R63, R83) -/

theorem State.exposureAt_handover (s : State) (i : StationId) : (s.handover i).exposureAt q = s.exposureAt q := by
  have hcounts : ∀ u : State, (u.updSt i (fun x => { x with stacked := none })).exposureAt q = u.exposureAt q :=
    fun u => u.exposureAt_updSt i _ (fun _ => ⟨rfl, rfl, rfl⟩)
  unfold State.handover
  split
  · dsimp only
    split
    · exact (State.exposureAt_endJob _ _ _).trans (hcounts { s with endQueue := s.endQueue.filter (· != .stacked i) })
    · exact hcounts { s with endQueue := s.endQueue.filter (· != .stacked i) }
  · exact hcounts s
  · rfl

theorem State.exposureAt_loseSheet (s : State) {i : StationId} (h : q ≠ i) : (s.loseSheet i).exposureAt q = s.exposureAt q := by
  unfold State.loseSheet
  split
  · exact (State.exposureAt_endJob _ _ _).trans (s.exposureAt_elsewhere _ h)
  · exact s.exposureAt_elsewhere _ h

theorem State.exposureAt_dropWork (s : State) {i : StationId} (h : q ≠ i) : (s.dropWork i).exposureAt q = s.exposureAt q := by
  have hlost : ((if (s.st i).stacked.isSome then s.handover i else s).loseSheet i).exposureAt q = s.exposureAt q := by
    refine (State.exposureAt_loseSheet _ h).trans ?_
    split
    · exact s.exposureAt_handover i
    · rfl
  unfold State.dropWork
  dsimp only
  split
  · split
    · exact hlost
    · exact (State.exposureAt_returnJob _ _).trans hlost
  · exact hlost

/-! ## What another station does first in READY (R58, R75) -/

theorem State.exposureAt_askPhotometer (s : State) {i : StationId} (h : q ≠ i) :
    (s.askPhotometer i).exposureAt q = s.exposureAt q := by
  rcases s.askPhotometer_cases i with ⟨-, he⟩ | ⟨-, -, he⟩ | ⟨-, -, -, he⟩
  · rw [he]
  · rw [he]
    exact State.exposureAt_elsewhere (({ s with photometer := some i } : State).updCal i
      (fun c => { c with flight := some (c.granted (s.st i).sheet.isSome) })) _ h
  · rw [he]; rfl

theorem State.exposureAt_decideLoad (s : State) {i : StationId} (j : Job) (h : q ≠ i) :
    (s.decideLoad i j).exposureAt q = s.exposureAt q := by
  unfold State.decideLoad
  dsimp only
  split
  · split
    · exact s.exposureAt_endJob _ _
    · exact s.exposureAt_returnJob j
  split
  · exact s.exposureAt_endJob _ _
  split
  · exact s.exposureAt_endJob _ _
  split
  · rfl
  · exact State.exposureAt_elsewhere _ _ h

theorem State.exposureAt_loadDecision (s : State) {i : StationId} (stop : Bool) (h : q ≠ i) :
    (s.loadDecision i stop).exposureAt q = s.exposureAt q := by
  unfold State.loadDecision
  split
  · split
    · rfl
    split
    · split
      · exact State.exposureAt_endJob _ _ _
      · exact s.exposureAt_decideLoad _ h
    split
    · exact State.exposureAt_endJob _ _ _
    · rfl
  · rfl

theorem State.exposureAt_offer (s : State) {i : StationId} (h : q ≠ i) : (s.offer i).exposureAt q = s.exposureAt q := by
  unfold State.offer
  split
  · split
    · unfold State.runDecision
      split
      · exact s.exposureAt_loadDecision true h
      · exact s.exposureAt_askStop i _
    · rfl
  · rfl

/-- A station in READY is not the EXPOSING one. -/
theorem State.exposureAt_readyActions (s : State) (i : StationId) (h : (s.st q).state = .exposing) :
    (s.readyActions i).exposureAt q = s.exposureAt q := by
  unfold State.readyActions
  split
  next hready =>
    have hqi : q ≠ i := by
      rintro rfl
      simp [h] at hready
    split
    · exact (State.exposureAt_askPhotometer _ hqi).trans (s.exposureAt_elsewhere _ hqi)
    · exact (State.exposureAt_dozeIfIdle _ i).trans (s.exposureAt_offer hqi)
  next => rfl

/-! ## Until nothing is left -/

theorem State.exposureAt_attach (s : State) {i : StationId} (j : Job) (h : (s.st q).state = .exposing) (hfree : s.free i = true) :
    (s.attach i j).exposureAt q = s.exposureAt q := by
  have hqi : q ≠ i := by
    rintro rfl
    simp [State.free, h] at hfree
  have hattached : (s.attachedJob i j).exposureAt q = s.exposureAt q :=
    State.exposureAt_elsewhere (s.updJob j.slotAddr (fun k => k.attachedTo i)) _ hqi
  rw [State.attach_eq]
  split
  · exact (State.exposureAt_elsewhere _ _ hqi).trans hattached
  · refine (State.exposureAt_readyActions _ i ?_).trans hattached
    exact (congrArg ExposureView.state hattached).trans h

theorem State.exposureAt_addTicket (s : State) (o : TicketOutcome) (r : Reason) (l : Nat) :
    (s.addTicket o r l).exposureAt q = s.exposureAt q := by
  unfold State.addTicket
  split
  · dsimp only
    split
    · exact s.exposureAt_addTask _
    · exact (State.exposureAt_of_behind (State.nextCandidate_scanOnly _).1).trans (s.exposureAt_addTask _)
  · rfl

theorem State.exposureAt_dispatchStep {s t : State} (h : (s.st q).state = .exposing) (ht : s.dispatchStep = some t) :
    t.exposureAt q = s.exposureAt q := by
  unfold State.dispatchStep at ht
  split at ht
  next i rest _ _ =>
    cases ht
    have hover : (({ s with endQueue := rest } : State).handover i).exposureAt q = s.exposureAt q :=
      State.exposureAt_handover { s with endQueue := rest } i
    exact (State.exposureAt_readyActions _ i ((congrArg ExposureView.state hover).trans h)).trans hover
  next a rest _ _ =>
    cases ht
    split
    · exact State.exposureAt_finishJob { s with endQueue := rest } a _
    · rfl
  next =>
    split at ht
    next j _ _ => cases ht; exact s.exposureAt_makeReturn j
    next =>
      split at ht
      next p hp =>
        cases ht
        exact s.exposureAt_attach _ h (State.nextMatch_spec hp).1
      next o r l rest _ _ => cases ht; exact State.exposureAt_addTicket { s with endQueue := rest } o r l
      next => cases ht

theorem settleDispatch_exposureAt (n : Nat) {s : State} (h : (s.st q).state = .exposing) :
    (settleDispatch n s).exposureAt q = s.exposureAt q := by
  induction n generalizing s with
  | zero => rfl
  | succ n ih =>
    unfold settleDispatch
    split
    next t ht =>
      have hstep := State.exposureAt_dispatchStep h ht
      exact (ih ((congrArg ExposureView.state hstep).trans h)).trans hstep
    next => rfl

/-- An EXPOSING station goes on as it was while the dispatcher settles. -/
theorem State.exposureAt_settle (s : State) (h : (s.st q).state = .exposing) : s.settle.exposureAt q = s.exposureAt q :=
  settleDispatch_exposureAt _ h

end

end Sys2Proof.Machine
end


section
/-! PROOFS. A permit returned to a station that waits (R118): the line that the list's head begins, and what that line drives. -/

namespace Sys2Proof.Machine

/-! ## What the dwells of a line look at (R99, R111) -/

/-- Two jobs that ask for the same dots. -/
def Job.asksAlike (k j : Job) : Prop := k.expo = j.expo ∧ k.layout = j.layout ∧ k.ew = j.ew ∧ k.lines = j.lines

/-- Two sheets with the same window, texts and frame map. -/
def Sheet.showsAlike (x y : Sheet) : Prop :=
  x.offset = y.offset ∧ x.map = y.map ∧ x.index = y.index ∧ x.planned = y.planned ∧ x.serial = y.serial

/-- The dwells of a line are the same where the job's exposure, the sheet's texts, the bands, the film and the tables are. -/
theorem State.lineDwells_of_alike {s u : State} {i : StationId} (a : Area) (n : Nat) {f : Job → Job} {g : Sheet → Sheet}
    (hf : ∀ k, (f k).asksAlike k) (hg : ∀ sh, (g sh).showsAlike sh) (hatt : u.attached i = (s.attached i).map f)
    (hsheet : (u.st i).sheet = (s.st i).sheet.map g) (hspeed : (u.st i).speed = (s.st i).speed)
    (hA : (u.st i).bufA = (s.st i).bufA) (hB : (u.st i).bufB = (s.st i).bufB) (hcal : u.cal i = s.cal i)
    (htones : u.tones = s.tones) : u.lineDwells i a n = s.lineDwells i a n := by
  have hbuffer : (u.st i).bufferOf = (s.st i).bufferOf := by
    funext b; simp only [Station.bufferOf, hA, hB]
  have hasks : ∀ k sh, u.lineAsks i (f k) (g sh) a n = s.lineAsks i k sh a n := by
    intro k sh
    obtain ⟨hexpo, hlayout, hew, hlines⟩ := hf k
    obtain ⟨hoffset, hmap, hindex, hplanned, hserial⟩ := hg sh
    simp only [State.lineAsks, titleDot, titleText, hbuffer, htones, hexpo, hlayout, hew, hlines, hoffset, hmap, hindex, hplanned,
      hserial]
  simp only [State.lineDwells, hatt, hsheet]
  cases s.attached i with
  | none => rfl
  | some k =>
    cases (s.st i).sheet with
    | none => rfl
    | some sh =>
      obtain ⟨hexpo, -, -, -⟩ := hf k
      simp only [Option.map_some, hasks, hspeed, hcal, hexpo]

/-- A change elsewhere. -/
theorem State.lineDwells_congr {s u : State} {i : StationId} (a : Area) (n : Nat) (hjobs : u.jobs = s.jobs)
    (hst : u.st i = s.st i) (hcal : u.cal i = s.cal i) (htones : u.tones = s.tones) :
    u.lineDwells i a n = s.lineDwells i a n :=
  State.lineDwells_of_alike (f := id) (g := id) a n (fun _ => ⟨rfl, rfl, rfl, rfl⟩) (fun _ => ⟨rfl, rfl, rfl, rfl, rfl⟩)
    (by simp [State.attached, hjobs]) (by simp [hst]) (by rw [hst]) (by rw [hst]) (by rw [hst]) hcal htones

/-- The AGED flag is not shown. -/
theorem State.lineDwells_aged (s : State) (i : StationId) (a : Area) (n : Nat) (due : Bool) :
    (s.updSt i (fun x => x.agedWhen due)).lineDwells i a n = s.lineDwells i a n := by
  have hst : (s.updSt i (fun x => x.agedWhen due)).st i = (s.st i).agedWhen due := State.st_updSt_same _ _ _
  exact State.lineDwells_of_alike (f := id)
    (g := fun sh => { sh with openEntry := sh.openEntry.map (fun e => { e with aged := e.aged || due }) }) a n
    (fun _ => ⟨rfl, rfl, rfl, rfl⟩) (fun _ => ⟨rfl, rfl, rfl, rfl, rfl⟩) (by simp) (by rw [hst]; rfl) (by rw [hst]; rfl) (by rw [hst]; rfl) (by rw [hst]; rfl) rfl rfl

/-! ## A line begun (R105) -/

/-- What a line that begins makes of its station. -/
theorem State.startLine_exposureAt (s : State) (i : StationId) (a : Area) (n : Nat) :
    (s.startLine i a n).exposureAt i = { s.exposureAt i with
      activity := .line a n, drive := (s.lineDwells i a n).1 } := by
  let aged : State := s.updSt i (fun x => x.agedWhen (decide (n = 0) && (s.cal i).due))
  obtain ⟨u, hu, hdwells, hstart⟩ : ∃ u : State, u.exposureAt i = s.exposureAt i ∧ u.lineDwells i a n = s.lineDwells i a n ∧
      s.startLine i a n = u.driveLine i a n := by
    have haged : aged.exposureAt i = s.exposureAt i := s.exposureAt_updSt i _ (fun _ => ⟨rfl, rfl, rfl⟩)
    have hdwells : aged.lineDwells i a n = s.lineDwells i a n := s.lineDwells_aged i a n _
    let read : State := aged.updSt i (fun x => { x with bandReading := none })
    have hread : read.exposureAt i = s.exposureAt i := 
      (aged.exposureAt_updSt i (fun x => { x with bandReading := none }) (fun _ => ⟨rfl, rfl, rfl⟩)).trans haged
    have hreadDwells : read.lineDwells i a n = s.lineDwells i a n := (State.lineDwells_updSt a n rfl rfl rfl rfl).trans hdwells
    unfold State.startLine
    rw [State.ageEntry_eq]
    dsimp only
    split
    · split
      · exact ⟨read, hread, hreadDwells, rfl⟩
      · have hasked := (read.askStop_scanOnly i (.band i)).1
        refine ⟨read.askStop i (.band i), (read.exposureAt_askStop i _).trans hread, Eq.trans ?_ hreadDwells, rfl⟩
        exact State.lineDwells_congr a n (congrArg (·.jobs) hasked)
          (congrArg (PerStation.get · i) (show (read.askStop i (.band i)).stations = read.stations from congrArg (·.stations) hasked))
          (congrArg (PerStation.get · i) (show (read.askStop i (.band i)).cals = read.cals from congrArg (·.cals) hasked))
          (congrArg (·.tones) hasked)
    · exact ⟨aged, haged, hdwells, rfl⟩
  rw [hstart, ← hdwells, ← hu]
  simp only [State.exposureAt, State.driveLine, State.st_updSt_same]
  rfl

/-- A permit passed on: station `q` exposes, and has begun its area. -/
def State.passedOn (s : State) (i q : StationId) (b : Area) (rest : List StationId) : ExposureView :=
  { holders := s.permitHolders.filter (· != i) ++ [q], queue := rest, state := .exposing, activity := .line b 0,
    drive := (s.lineDwells q b 0).1 }

section
variable {s : State} {i q : StationId} {b : Area} {rest : List StationId}

theorem State.permitPasses_of_view {t : State} (h : t.exposureAt q = s.passedOn i q b rest) : s.permitPasses t i q b rest :=
  ⟨congrArg ExposureView.holders h, congrArg ExposureView.queue h, congrArg ExposureView.state h,
    congrArg ExposureView.activity h, congrArg ExposureView.drive h⟩

theorem State.permitAwaited.ne (h : s.permitAwaited i q b rest) : q ≠ i := by
  obtain ⟨-, hno, hqueue, -⟩ := h
  rintro rfl
  exact hno (by simp [hqueue])

/-- A station that waits with its area begins it with the permit granted. -/
theorem State.grantPermit_exposureAt (hwaits : (s.st q).activity = .permitWait b) : (s.grantPermit q).exposureAt q =
    { holders := s.permitHolders ++ [q], queue := s.permitQueue, state := .exposing, activity := .line b 0,
      drive := (s.lineDwells q b 0).1 } := by
  let u : State := ({ s with permitHolders := s.permitHolders ++ [q] } : State).updSt q (fun x => { x with state := .exposing })
  have hgrant : s.grantPermit q = u.startLine q b 0 := by simp only [State.grantPermit, hwaits]; rfl
  have hdwells : u.lineDwells q b 0 = s.lineDwells q b 0 :=
    (State.lineDwells_updSt (s := { s with permitHolders := s.permitHolders ++ [q] }) b 0 rfl rfl rfl rfl).trans
      (State.lineDwells_congr b 0 rfl rfl rfl rfl)
  rw [hgrant, State.startLine_exposureAt, hdwells]
  simp only [u, State.exposureAt, State.st_updSt_same]
  rfl

/-- The permit returned passes to the head of the waiting list. -/
theorem State.returnPermit_passes (h : s.permitAwaited i q b rest) : (s.returnPermit i).exposureAt q = s.passedOn i q b rest := by
  obtain ⟨hholds, -, hqueue, hwaits⟩ := h
  let u : State := { s with permitHolders := s.permitHolders.filter (· != i), permitQueue := rest }
  have hreturn : s.returnPermit i = u.grantPermit q := by
    simp only [State.returnPermit, List.contains_iff_mem, hholds, if_true, hqueue]
    rfl
  have hdwells : u.lineDwells q b 0 = s.lineDwells q b 0 := State.lineDwells_congr b 0 rfl rfl rfl rfl
  rw [hreturn, State.grantPermit_exposureAt (s := u) hwaits, hdwells]
  rfl

/-- A fault of the holder passes its permit on, whatever follows (R82, R118). -/
theorem State.enterFaulted_passes {c : FaultCause} (h : s.permitAwaited i q b rest) (hflight : (s.cal i).flight = none) :
    (s.enterFaulted i c).exposureAt q = s.passedOn i q b rest := by
  have hqi := h.ne
  obtain ⟨hholds, hno, hqueue, hwaits⟩ := h
  let v : State := ((s.updSt i (Station.faultedBy c)).withdraw (ofStation i)).leavePermitQueue i
  have hvst : v.st q = s.st q := State.st_updSt_other s _ hqi
  have hawaited : v.permitAwaited i q b rest := by
    have hsame : v.permitQueue = s.permitQueue := filter_ne_of_not_mem hno
    exact ⟨hholds, by rw [hsame]; exact hno, hsame.trans hqueue, by rw [hvst]; exact hwaits⟩
  have hdwells : v.lineDwells q b 0 = s.lineDwells q b 0 := State.lineDwells_congr b 0 rfl hvst rfl rfl
  have hpassed : (v.returnPermit i).exposureAt q = s.passedOn i q b rest := by
    rw [State.returnPermit_passes hawaited, State.passedOn, hdwells]
    rfl
  have hnone : (((v.returnPermit i).leavePhotometerQueue i).cal i).flight = none := by
    have hi : i ∉ v.permitQueue := by simp [v, State.leavePermitQueue]
    have hquiet := (State.returnPermit_quietAt v i (.inl hi)).cal.2
    exact Option.map_eq_none_iff.1 (hquiet.trans (congrArg (Option.map (·.kind)) hflight))
  have hleft : (s.updSt i (Station.faultedBy c)).leaveAll i = (v.returnPermit i).leavePhotometerQueue i :=
    State.abortCalibration_none hnone
  have hdropped : ((((s.updSt i (Station.faultedBy c)).leaveAll i).alert).dropWork i).exposureAt q = s.passedOn i q b rest := by
    rw [hleft, State.exposureAt_dropWork _ hqi]
    exact hpassed
  rw [State.enterFaulted_eq, State.exposureAt_settle _ (congrArg ExposureView.state hdropped), hdropped]

end

end Sys2Proof.Machine
end


section
/-! PROOFS. The fault reports (R69, R78, R82, R83, R118, R150), case by case of the statement. -/

namespace Sys2Proof.Machine

section
variable {s : State} {i : StationId} {c : Instr} {cause : FaultCause} {j : Job}

/-- A fault report at a station that takes one. -/
theorem exec_faultReport_taken (h : (c = .jam i ∧ cause = .jam) ∨ (c = .headFault i ∧ cause = .head))
    (hpark : (s.st i).state ≠ .parked) (hfault : (s.st i).state ≠ .faulted) : exec c s = (s.enterFaulted i cause).done := by
  rw [exec_faultReport h, if_pos (State.takesFault_iff.2 ⟨hpark, hfault⟩)]

/-- Two states with the same port and CTRL are settled together. -/
theorem State.settled_congr {u : State} (hs : s.settled) (hport : u.port = s.port) (hctrl : u.ctrl = s.ctrl) : u.settled := by
  rw [State.settled, hport, hctrl]
  exact hs

/-- A fault of a station on no list, with no job. -/
theorem State.enterFaulted_unencumbered (hs : s.settled) (hrest : s.atRest) (hfree : s.unencumbered i) :
    (s.enterFaulted i cause).done = .next (s.faultedHere i cause) := by
  obtain ⟨hatt, -, hstacked, hholds, hwaits, hflight, hqueue, hlist⟩ := hfree
  have hhere : s.faultedAt i cause = s.faultedHere i cause := by
    unfold State.faultedAt
    rw [State.offLists_of_none hs.1 hlist hholds hwaits hqueue]
    rfl
  rw [State.enterFaulted_free hatt hstacked (.inl hholds) hflight hrest, hhere]
  exact State.done_of_settled hs

/-- A sheet lost at a fault, in the words of the statement; `u` is the state that faults, `s` but for station `i`'s transport. -/
theorem exec_fault_loses {sh : Sheet} {u : State} {f : Station → Station} (hu : u = s.updSt i f) (hexec : exec c s = (u.enterFaulted i cause).done)
    (hf : ∃ ejects transport, f (s.st i) = { s.st i with ejects := ejects, transport := transport }) (hs : s.settled)
    (hj : s.attached i = some j) (hsheet : (s.st i).sheet = some sh) (hstacked : (s.st i).stacked = none)
    (halone : ∀ k ∈ s.jobs, k.station = some i → k.slotAddr = j.slotAddr) (hflight : (s.cal i).flight = none)
    (hpermits : s.permitQueue = []) (hroom : s.listRoom 1)
    (hrest : ({ s with jobs := s.jobsWith j.slotAddr (Job.lostAndEnded sh) } : State).atRest) :
    ∃ t, exec c s = .next t ∧
      t = { s with
        port := t.port, alertCount := min 255 (s.alertCount + 1), jobs := s.jobsWith j.slotAddr (Job.lostAndEnded sh),
        tasks := t.tasks, plan := t.plan, stations := t.stations, permitHolders := s.permitHolders.filter (· != i),
        photometerQueue := s.photometerQueue.filter (· != i) } ∧
      t.tasks = s.tasks ++ [.completion j.slotAddr] ∧
      t.st i = { (s.st i).cleared.timersStopped with
        state := .faulted, cause := cause, ejects := (t.st i).ejects, transport := (t.st i).transport } ∧
      (∀ r ∈ t.port.list, ofStation i r = false) ∧ ∀ k, k ≠ i → t.st k = s.st k := by
  subst hu
  obtain ⟨ejects, transport, hf⟩ := hf
  have hsti : (s.updSt i f).st i = { s.st i with ejects := ejects, transport := transport } :=
    (State.st_updSt_same s i f).trans hf
  have hstate : ((s.updSt i f).st i).state = (s.st i).state := by rw [hsti]
  have hsheet' : ((s.updSt i f).st i).sheet = (s.st i).sheet := by rw [hsti]
  have hstacked' : ((s.updSt i f).st i).stacked = (s.st i).stacked := by rw [hsti]
  have hsupply : ((s.updSt i f).st i).supply = (s.st i).supply := by rw [hsti]
  have hstock : ((s.updSt i f).st i).stock = (s.st i).stock := by rw [hsti]
  have hrest' : ({ s.updSt i f with jobs := (s.updSt i f).jobsWith j.slotAddr (Job.lostAndEnded sh) } : State).atRest :=
    State.atRest_of_station (i := i) hrest rfl rfl rfl rfl rfl hstate hsheet' hsupply hstock
      (fun k hk => State.st_updSt_other s f hk)
  obtain ⟨plan, port, hdone, hlist⟩ := State.enterFaulted_loses (s := s.updSt i f) (c := cause) (sh := sh) hj
    (hsheet'.trans hsheet) (hstacked'.trans hstacked) halone hflight hpermits hroom hrest' hs.1
  have hstf : ((s.updSt i f).faultedAt i cause).st i =
      Station.faultedOut cause { s.st i with ejects := ejects, transport := transport } :=
    State.faultedAt_st.trans (congrArg (Station.faultedOut cause) hsti)
  have hshape : ∀ x : Station, x = Station.faultedOut cause { s.st i with ejects := ejects, transport := transport } →
      x = { (s.st i).cleared.timersStopped with
        state := .faulted, cause := cause, ejects := x.ejects, transport := x.transport } := by
    rintro _ rfl
    rfl
  refine ⟨_, hexec.trans hdone, ?_, rfl, ?_, hlist, fun k hk => ?_⟩
  · rw [State.faultedAt_frees (s := s.updSt i f) hpermits]
    rfl
  · exact hshape _ hstf
  · exact (State.faultedAt_st_other hk).trans (State.st_updSt_other s f hk)

/-- A registration that fails with no attempt or no supply left is a LOAD fault (R78). -/
theorem State.failAttempt_faults {sh : Sheet} (hsheet : (s.st i).sheet = some sh) (h : sh.attempt = 2 ∨ (s.st i).supply = 0) :
    s.failAttempt i = (s.updSt i (fun x => { x with ejects := x.ejects + 1, transport := .eject })).enterFaulted i .load := by
  have hno : ¬((s.st i).sheet.any (fun q => q.attempt == 1) && decide (1 ≤ (s.st i).supply)) = true := by
    rw [hsheet]
    rcases h with h | h <;> simp [h]
  exact if_neg hno

/-- The two reports of a failed load in LOADING. -/
theorem exec_failedLoad (hload : (s.st i).state = .loading) (htimer : (s.st i).loadTimer ≠ none)
    (hc : c = .loadTimerExpiry i ∨ c = .registrationFailed i (s.st i).feeds) : exec c s = (s.failAttempt i).done := by
  have hrunning : ((s.st i).loadTimer.isSome && (s.st i).state == .loading) = true := by
    simp [hload, Option.isSome_iff_ne_none.2 htimer]
  have hlatest : ((s.st i).state == .loading && (s.st i).feeds == (s.st i).feeds) = true := by simp [hload]
  rcases hc with rfl | rfl
  · exact if_pos hrunning
  · exact if_pos hlatest

end

/-- Settles O40: FAULTED by `State.enterFaulted_free` and, with a calibration, a job or a sheet, by what that leaves; the permit
passed on by `State.enterFaulted_passes`. -/
theorem faultReports : Obligations.FaultReports := by
  refine ⟨fun s i c cause hs hc => ⟨fun hignored => ?_, fun hpark hfault hrest hfree => ?_, fun f hcal hrest hfree hf hphoto => ?_⟩,
    fun s i j c cause hs hc hpark hfault hj he hsheet hstacked halone hholds hwaits hflight => ?_,
    fun s i j sh c cause hs hj hsheet hstacked halone hflight hpermits hroom hpark hfault hc => ?_,
    fun s i q c cause b rest hs hc hpark hfault hflight hawaited => ?_⟩
  · rw [exec_faultReport hc, if_neg]
    rw [State.takesFault_iff]
    exact fun h => hignored.elim h.1 h.2
  · exact (exec_faultReport_taken hc hpark hfault).trans (State.enterFaulted_unencumbered hs hrest hfree)
  · have hexec := exec_faultReport_taken (s := s) hc (by simp [hcal]) (by simp [hcal])
    refine ⟨fun hlast => ?_, fun q rest hnext hready => ?_⟩
    · rw [hexec, State.enterFaulted_frees hfree hf hphoto hlast hs.1 hrest]
      exact State.done_of_settled hs
    · have hiq : i ≠ q := by
        obtain ⟨-, -, -, -, -, -, hqueue, -⟩ := hfree
        rintro rfl
        exact hqueue (by show i ∈ s.photometerQueue; rw [hnext]; exact List.mem_cons_self)
      obtain ⟨hsti, hstq, hflighti, hcalq, hothers⟩ := State.faultGrants_spec (s := s) (c := cause) (rest := rest) hiq
      obtain ⟨hport, hctrl, hholder, hqueue⟩ := s.faultGrants_arbiters i q rest cause
      obtain ⟨-, -, hjobs, -⟩ := s.faultGrants_dispatch i q rest cause
      rw [hexec, State.enterFaulted_grants hfree hf hphoto hnext hready hs.1 hrest]
      refine ⟨_, State.done_of_settled (State.settled_congr hs hport hctrl), hholder, hqueue, ?_, ?_, hflighti, ?_, hjobs,
        fun k hki hkq => (hothers k hki hkq).1⟩
      · rw [hstq]; rfl
      · rw [hcalq]; rfl
      · exact hsti.trans (State.st_updSt_same _ i _).symm
  · have hexec := exec_faultReport_taken hc hpark hfault
    refine ⟨fun hroom hcarried hrest => ?_, fun hroom hrest => ?_⟩
    · exact exec_faultReport_job (f := Job.returned) hs hexec hholds hwaits
        (State.enterFaulted_queues hj he hsheet hstacked hholds hflight (fun k hk ha => halone k hk (.inr ha)) hs.1 hroom hcarried) hrest
    · exact exec_faultReport_job hs hexec hholds hwaits (State.enterFaulted_pends hj he hsheet hstacked hholds hflight hroom) hrest
  · intro ended hrest
    rcases hc with hc | ⟨rfl, hload, htimer, hlast, hc⟩
    · exact exec_fault_loses (f := fun x => x) (State.updSt_id s i).symm (exec_faultReport_taken hc hpark hfault) ⟨_, _, rfl⟩ hs hj hsheet
        hstacked halone hflight hpermits hroom hrest
    · exact exec_fault_loses rfl ((exec_failedLoad hload htimer hc).trans (congrArg State.done (State.failAttempt_faults hsheet hlast)))
        ⟨_, _, rfl⟩ hs hj hsheet hstacked halone hflight hpermits hroom hrest
  · refine ⟨(s.enterFaulted i cause).join, exec_faultReport_taken hc hpark hfault, State.permitPasses_of_view ?_⟩
    exact (State.exposureAt_of_behind (State.join_scanOnly _).1).trans (State.enterFaulted_passes hawaited hflight)

end Sys2Proof.Machine
end


section
/-! PROOFS. What the emitters are driven with at a line (R99, R105, R110 to R114): emitter by emitter, for each area. -/

namespace Sys2Proof.Machine

/-! ## The head, emitter by emitter (R111) -/

/-- What the emitter beyond the head's end is asked for. -/
def askAt (asks : List DotAsk) (e : Nat) : DotAsk := asks.getD e .off

/-- The dwells of a head whose lists have one entry for each emitter. -/
theorem headDwells_eq_map (v h g lineTicks : Nat) : ∀ {n : Nat} {trims : List Nat} {statuses : List EmitterStatus}
    {asks : List DotAsk}, trims.length = n → statuses.length = n → asks.length = n →
    headDwells v h g lineTicks trims statuses asks =
      (List.range n).map (fun e => askDwell v h g lineTicks (trims.getD e 0) (statuses.getD e .ok) (askAt asks e))
  | 0, trims, statuses, asks, ht, _, _ => by
    rw [List.length_eq_zero_iff.1 ht]
    simp [headDwells]
  | n + 1, t :: trims, x :: statuses, a :: asks, ht, hs, ha => by
    rw [headDwells, headDwells_eq_map v h g lineTicks (Nat.succ.inj ht) (Nat.succ.inj hs) (Nat.succ.inj ha),
      List.range_succ_eq_map, List.map_cons, List.map_map]
    rfl

theorem windowAsks_length {o : Nat} {w : List DotAsk} (h : o + w.length ≤ 2048) : (windowAsks o w).length = 2048 := by
  simp only [windowAsks, List.length_append, List.length_replicate, Config.emitters]
  omega

/-- The emitters from `o` on are asked for the window, the others for nothing. -/
theorem askAt_windowAsks (o : Nat) (w : List DotAsk) (e : Nat) :
    askAt (windowAsks o w) e = if o ≤ e ∧ e < o + w.length then w.getD (e - o) .off else .off := by
  unfold askAt windowAsks
  rw [List.getD_eq_getElem?_getD, List.getElem?_append, List.getElem?_append]
  simp only [List.length_append, List.length_replicate, List.getElem?_replicate]
  by_cases hlow : e < o
  · have hno : ¬(o ≤ e ∧ e < o + w.length) := by omega
    rw [if_pos (by omega), if_pos hlow, if_pos hlow, if_neg hno]
    rfl
  · by_cases hin : e < o + w.length
    · rw [if_pos hin, if_neg hlow, if_pos ⟨by omega, hin⟩, List.getD_eq_getElem?_getD]
    · rw [if_neg hin, if_neg (fun hh : o ≤ e ∧ e < o + w.length => hin hh.2)]
      split <;> rfl

theorem textAsks_getD (level n e : Nat) (dot : Nat → Bool) (h : e < n) :
    (textAsks level n dot).getD e .off = if dot e then .expose level else .background := by
  simp [textAsks, List.getD_eq_getElem?_getD, h]

@[simp] theorem textAsks_length (level n : Nat) (dot : Nat → Bool) : (textAsks level n dot).length = n := by simp [textAsks]

/-! ## One emitter -/

/-- An emitter is asked for exposure `o`, or for none. -/
def DotAsk.asksFor (d : DotAsk) : Option Nat → Prop
  | some x => d = .expose x
  | none => d = .off ∨ d = .background

section
variable {v h g lineTicks trim : Nat} {status : EmitterStatus} {d : DotAsk} {o : Option Nat}

/-- The dwell of an emitter that is asked for exposure `o` (R110, R111). -/
theorem askDwell_fst (hd : d.asksFor o) : (askDwell v h g lineTicks trim status d).1 = if status = .dead then 0 else
    o.elim 0 (fun x => drivenDwell (rawDwell x v trim h g) (lineTicks - 40)) := by
  by_cases hs : status = .dead
  · simp [askDwell, hs]
  · unfold askDwell
    rw [if_neg hs, if_neg hs]
    cases o with
    | none => rcases hd with rfl | rfl <;> rfl
    | some x => rw [show d = .expose x from hd]; rfl

/-- Its dot is saturated when the raw dwell exceeds the longest (R112). -/
theorem askDwell_snd (hd : d.asksFor o) : (askDwell v h g lineTicks trim status d).2 =
    (decide (status ≠ .dead) && o.any (fun x => decide (lineTicks - 40 < rawDwell x v trim h g))) := by
  by_cases hs : status = .dead
  · simp [askDwell, hs]
  · unfold askDwell
    rw [if_neg hs]
    cases o with
    | none => rcases hd with rfl | rfl <;> simp
    | some x =>
      rw [show d = .expose x from hd, decide_eq_true hs, Bool.true_and]
      rfl

theorem askDwell_void : (askDwell v h g lineTicks trim status .void).1 = if status = .dead then 0 else lineTicks - 40 := by
  by_cases hs : status = .dead <;> simp [askDwell, hs, dMax]

theorem askDwell_off : (askDwell v h g lineTicks trim status .off).1 = 0 := by
  by_cases hs : status = .dead <;> simp [askDwell, hs]

end

/-- The status of an emitter of the head. -/
theorem status_getElem? {statuses : List EmitterStatus} {e : Nat} (hs : statuses.length = 2048) (he : e < 2048) :
    statuses[e]? = some (statuses.getD e .ok) := by
  rw [List.getD_eq_getElem?_getD, List.getElem?_eq_getElem (by omega)]
  rfl

/-! ## The dwells of a line -/

section
variable {s : State} {i : StationId} {j : Job} {sh : Sheet} {a : Area} {k : Nat}

/-- The raw dwell of emitter `e` for exposure `x` (R107 to R109). -/
def State.rawAt (s : State) (i : StationId) (j : Job) (e x : Nat) : Nat :=
  rawDwell x (s.st i).speed ((s.cal i).trims.getD e 0) (s.cal i).h j.expo.gain

variable (hj : s.attached i = some j) (hsh : (s.st i).sheet = some sh) (ht : (s.cal i).trims.length = 2048)
  (hs : (s.cal i).statuses.length = 2048)
include hj hsh ht hs

/-- The dwells of a line, emitter by emitter. -/
theorem State.lineDwells_eq_map (hlen : (s.lineAsks i j sh a k).length = 2048) : s.lineDwells i a k =
    let d (e : Nat) := askDwell (s.st i).speed (s.cal i).h j.expo.gain j.expo.lineTicks ((s.cal i).trims.getD e 0)
      ((s.cal i).statuses.getD e .ok) (askAt (s.lineAsks i j sh a k) e)
    ((List.range 2048).map (fun e => (d e).1),
      if a.countsSaturation then ((List.range 2048).filter (fun e => (d e).2)).length else 0) := by
  simp only [State.lineDwells, hj, hsh, headDwells_eq_map _ _ _ _ ht hs hlen, List.map_map, List.filter_map, List.length_map]
  rfl

/-- What each emitter is driven with. -/
theorem State.lineDwells_fst (hlen : (s.lineAsks i j sh a k).length = 2048) {e : Nat} (he : e < 2048) :
    (s.lineDwells i a k).1[e]? = some (askDwell (s.st i).speed (s.cal i).h j.expo.gain j.expo.lineTicks
      ((s.cal i).trims.getD e 0) ((s.cal i).statuses.getD e .ok) (askAt (s.lineAsks i j sh a k) e)).1 := by
  rw [State.lineDwells_eq_map hj hsh ht hs hlen]
  simp [he]

/-- The dwells of a line whose emitters are asked for exposures `asks`. -/
theorem State.lineDwells_drives {asks : Nat → Option Nat} (hlen : (s.lineAsks i j sh a k).length = 2048)
    (hasks : ∀ e, e < 2048 → (askAt (s.lineAsks i j sh a k) e).asksFor (asks e)) : ∀ e, e < 2048 →
    (s.lineDwells i a k).1[e]? = some (if (s.cal i).statuses[e]? = some .dead then 0 else
      (asks e).elim 0 (fun x => drivenDwell (s.rawAt i j e x) (j.expo.lineTicks - 40))) := by
  intro e he
  rw [State.lineDwells_fst hj hsh ht hs hlen he, askDwell_fst (hasks e he), status_getElem? hs he]
  simp only [Option.some.injEq]
  rfl

/-- The dots of a line that are counted. -/
theorem State.lineDwells_saturates {asks : Nat → Option Nat} (hlen : (s.lineAsks i j sh a k).length = 2048)
    (hasks : ∀ e, e < 2048 → (askAt (s.lineAsks i j sh a k) e).asksFor (asks e)) (hcounts : a.countsSaturation = true) :
    (s.lineDwells i a k).2 = ((List.range 2048).filter (fun e => decide ((s.cal i).statuses[e]? ≠ some .dead) &&
      (asks e).any (fun x => decide (j.expo.lineTicks - 40 < s.rawAt i j e x)))).length := by
  rw [State.lineDwells_eq_map hj hsh ht hs hlen]
  simp only [hcounts, if_true]
  refine congrArg List.length (List.filter_congr (fun e he => ?_))
  have he' : e < 2048 := List.mem_range.1 he
  rw [askDwell_snd (hasks e he'), status_getElem? hs he']
  simp only [ne_eq, Option.some.injEq]
  rfl

omit ht hs in
theorem State.lineDwells_uncounted (hcounts : a.countsSaturation = false) : (s.lineDwells i a k).2 = 0 := by
  simp [State.lineDwells, hj, hsh, hcounts]

end

/-! ## The areas (R99, R113, R114, R121) -/

section
variable {s : State} {i : StationId} {j : Job} {sh : Sheet} {k : Nat}

/-- Emitter `e` lies in the sheet's window. -/
def Sheet.inWindow (sh : Sheet) (ew e : Nat) : Bool := decide (sh.offset ≤ e) && decide (e < sh.offset + ew)

/-- A buffer that holds the line's band. -/
theorem Station.bufferOf_eq {x : Station} {b : BandBuffer} {n : Nat} (hb : b.state ≠ .free) (hband : b.band = n)
    (h : x.bufA = b ∨ (x.bufB = b ∧ (x.bufA.state = .free ∨ x.bufA.band ≠ n))) : x.bufferOf n = b := by
  unfold Station.bufferOf
  rcases h with rfl | ⟨rfl, hA⟩
  · exact if_pos (by simp [hb, hband])
  · exact if_neg (by rcases hA with hA | hA <;> simp [hA])

/-- A page's line: the dots of its band under the window. -/
theorem State.lineAsks_page {b : BandBuffer} {dots : List Nat} (hb : b.state ≠ .free) (hband : b.band = k / 64)
    (hbuf : (s.st i).bufA = b ∨ ((s.st i).bufB = b ∧ ((s.st i).bufA.state = .free ∨ (s.st i).bufA.band ≠ k / 64)))
    (hdots : b.dots[k % 64]? = some dots) :
    s.lineAsks i j sh .page k = windowAsks sh.offset (dots.map (fun p => .expose (toneEntry s.tones j.expo.tone p))) := by
  have hline : b.line k = dots := by
    have hmod : k - 64 * (k / 64) = k % 64 := by omega
    rw [BandBuffer.line, hband, Config.bandLines, hmod, List.getD_eq_getElem?_getD, hdots]
    rfl
  have hbuffer : (s.st i).bufferOf (k / Config.bandLines) = b := Station.bufferOf_eq hb hband hbuf
  simp only [State.lineAsks, hbuffer, hline]

theorem askAt_page {sh : Sheet} {dots : List Nat} {ew : Nat} (tone : Nat → Nat) (hlen : dots.length = ew) (e : Nat) :
    (askAt (windowAsks sh.offset (dots.map (fun p => .expose (tone p)))) e).asksFor
      (if sh.inWindow ew e then some (tone (dots.getD (e - sh.offset) 0)) else none) := by
  rw [askAt_windowAsks, List.length_map, hlen]
  by_cases h : sh.offset ≤ e ∧ e < sh.offset + ew
  · rw [if_pos h, if_pos (by simpa [Sheet.inWindow] using h)]
    have hin : e - sh.offset < dots.length := by omega
    simp [DotAsk.asksFor, List.getD_eq_getElem?_getD, hin]
  · rw [if_neg h, if_neg (by simpa [Sheet.inWindow] using h)]
    exact .inl rfl

theorem askAt_index {sh : Sheet} {ew level : Nat} (dot : Nat → Bool) (e : Nat) :
    (askAt (windowAsks sh.offset (textAsks level ew dot)) e).asksFor
      (if sh.inWindow ew e && dot (e - sh.offset) then some level else none) := by
  rw [askAt_windowAsks, textAsks_length]
  by_cases h : sh.offset ≤ e ∧ e < sh.offset + ew
  · rw [if_pos h, show sh.inWindow ew e = true by simpa [Sheet.inWindow] using h, textAsks_getD _ _ _ _ (by omega)]
    cases dot (e - sh.offset) <;> simp [DotAsk.asksFor]
  · rw [if_neg h, show sh.inWindow ew e = false by simpa [Sheet.inWindow] using h]
    exact .inl rfl

theorem askAt_title {level n : Nat} (dot : Nat → Bool) {e : Nat} (he : e < 2048) :
    (askAt (windowAsks 0 (textAsks level (swathWidth n) dot)) e).asksFor
      (if decide (n = 9 → e < 1768) && dot e then some level else none) := by
  have hwidth : e < swathWidth n ↔ (n = 9 → e < 1768) := by
    unfold swathWidth
    split
    next h => simp [h]
    next h => simp [h, Config.emitters, he]
  rw [askAt_windowAsks, textAsks_length]
  by_cases h : e < swathWidth n
  · rw [if_pos ⟨Nat.zero_le e, by omega⟩, show decide (n = 9 → e < 1768) = true from decide_eq_true (hwidth.1 h),
      Nat.sub_zero, textAsks_getD _ _ _ _ h]
    cases dot e <;> simp [DotAsk.asksFor]
  · rw [if_neg (by omega), show decide (n = 9 → e < 1768) = false from decide_eq_false (fun hh => h (hwidth.2 hh))]
    exact .inl rfl

variable (hj : s.attached i = some j) (hsh : (s.st i).sheet = some sh) (ht : (s.cal i).trims.length = 2048)
  (hs : (s.cal i).statuses.length = 2048) (hwindow : sh.offset + j.ew ≤ 2048)
include hj hsh ht hs hwindow

/-- A void pass drives the window for the longest dwell (R114). -/
theorem State.voidPass_drives : ∀ e, e < 2048 → (s.lineDwells i .voidPass k).1[e]? =
    some (if (s.cal i).statuses[e]? = some .dead then 0 else if sh.inWindow j.ew e then j.expo.lineTicks - 40 else 0) := by
  intro e he
  have hlen : (s.lineAsks i j sh .voidPass k).length = 2048 := windowAsks_length (by simpa using hwindow)
  rw [State.lineDwells_fst hj hsh ht hs hlen he, status_getElem? hs he]
  have hask : askAt (s.lineAsks i j sh .voidPass k) e = if sh.inWindow j.ew e then .void else .off := by
    rw [show s.lineAsks i j sh .voidPass k = windowAsks sh.offset (List.replicate j.ew .void) from rfl, askAt_windowAsks,
      List.length_replicate]
    by_cases h : sh.offset ≤ e ∧ e < sh.offset + j.ew
    · have hin : e - sh.offset < j.ew := by omega
      simp [h, Sheet.inWindow, List.getD_eq_getElem?_getD, hin]
    · rw [if_neg h, show sh.inWindow j.ew e = false by simpa [Sheet.inWindow] using h]
      rfl
  rw [hask]
  cases sh.inWindow j.ew e <;> simp [askDwell_void, askDwell_off]

end

end Sys2Proof.Machine
end


section
/-! PROOFS. The ends of lines (R99, R106, R121) and of areas (R80, R118, R126, R127, R137): the next line, and the station and its
calibration unit at an area's end. -/

namespace Sys2Proof.Machine

section
variable {s : State} {i : StationId} {j : Job} {a : Area} {k : Nat}

/-- LINE_END at a line of a station in EXPOSING. -/
theorem exec_lineEnd (hstate : (s.st i).state = .exposing) (hact : (s.st i).activity = .line a k) (hj : s.attached i = some j) :
    exec (.lineEnd i) s = (s.endLine i j a k).done := by
  show execLineEnd i s = _
  simp [execLineEnd, hstate, hact, hj]

/-! ## The clamps of the line counted (R112) -/

/-- A sheet with `n` clamps counted in its frame in flight. -/
def Sheet.clamped (n : Nat) (sh : Sheet) : Sheet :=
  { sh with openEntry := sh.openEntry.map (fun e => { e with saturated := e.saturated + n }) }

/-- A station with the clamps of its line counted. -/
def Station.clampsCounted (x : Station) : Station := { x with sheet := x.sheet.map (Sheet.clamped x.driveSaturated) }

theorem State.countSaturated_eq (s : State) (i : StationId) : s.countSaturated i = s.updSt i Station.clampsCounted :=
  State.updSt_congr rfl

theorem State.lineDwells_clampsCounted (n : Nat) :
    (s.updSt i Station.clampsCounted).lineDwells i a n = s.lineDwells i a n := by
  have hst : (s.updSt i Station.clampsCounted).st i = (s.st i).clampsCounted := State.st_updSt_same _ _ _
  exact State.lineDwells_of_alike (f := id) (g := Sheet.clamped (s.st i).driveSaturated) a n (fun _ => ⟨rfl, rfl, rfl, rfl⟩)
    (fun _ => ⟨rfl, rfl, rfl, rfl, rfl⟩) (by simp) (by rw [hst]; rfl) (by rw [hst]; rfl) (by rw [hst]; rfl) (by rw [hst]; rfl) rfl rfl

/-! ## The next line -/

/-- A line after an area's first, and after a band's first in a page, begins with nothing asked. -/
theorem State.startLine_goesOn {n : Nat} (hn : n ≠ 0) (h : a ≠ .page ∨ n % 64 ≠ 0) : s.startLine i a n = s.driveLine i a n := by
  rw [State.startLine_drives h, decide_eq_false hn, Bool.false_and]
  simp only [Station.agedWhen_false, State.updSt_id]

/-- The next line of an area, its station changed by `f` before. -/
theorem exec_lineEnd_nextLine {f : Station → Station} (hs : s.settled) (hexec : exec (.lineEnd i) s = (s.endLine i j a k).done)
    (hnext : s.endLine i j a k = (s.updSt i f).startLine i a (k + 1)) (hband : a ≠ .page ∨ (k + 1) % 64 ≠ 0)
    (hdwells : (s.updSt i f).lineDwells i a (k + 1) = s.lineDwells i a (k + 1)) :
    ∃ t, exec (.lineEnd i) s = .next t ∧ t = { s with stations := t.stations } ∧ (∀ q, q ≠ i → t.st q = s.st q) ∧
      t.st i = { f (s.st i) with
        activity := .line a (k + 1), drive := (s.lineDwells i a (k + 1)).1,
        driveSaturated := (s.lineDwells i a (k + 1)).2 } := by
  have hstart : s.endLine i j a k = (s.updSt i f).driveLine i a (k + 1) :=
    hnext.trans (State.startLine_goesOn (Nat.succ_ne_zero k) hband)
  refine ⟨(s.updSt i f).driveLine i a (k + 1), ?_, rfl, fun q hq => ?_, ?_⟩
  · rw [hexec, hstart]; exact State.done_of_settled hs
  · rw [State.driveLine, State.st_updSt_other _ _ hq, State.st_updSt_other _ _ hq]
  · rw [State.driveLine, State.st_updSt_same, State.st_updSt_same, hdwells]

/-- The lines of an area that are not its last are followed by the next: with the clamps counted, in a page frame and an index
frame. -/
theorem State.endLine_nextLine (hlines : match a with | .title _ => k + 1 < j.layout.t / 5 | _ => k + 1 < j.lines)
    (hband : a = .page → (k + 1) % 64 ≠ 0) : s.endLine i j a k =
      (s.updSt i (if a = .page ∨ a = .index then Station.clampsCounted else fun x => x)).startLine i a (k + 1) := by
  cases a with
  | title n =>
    have hno : ¬((Area.title n = .page) ∨ (Area.title n = .index)) := by simp
    rw [if_neg hno, State.updSt_id]
    exact if_pos hlines
  | page =>
    have hlines' : ¬j.lines ≤ k + 1 := Nat.not_le.2 hlines
    rw [if_pos (.inl rfl), ← State.countSaturated_eq]
    simp [State.endLine, State.pageLineEnd, hlines', Config.bandLines, hband rfl]
  | voidPass =>
    have hlines' : ¬j.lines ≤ k + 1 := Nat.not_le.2 hlines
    rw [if_neg (by simp), State.updSt_id]
    exact if_neg hlines'
  | index =>
    have hlines' : ¬j.lines ≤ k + 1 := Nat.not_le.2 hlines
    rw [if_pos (.inr rfl), ← State.countSaturated_eq]
    exact if_neg hlines'

/-! ## The end of an area -/

/-- Station `i` with its permit returned to nobody, its calibration unit and itself replaced. -/
def State.areaEnded (s : State) (i : StationId) (c : CalUnit) (x : Station) : State :=
  { s with
    permitHolders := s.permitHolders.filter (· != i), cals := (s.updCal i (fun _ => c)).cals,
    stations := (s.updSt i (fun _ => x)).stations }

section
variable {c : CalUnit} {x : Station}

@[simp] theorem State.areaEnded_st : (s.areaEnded i c x).st i = x := State.st_updSt_same s i (fun _ => x)
@[simp] theorem State.areaEnded_cal : (s.areaEnded i c x).cal i = c := State.cal_updCal_same s i (fun _ => c)
@[simp] theorem State.areaEnded_attached : (s.areaEnded i c x).attached i = s.attached i := rfl

theorem State.areaEnded_updSt (f : Station → Station) : (s.areaEnded i c x).updSt i f = s.areaEnded i c (f x) :=
  congrArg (fun u : State => { s.areaEnded i c x with stations := u.stations }) (State.updSt_updSt s i (fun _ => x) f)

/-- What a station was before is not seen once it is replaced. -/
theorem State.updSt_areaEnded (f : Station → Station) : (s.updSt i f).areaEnded i c x = s.areaEnded i c x :=
  congrArg (fun u : State => { s.areaEnded i c x with stations := u.stations }) (State.updSt_updSt s i f (fun _ => x))

theorem State.areaEnded_other {q : StationId} (hq : q ≠ i) :
    (s.areaEnded i c x).st q = s.st q ∧ (s.areaEnded i c x).cal q = s.cal q :=
  ⟨State.st_updSt_other s _ hq, State.cal_updCal_other s _ hq⟩

end

/-- A calibration unit replaced by itself. -/
theorem State.updCal_const (s : State) (i : StationId) : (s.updCal i (fun _ => s.cal i)).cals = s.cals :=
  (congrArg State.cals (show s.updCal i (fun _ => s.cal i) = s.updCal i (fun c => c) from rfl)).trans
    (congrArg State.cals (s.updCal_id i))

/-- A permit returned while no station waits for one. -/
theorem State.returnPermit_frees (h : s.permitQueue = []) :
    s.returnPermit i = { s with permitHolders := s.permitHolders.filter (· != i) } := by
  rcases s.returnPermit_cases i with ⟨hno, he⟩ | ⟨-, -, he⟩ | ⟨q, rest, -, hq, -⟩
  · rw [he, filter_ne_of_not_mem hno]
  · exact he
  · rw [h] at hq; cases hq

/-- A station with its emitters off, in the state that follows its exposure (R80). -/
def Station.exposed (next : StationState) (x : Station) : Station :=
  { x with state := next, activity := .idle, drive := [], driveSaturated := 0 }

/-- A station with its frame's entry in the map and its bands free (R126). -/
def Station.frameEnded (x : Station) : Station :=
  { x.exposed .sheetOpen with sheet := x.sheet.map Sheet.append, mapping := none, bufA := .empty, bufB := .empty }

section
variable (hpermits : s.permitQueue = [])
include hpermits

theorem State.endExposure_eq (next : StationState) : s.endExposure i next =
    ({ s with permitHolders := s.permitHolders.filter (· != i) } : State).updSt i (Station.exposed next) :=
  State.returnPermit_frees (s := s.updSt i (Station.exposed next)) hpermits

/-- The end of a frame with no row request on the port (R126, R137). -/
theorem State.endFrame_eq (harr : s.port.arriving = []) (hrows : ∀ r ∈ s.port.list, r.purpose ≠ .row i) :
    s.endFrame i = s.areaEnded i (CalUnit.frameEnd s.timing (s.cal i)) (s.st i).frameEnded := by
  let u : State := s.updSheet i Sheet.append
  have hport : u.port = s.port := rfl
  have hwith : u.withdraw (fun r => r.purpose == .row i) = u :=
    State.withdraw_of_none (s := u) (by simp [hport, harr]) (by simpa [hport] using hrows)
  have hmapping : u.endMapping i = s.updSt i (fun x => { x with
      sheet := x.sheet.map Sheet.append, mapping := none, bufA := .empty, bufB := .empty }) := by
    rw [State.endMapping, hwith]
    exact State.updSt_updSt s i _ _
  rw [State.endFrame, hmapping, State.endExposure_eq (s := s.updSt i _) hpermits]
  have hst : (s.updSt i (fun x => { x with
      sheet := x.sheet.map Sheet.append, mapping := none, bufA := .empty, bufB := .empty })).updSt i (Station.exposed .sheetOpen) =
      s.updSt i (fun _ => (s.st i).frameEnded) := (State.updSt_updSt s i _ _).trans (State.updSt_congr rfl)
  exact congrArg (fun w : State => { s.areaEnded i (CalUnit.frameEnd s.timing (s.cal i)) (s.st i).frameEnded with
    stations := w.stations }) hst

end

end

end Sys2Proof.Machine
end


section
/-! PROOFS. The frame boundary behind an area's end (R116, R117): the reading asked for or taken, the next page, the index frame,
or the photometer. -/

namespace Sys2Proof.Machine

section
variable {s : State} {i : StationId} {j : Job} {sh : Sheet} {c : CalUnit} {x : Station}

/-! ## The boundary reading (R60, R117) -/

/-- A station that waits for its boundary reading. -/
def Station.readsBoundary (x : Station) : Station := { x with activity := .boundaryReading, bandReading := none }

/-- The reading of the stop word at a boundary. -/
def boundaryRequest (i : StationId) (j : Job) : Request := readRequest (.boundary i) (addrPlus j.slotAddr 0x0C) 4

theorem State.boundary_unseen (hj : s.attached i = some j) (hseen : j.stopSeen = false) :
    s.boundary i = (s.updSt i Station.readsBoundary).askStop i (.boundary i) := by
  simp [State.boundary, State.stopSeen, hj, hseen]
  rfl

theorem State.boundary_seen (hj : s.attached i = some j) (hseen : j.stopSeen = true) : s.boundary i = s.boundaryDecision i := by
  simp [State.boundary, State.stopSeen, hj, hseen]

/-- No reading is outstanding: the boundary's is requested. -/
theorem State.askStop_requests {p : Purpose} (hj : s.attached i = some j) (hout : s.stopOutstanding i = false) :
    s.askStop i p = s.request (readRequest p (addrPlus j.slotAddr 0x0C) 4) := by
  simp [State.askStop, hout, hj]
  rfl

/-- A band reading outstanding serves for the boundary's (R60, log 24). -/
theorem State.askStop_serves {l l' : List Request} {r : Request} (harr : s.port.arriving = [])
    (hlist : s.port.list = l ++ r :: l') (hband : r.purpose = .band i) (hothers : ∀ q ∈ l ++ l', isStopReading i q = false) :
    s.askStop i (.boundary i) =
      { s with port := { s.port with list := l ++ { r with purpose := .boundary i } :: l' } } := by
  have hreads : isStopReading i r = true := by simp [isStopReading, hband]
  have hout : s.stopOutstanding i = true := by simp [State.stopOutstanding, hlist, hreads]
  have hkeep : ∀ m : List Request, (∀ q ∈ m, isStopReading i q = false) →
      m.map (fun q => if isStopReading i q then { q with purpose := servesBoth (.boundary i) q.purpose } else q) = m := by
    intro m hm
    refine (List.map_congr_left (fun q hq => if_neg (by simp [hm q hq]))).trans (List.map_id' m)
  have hl := hkeep l (fun q hq => hothers q (List.mem_append_left _ hq))
  have hl' := hkeep l' (fun q hq => hothers q (List.mem_append_right _ hq))
  rw [State.askStop, if_pos hout]
  simp only [hlist, harr, List.map_append, List.map_cons, hl, hl', hreads, if_true, hband, List.map_nil]
  rfl

/-- The port takes up a list that is empty or not, whatever stands on it (R171). -/
theorem settlePort_replaceList {ctrl : Ctrl} {p : Port} {l : List Request} (h : settlePort ctrl p = p)
    (hl : l.isEmpty = p.list.isEmpty) : settlePort ctrl { p with list := l } = { p with list := l } := by
  unfold settlePort at h ⊢
  cases hm : p.master with
  | tenure => rfl
  | parked =>
    simp only [hm, hl] at h ⊢
    split at h
    next hb =>
      have hmaster := congrArg Port.master h
      rw [hm] at hmaster
      simp only [Port.begin] at hmaster
      split at hmaster
      next he => simp [he] at hb
      next => cases hmaster
    next hb => rw [if_neg hb]
  | idle | requesting | granted =>
    simp only [hm, hl] at h ⊢
    split at h
    next => exact absurd (congrArg Port.master h) (by simp [hm])
    next hb => rw [if_neg hb]

/-! ## The decision (R116) -/

/-- With no QUICK due and a page to come: its entry is read. -/
theorem State.boundaryDecision_goes (hdue : (s.cal i).quickDue = false) (hj : s.attached i = some j)
    (hsh : (s.st i).sheet = some sh) (htitle : sh.titleDone = true) (hseen : j.stopSeen = false) (hpos : sh.nextPos < j.frames)
    (hpage : j.nextPage < j.pageCount) : s.boundaryDecision i =
      (s.updSt i (fun x => { x with activity := .entryRead })).request
        (readRequest (.pageEntry i) (addrPlus j.ticket (0xD0 + 48 * j.nextPage)) 32) := by
  rw [State.boundaryDecision, if_neg (by simp [hdue]), State.nextArea_readsEntry hj hsh htitle hseen hpos hpage]
  rfl

/-- With no QUICK due and no page to come: the index frame is positioned. -/
theorem State.boundaryDecision_index (hdue : (s.cal i).quickDue = false) (hj : s.attached i = some j)
    (hsh : (s.st i).sheet = some sh) (htitle : sh.titleDone = true)
    (hstops : ¬(j.stopSeen = false ∧ sh.nextPos < j.frames ∧ j.nextPage < j.pageCount)) :
    s.boundaryDecision i = s.updSt i (fun x => x.indexPositioned j sh) := by
  have hno : ¬(!j.stopSeen && decide (sh.nextPos < j.frames) && decide (j.nextPage < j.pageCount)) = true := by
    simpa [and_assoc] using hstops
  have hindex : s.indexDecision i j sh = s.updSt i (fun x => x.indexPositioned j sh) := by
    rw [State.indexDecision, State.positionFrame, State.position, State.updSheet, State.updSt_updSt]
    exact State.updSt_congr (by simp [Station.indexPositioned, hsh, newEntry, headForFrame])
  rw [State.boundaryDecision, if_neg (by simp [hdue])]
  simp only [State.nextArea, hj, hsh, htitle, Bool.not_true, Bool.false_eq_true, if_false, if_neg hno, hindex]

/-- A station that waits for its QUICK at a boundary. -/
def Station.waitsQuick (x : Station) : Station := { x with activity := .quickWait }

/-- With a QUICK due the photometer is taken, or waited for. -/
theorem State.boundaryDecision_quick (hdue : (s.cal i).quickDue = true) :
    s.boundaryDecision i = (s.updSt i Station.waitsQuick).askPhotometer i := if_pos hdue

theorem State.askPhotometer_waits (hother : s.photometer ≠ some i) (hno : i ∉ s.photometerQueue) (hheld : s.photometer ≠ none) :
    s.askPhotometer i = { s with photometerQueue := s.photometerQueue ++ [i] } := by
  rcases s.askPhotometer_cases i with ⟨h, -⟩ | ⟨h, -, -⟩ | ⟨-, -, -, he⟩
  · exact (h.elim hother hno).elim
  · exact absurd h hheld
  · exact he

theorem State.askPhotometer_takes (hno : i ∉ s.photometerQueue) (hfree : s.photometer = none) :
    s.askPhotometer i = s.grantPhotometer i := by
  rcases s.askPhotometer_cases i with ⟨h, -⟩ | ⟨-, -, he⟩ | ⟨h, -, -, -⟩
  · exact (h.elim (by simp [hfree]) hno).elim
  · exact he
  · exact absurd hfree h

/-! ## The ends of the areas (R121, R126, R127) -/

/-- The stop that the last band's reading found is taken note of (R117). -/
def State.noted (s : State) (i : StationId) (made : Option Bool) : State := if made = some true then s.seeStop i else s

/-- A job whose stop-seen flag has been raised when `made` found a stop. -/
def Job.noted (made : Option Bool) (j : Job) : Job := if made = some true then { j with stopSeen := true } else j

theorem State.noted_eq (hj : s.attached i = some j) (made : Option Bool) : s.noted i made =
    { s with jobs := if made = some true then s.jobsWith j.slotAddr (fun q => { q with stopSeen := true }) else s.jobs } := by
  unfold State.noted
  split
  · rw [State.seeStop_of_attached hj]; rfl
  · rfl

theorem State.noted_attached (hj : s.attached i = some j) (made : Option Bool) :
    (s.noted i made).attached i = some (j.noted made) := by
  unfold State.noted Job.noted
  split
  · rw [State.seeStop_of_attached hj, State.attached_updJob (f := fun k => { k with stopSeen := true }) (fun _ => rfl), hj]
    exact congrArg some (if_pos rfl)
  · exact hj

variable {k : Nat}

/-- A station at the end of its title strip. -/
def Station.titleEnded (x : Station) : Station :=
  { x.exposed .sheetOpen with sheet := x.sheet.map (fun sh => { sh with titleDone := true }) }

/-- A station whose sheet is carried off after its index frame. -/
def Station.indexEnded (x : Station) : Station :=
  { x.exposed .closing with sheet := x.sheet.map Sheet.append, transport := .carry }

/-- Changes of a station and of its calibration unit are made in either order. -/
theorem State.updSt_updCal (w : State) (i : StationId) (f : Station → Station) (g : CalUnit → CalUnit) :
    (w.updSt i f).updCal i g = (w.updCal i g).updSt i f := rfl

/-- A frame ended at a station whose permit is back, its sheet to be carried off. -/
theorem State.carriesOff_eq (w : State) (i : StationId) :
    (((((w.updSt i Station.clampsCounted).updSheet i Sheet.append).updSt i (Station.exposed .closing)).frameEndEvent i).updSt i
      (fun x => { x with transport := .carry })) =
      (w.updCal i (fun _ => CalUnit.frameEnd w.timing (w.cal i))).updSt i (fun _ => (w.st i).clampsCounted.indexEnded) := by
  rw [State.updSheet, State.updSt_updSt, State.updSt_updSt, State.frameEndEvent, State.updSt_updCal, State.updSt_timing,
    State.updSt_updSt]
  exact State.updSt_congr rfl

section
variable (hpermits : s.permitQueue = [])
include hpermits

theorem State.endLine_title {n : Nat} (hline : j.layout.t / 5 ≤ k + 1) (hlast : 9 ≤ n) :
    s.endLine i j (.title n) k = (s.areaEnded i (s.cal i) (s.st i).titleEnded).boundary i := by
  have hswath : ¬n + 1 < Config.swaths := by rw [Config.swaths]; omega
  have hended : (s.updSheet i (fun sh => { sh with titleDone := true })).endExposure i .sheetOpen =
      s.areaEnded i (s.cal i) (s.st i).titleEnded := by
    rw [State.endExposure_eq (s := s.updSheet i _) hpermits, State.areaEnded, State.updCal_const]
    have hst : (s.updSheet i (fun sh => { sh with titleDone := true })).updSt i (Station.exposed .sheetOpen) =
        s.updSt i (fun _ => (s.st i).titleEnded) := (State.updSt_updSt s i _ _).trans (State.updSt_congr rfl)
    exact congrArg (fun u : State => { s with
      permitHolders := s.permitHolders.filter (· != i), stations := u.stations }) hst
  rw [State.endLine, State.titleLineEnd, if_neg (Nat.not_lt.2 hline), if_neg hswath, hended]

theorem State.endLine_voidPass (hline : j.lines ≤ k + 1) (harr : s.port.arriving = [])
    (hrows : ∀ r ∈ s.port.list, r.purpose ≠ .row i) : s.endLine i j .voidPass k =
      (s.areaEnded i (CalUnit.frameEnd s.timing (s.cal i)) (s.st i).frameEnded).boundary i := by
  rw [State.endLine, State.voidLineEnd, if_pos hline, State.endFrame_eq hpermits harr hrows]

/-- The last line of a page frame whose last band has been read: that reading serves as the boundary reading (R117). -/
theorem State.endLine_page_read {stop : Bool} (hj : s.attached i = some j) (hline : j.lines ≤ k + 1) (harr : s.port.arriving = [])
    (hrows : ∀ r ∈ s.port.list, r.purpose ≠ .row i) (hread : (s.st i).bandReading = some stop) : s.endLine i j .page k =
      ((s.noted i (some stop)).areaEnded i (CalUnit.frameEnd s.timing (s.cal i))
        (s.st i).clampsCounted.frameEnded).boundaryDecision i := by
  let u := s.updSt i Station.clampsCounted
  have hst : u.st i = (s.st i).clampsCounted := State.st_updSt_same _ _ _
  have hnoted : u.noted i (some stop) = (s.noted i (some stop)).updSt i Station.clampsCounted := by
    rw [State.noted_eq (s := u) hj, State.noted_eq hj]
    rfl
  have hnst : (s.noted i (some stop)).st i = s.st i := by rw [State.noted_eq hj]; rfl
  have hncal : (s.noted i (some stop)).cal i = s.cal i := by rw [State.noted_eq hj]; rfl
  have hntiming : (s.noted i (some stop)).timing = s.timing := by rw [State.noted_eq hj]
  have hnport : (s.noted i (some stop)).port = s.port := by rw [State.noted_eq hj]
  have hnqueue : (s.noted i (some stop)).permitQueue = s.permitQueue := by rw [State.noted_eq hj]
  have hend : (u.noted i (some stop)).endFrame i = (s.noted i (some stop)).areaEnded i (CalUnit.frameEnd s.timing (s.cal i))
      (s.st i).clampsCounted.frameEnded := by
    rw [hnoted, State.endFrame_eq (s := (s.noted i (some stop)).updSt i Station.clampsCounted) (hnqueue.trans hpermits)
      (by rw [State.updSt_port, hnport]; exact harr) (by rw [State.updSt_port, hnport]; exact hrows), State.st_updSt_same, hnst,
      State.cal_updSt, hncal, State.updSt_timing, hntiming, State.updSt_areaEnded]
  have hif : (if stop then u.seeStop i else u) = u.noted i (some stop) := by cases stop <;> rfl
  rw [State.endLine, State.pageLineEnd, if_pos hline, State.countSaturated_eq, State.pageFrameEnd, hst,
    show (s.st i).clampsCounted.bandReading = some stop from hread]
  exact congrArg (State.boundaryDecision · i) ((congrArg (State.endFrame · i) hif).trans hend)

theorem State.endLine_page_unread (hline : j.lines ≤ k + 1) (harr : s.port.arriving = [])
    (hrows : ∀ r ∈ s.port.list, r.purpose ≠ .row i) (hread : (s.st i).bandReading = none) : s.endLine i j .page k =
      (s.areaEnded i (CalUnit.frameEnd s.timing (s.cal i)) (s.st i).clampsCounted.frameEnded).boundary i := by
  let u := s.updSt i Station.clampsCounted
  have hst : u.st i = (s.st i).clampsCounted := State.st_updSt_same _ _ _
  have hend : u.endFrame i = s.areaEnded i (CalUnit.frameEnd s.timing (s.cal i)) (s.st i).clampsCounted.frameEnded := by
    rw [State.endFrame_eq (s := u) hpermits harr hrows, hst]
    exact State.updSt_areaEnded _
  rw [State.endLine, State.pageLineEnd, if_pos hline, State.countSaturated_eq, State.pageFrameEnd, hst,
    show (s.st i).clampsCounted.bandReading = none from hread]
  exact congrArg (State.boundary · i) hend

theorem State.endLine_index (hline : j.lines ≤ k + 1) : s.endLine i j .index k =
    s.areaEnded i (CalUnit.frameEnd s.timing (s.cal i)) (s.st i).clampsCounted.indexEnded := by
  rw [State.endLine, State.indexLineEnd, if_pos hline, State.countSaturated_eq,
    State.endExposure_eq (s := (s.updSt i Station.clampsCounted).updSheet i Sheet.append) hpermits]
  exact State.carriesOff_eq { s with permitHolders := s.permitHolders.filter (· != i) } i

end

end

end Sys2Proof.Machine
end


section
/-! PROOFS. LINE_END of an area's last line (R116 to R118, R126, R127, R137): what it answers at the boundary, in the words of the
statement, and the permit it passes on. -/

namespace Sys2Proof.Machine

section
variable {s : State} {i : StationId} {j : Job} {sh sh' : Sheet} {cal : CalUnit} {opened : Station} {made : Option Bool}

/-! ## The answer at a boundary -/

/-- The boundary behind an area's end: the reading that the last band made is taken, and otherwise the boundary's own is asked
for. -/
def State.boundaryBehind (s : State) (i : StationId) (made : Option Bool) (cal : CalUnit) (opened : Station) : State :=
  if made = none then (s.areaEnded i cal opened).boundary i
  else ((s.noted i made).areaEnded i cal opened).boundaryDecision i

/-- The jobs once the last band's stop has been taken note of. -/
def State.jobsNoted (s : State) (j : Job) (made : Option Bool) : List Job :=
  if made = some true then s.jobsWith j.slotAddr (fun q => { q with stopSeen := true }) else s.jobs

variable (hj : s.attached i = some j)
include hj

theorem State.boundaryBehind_unseen (hmade : made = none) (hseen : j.stopSeen = false) :
    s.boundaryBehind i made cal opened = (s.areaEnded i cal opened.readsBoundary).askStop i (.boundary i) := by
  rw [State.boundaryBehind, if_pos hmade, State.boundary_unseen (s := s.areaEnded i cal opened) hj hseen, State.areaEnded_updSt]

/-- A stop seen, or a reading made: the decision follows, with the last band's stop taken note of. -/
theorem State.boundaryBehind_decides (h : made ≠ none ∨ j.stopSeen = true) : s.boundaryBehind i made cal opened =
    (({ s with jobs := s.jobsNoted j made } : State).areaEnded i cal opened).boundaryDecision i := by
  unfold State.boundaryBehind
  split
  next hnone =>
    subst hnone
    exact State.boundary_seen (s := s.areaEnded i cal opened) hj (h.resolve_left (by simp))
  next => rw [State.noted_eq hj]; rfl

theorem State.jobsNoted_attached : ({ s with jobs := s.jobsNoted j made } : State).attached i = some (j.noted made) := by
  have h := State.noted_attached hj made
  rw [State.noted_eq hj] at h
  exact h

omit hj in
theorem Job.noted_stopSeen (j : Job) (made : Option Bool) :
    (j.noted made).stopSeen = false ↔ ¬(j.stopSeen = true ∨ made = some true) := by
  unfold Job.noted
  split
  next h => simp [h]
  next h => simp [h]

omit hj in
/-- The flag alone changes. -/
theorem Job.noted_spec (j : Job) (made : Option Bool) : (j.noted made).layout = j.layout ∧ (j.noted made).frames = j.frames ∧
    (j.noted made).ticket = j.ticket ∧ (j.noted made).nextPage = j.nextPage ∧ (j.noted made).pageCount = j.pageCount := by
  unfold Job.noted
  split <;> exact ⟨rfl, rfl, rfl, rfl, rfl⟩

variable (hs : s.settled) (hexec : exec (.lineEnd i) s = (s.boundaryBehind i made cal opened).done)
include hs hexec

/-- The reading asked for at the boundary (R117). -/
theorem exec_lineEnd_requests (hmade : made = none) (hseen : j.stopSeen = false) (hout : s.stopOutstanding i = false) :
    exec (.lineEnd i) s = .next { s.areaEnded i cal opened.readsBoundary with
      port := s.portWith [readRequest (.boundary i) (addrPlus j.slotAddr 0x0C) 4] } := by
  rw [hexec, State.boundaryBehind_unseen hj hmade hseen,
    State.askStop_requests (s := s.areaEnded i cal opened.readsBoundary) hj hout]
  exact State.done_request_one hs.1 rfl rfl

/-- The outstanding band reading taken as the boundary's (R60, log 24). -/
theorem exec_lineEnd_serves {l l' : List Request} {r : Request} (hmade : made = none) (hseen : j.stopSeen = false)
    (hlist : s.port.list = l ++ r :: l') (hband : r.purpose = .band i) (hothers : ∀ q ∈ l ++ l', isStopReading i q = false) :
    exec (.lineEnd i) s = .next { s.areaEnded i cal opened.readsBoundary with
      port := { s.port with list := l ++ { r with purpose := .boundary i } :: l' } } := by
  rw [hexec, State.boundaryBehind_unseen hj hmade hseen,
    State.askStop_serves (s := s.areaEnded i cal opened.readsBoundary) hs.1 hlist hband hothers]
  refine State.done_of_settled ⟨hs.1, settlePort_replaceList hs.2 ?_⟩
  rw [show (s.areaEnded i cal opened.readsBoundary).port.list = l ++ r :: l' from hlist]
  cases l <;> rfl

section
variable (hreads : made ≠ none ∨ j.stopSeen = true)
include hreads

/-- The decision at the boundary with no QUICK due: the next page's entry read, or the index frame positioned (R116). -/
theorem exec_lineEnd_decides (hsheet : opened.sheet = some sh') (hpos : sh'.nextPos = sh.nextPos) (hdue : cal.quickDue = false)
    (htitle : sh'.titleDone = true) :
    let seen := j.stopSeen = true ∨ made = some true
    let goes := ¬seen ∧ sh.nextPos < j.frames ∧ j.nextPage < j.pageCount
    (goes → exec (.lineEnd i) s = .next { s.areaEnded i cal { opened with activity := .entryRead } with
      jobs := s.jobsNoted j made,
      port := s.portWith [readRequest (.pageEntry i) (addrPlus j.ticket (0xD0 + 48 * j.nextPage)) 32] }) ∧
    (¬goes → exec (.lineEnd i) s = .next { s.areaEnded i cal (opened.indexPositioned j sh') with jobs := s.jobsNoted j made }) := by
  intro seen goes
  let w : State := { s with jobs := s.jobsNoted j made }
  let u : State := w.areaEnded i cal opened
  have hwj : u.attached i = some (j.noted made) := State.jobsNoted_attached (s := s) (made := made) hj
  have hudue : (u.cal i).quickDue = false := by rw [State.areaEnded_cal]; exact hdue
  have husheet : (u.st i).sheet = some sh' := by rw [State.areaEnded_st]; exact hsheet
  obtain ⟨hlayout, hframes, hticket, hnext, hcount⟩ := j.noted_spec made
  have hstops : ((j.noted made).stopSeen = false ∧ sh'.nextPos < (j.noted made).frames ∧
      (j.noted made).nextPage < (j.noted made).pageCount) ↔ goes := by
    rw [Job.noted_stopSeen, hpos, hframes, hnext, hcount]
  rw [hexec, State.boundaryBehind_decides hj hreads]
  refine ⟨fun hgoes => ?_, fun hno => ?_⟩
  · obtain ⟨hseen, hfits, hpage⟩ := hstops.2 hgoes
    rw [State.boundaryDecision_goes (s := u) hudue hwj husheet htitle hseen hfits hpage, State.areaEnded_updSt, hticket, hnext]
    exact State.done_request_one hs.1 rfl rfl
  · have hindex : opened.indexPositioned (j.noted made) sh' = opened.indexPositioned j sh' := by
      simp only [Station.indexPositioned, hlayout, hframes]
    rw [State.boundaryDecision_index (s := u) hudue hwj husheet htitle (fun h => hno (hstops.1 h)), State.areaEnded_updSt, hindex]
    exact State.done_of_settled hs

/-- The decision at the boundary with a QUICK due: the photometer waited for, or taken (R116, R143). -/
theorem exec_lineEnd_calibrates (hsheet : opened.sheet = some sh') (hdue : cal.quickDue = true) (hvalid : cal.valid = true)
    (hother : s.photometer ≠ some i) (hno : i ∉ s.photometerQueue) :
    (s.photometer ≠ none → exec (.lineEnd i) s = .next { s.areaEnded i cal { opened with activity := .quickWait } with
      jobs := s.jobsNoted j made, photometerQueue := s.photometerQueue ++ [i] }) ∧
    (s.photometer = none → ∃ t, exec (.lineEnd i) s = .next t ∧ t.jobs = s.jobsNoted j made ∧ t.photometer = some i ∧
      (t.st i).state = .calibrating ∧ (t.st i).head = .photometer ∧ (t.st i).sheet = some sh' ∧
      (t.cal i).flight.map (·.kind) = some .quick ∧ t.permitHolders = s.permitHolders.filter (· != i) ∧
      ∀ q, q ≠ i → t.st q = s.st q ∧ t.cal q = s.cal q) := by
  let w : State := { s with jobs := s.jobsNoted j made }
  let u : State := w.areaEnded i cal opened.waitsQuick
  have hdecides : s.boundaryBehind i made cal opened = u.askPhotometer i := by
    have hudue : ((w.areaEnded i cal opened).cal i).quickDue = true := by rw [State.areaEnded_cal]; exact hdue
    rw [State.boundaryBehind_decides hj hreads, State.boundaryDecision_quick (s := w.areaEnded i cal opened) hudue,
      State.areaEnded_updSt]
  rw [hexec, hdecides]
  refine ⟨fun hheld => ?_, fun hfree => ?_⟩
  · rw [State.askPhotometer_waits (s := u) hother hno hheld]
    exact State.done_of_settled hs
  · rw [State.askPhotometer_takes (s := u) hno hfree]
    obtain ⟨-, -, hothers, -⟩ := u.grantPhotometer_spec i
    have hst : (u.grantPhotometer i).st i = opened.waitsQuick.calibrates :=
      (u.grantPhotometer_st i).trans (congrArg Station.calibrates State.areaEnded_st)
    have hcal : (u.grantPhotometer i).cal i = cal.begun true := by
      have hust : u.st i = opened.waitsQuick := State.areaEnded_st
      have hucal : u.cal i = cal := State.areaEnded_cal
      rw [u.grantPhotometer_cal i, hust, hucal, show opened.waitsQuick.sheet.isSome = true by simp [Station.waitsQuick, hsheet]]
    obtain ⟨-, -, hjobs, -⟩ := u.grantPhotometer_dispatch i
    refine ⟨_, State.done_of_settled (State.settled_congr (s := u) hs rfl rfl), hjobs, rfl, ?_, ?_, ?_, ?_, rfl, fun q hq => ?_⟩
    · rw [hst]; rfl
    · rw [hst]; rfl
    · rw [hst]; exact hsheet
    · rw [hcal]; simp [CalUnit.begun, CalUnit.granted, hvalid]
    · obtain ⟨hstq, hcalq⟩ := hothers q hq
      exact ⟨hstq.trans (State.areaEnded_other (s := w) hq).1, hcalq.trans (State.areaEnded_other (s := w) hq).2⟩

end

end

end Sys2Proof.Machine
end


section
/-! PROOFS. The permit passed on at the end of an area (R118): what the returning station does before and after leaves the area
begun by the list's head as it is, and its own sheet goes on open, or is carried off. -/

namespace Sys2Proof.Machine

section
variable {s : State} {i q : StationId} {b : Area} {rest : List StationId} {v : ExposureView}

/-! ## Before the return -/

/-- Station `i`'s permit is awaited by `q`, which with it will be seen as `v`. -/
def State.willPass (s : State) (i q : StationId) (b : Area) (rest : List StationId) (v : ExposureView) : Prop :=
  s.permitAwaited i q b rest ∧ s.passedOn i q b rest = v

theorem State.willPass_updSt (f : Station → Station) (h : s.willPass i q b rest v) : (s.updSt i f).willPass i q b rest v := by
  obtain ⟨hawaited, hpassed⟩ := h
  have hst : (s.updSt i f).st q = s.st q := State.st_updSt_other s f hawaited.ne
  have hdwells : (s.updSt i f).lineDwells q b 0 = s.lineDwells q b 0 := State.lineDwells_congr b 0 rfl hst rfl rfl
  obtain ⟨hholds, hno, hqueue, hwaits⟩ := hawaited
  exact ⟨⟨hholds, hno, hqueue, by rw [hst]; exact hwaits⟩, by rw [← hpassed, State.passedOn, hdwells]; rfl⟩

/-- Withdrawn requests. -/
theorem State.willPass_withdraw (p : Request → Bool) (h : s.willPass i q b rest v) : (s.withdraw p).willPass i q b rest v := by
  obtain ⟨hawaited, hpassed⟩ := h
  have hdwells : (s.withdraw p).lineDwells q b 0 = s.lineDwells q b 0 := State.lineDwells_congr b 0 rfl rfl rfl rfl
  exact ⟨hawaited, by rw [← hpassed, State.passedOn, hdwells]; rfl⟩

/-- A stop that is seen does not change what a job asks for. -/
theorem State.willPass_seeStop (k : StationId) (h : s.willPass i q b rest v) : (s.seeStop k).willPass i q b rest v := by
  cases hj : s.attached k with
  | none => rw [show s.seeStop k = s by simp [State.seeStop, hj]]; exact h
  | some j =>
    obtain ⟨hawaited, hpassed⟩ := h
    rw [State.seeStop_of_attached hj]
    have hdwells : (s.updJob j.slotAddr (fun j => { j with stopSeen := true })).lineDwells q b 0 = s.lineDwells q b 0 := by
      refine State.lineDwells_of_alike (f := fun l => if l.slotAddr = j.slotAddr then { l with stopSeen := true } else l) (g := id)
        b 0 (fun l => ?_) (fun _ => ⟨rfl, rfl, rfl, rfl, rfl⟩)
        (State.attached_updJob (f := fun l => { l with stopSeen := true }) (fun _ => rfl) q) (by simp) rfl rfl rfl rfl rfl
      split <;> exact ⟨rfl, rfl, rfl, rfl⟩
    exact ⟨hawaited, by rw [← hpassed, State.passedOn, hdwells]; rfl⟩

/-- A stop that is seen changes no station. -/
theorem State.seeStop_st (s : State) (i k : StationId) : (s.seeStop i).st k = s.st k := by
  unfold State.seeStop
  split <;> rfl

/-! ## The return -/

/-- A permit granted changes no other station. -/
theorem State.grantPermit_elsewhere (s : State) {k : StationId} (h : k ≠ q) : (s.grantPermit q).st k = s.st k := by
  unfold State.grantPermit
  dsimp only
  split
  next a _ =>
    let u : State := ({ s with permitHolders := s.permitHolders ++ [q] } : State).updSt q (fun x => { x with state := .exposing })
    obtain ⟨-, -, -, -, hothers⟩ := u.startLine_spec q a 0
    exact (hothers k h).trans (State.st_updSt_other { s with permitHolders := s.permitHolders ++ [q] } _ h)
  next => rfl

theorem State.returnPermit_elsewhere {k : StationId} (h : k ∉ s.permitQueue) : (s.returnPermit i).st k = s.st k := by
  rcases s.returnPermit_cases i with ⟨-, he⟩ | ⟨-, -, he⟩ | ⟨q, rest, -, hqueue, he⟩
  · rw [he]
  · rw [he]; rfl
  · rw [he]
    refine State.grantPermit_elsewhere { s with permitHolders := s.permitHolders.filter (· != i), permitQueue := rest } ?_
    rintro rfl
    exact h (by simp [hqueue])

/-- The end of an exposure whose permit is awaited. -/
theorem State.endExposure_passes (next : StationState) (h : s.willPass i q b rest v) :
    (s.endExposure i next).exposureAt q = v ∧ (s.endExposure i next).st i = (s.st i).exposed next := by
  obtain ⟨hawaited, hpassed⟩ := State.willPass_updSt (Station.exposed next) h
  obtain ⟨-, hno, -, -⟩ := h.1
  refine ⟨(State.returnPermit_passes hawaited).trans hpassed, ?_⟩
  exact (State.returnPermit_elsewhere (s := s.updSt i (Station.exposed next)) hno).trans (State.st_updSt_same _ _ _)

/-- The end of a frame whose permit is awaited. -/
theorem State.endFrame_passes (h : s.willPass i q b rest v) :
    (s.endFrame i).exposureAt q = v ∧ (s.endFrame i).st i = (s.st i).frameEnded := by
  let u : State := (s.updSheet i Sheet.append).endMapping i
  have hu : u.willPass i q b rest v := State.willPass_updSt _ (State.willPass_withdraw _ (State.willPass_updSt _ h))
  have hust : u.st i = { s.st i with
      sheet := (s.st i).sheet.map Sheet.append, mapping := none, bufA := .empty, bufB := .empty } :=
    (State.st_updSt_same _ i _).trans (congrArg (fun x : Station => { x with mapping := none, bufA := .empty, bufB := .empty })
      (State.st_updSt_same s i _))
  obtain ⟨hview, hst⟩ := State.endExposure_passes .sheetOpen hu
  exact ⟨hview, hst.trans (congrArg (Station.exposed .sheetOpen) hust)⟩

/-! ## After the return -/

/-- The number of frames of a station's sheet. -/
def Station.mapLength (x : Station) : Option Nat := x.sheet.map (·.map.length)

/-- Station `i`, its exposure over, has its sheet of `n` frames open, or calibrates (R80, R143). -/
def State.goesOn (t : State) (i : StationId) (n : Nat) : Prop :=
  ((t.st i).state = .sheetOpen ∨ ((t.st i).state = .calibrating ∧ t.photometer = some i)) ∧ (t.st i).mapLength = some n

/-- An open sheet of `n` frames. -/
def Station.opened (x : Station) (n : Nat) : Prop := x.state = .sheetOpen ∧ x.mapLength = some n

variable {n : Nat}

theorem State.goesOn_of_opened (h : (s.st i).opened n) : s.goesOn i n := ⟨.inl h.1, h.2⟩

theorem State.goesOn_of_behind {t : State} (hb : t.behindScanner = s.behindScanner) (h : s.goesOn i n) : t.goesOn i n := by
  have hst : t.st i = s.st i := congrArg (PerStation.get · i) (show t.stations = s.stations from congrArg (·.stations) hb)
  have hphoto : t.photometer = s.photometer := congrArg (·.photometer) hb
  simp only [State.goesOn, hst, hphoto]
  exact h

section
variable (hq : q ≠ i) (h : (s.st i).opened n)
include hq h

/-- A step of the station that leaves it in SHEET_OPEN, its map as it is. -/
theorem State.updSt_goesOn {f : Station → Station} (hstate : (f (s.st i)).state = (s.st i).state)
    (hmap : (f (s.st i)).mapLength = (s.st i).mapLength) :
    (s.updSt i f).exposureAt q = s.exposureAt q ∧ (s.updSt i f).goesOn i n := by
  have hst : (s.updSt i f).st i = f (s.st i) := State.st_updSt_same s i f
  refine ⟨s.exposureAt_elsewhere f hq, State.goesOn_of_opened ⟨?_, ?_⟩⟩
  · rw [hst, hstate]; exact h.1
  · rw [hst, hmap]; exact h.2

theorem State.askPhotometer_goesOn : (s.askPhotometer i).exposureAt q = s.exposureAt q ∧ (s.askPhotometer i).goesOn i n := by
  refine ⟨s.exposureAt_askPhotometer hq, ?_⟩
  rcases s.askPhotometer_cases i with ⟨-, he⟩ | ⟨-, -, he⟩ | ⟨-, -, -, he⟩
  · rw [he]; exact State.goesOn_of_opened h
  · have hst : (s.grantPhotometer i).st i = (s.st i).calibrates := s.grantPhotometer_st i
    rw [he]
    exact ⟨.inr ⟨by rw [hst]; rfl, rfl⟩, by rw [hst]; exact h.2⟩
  · rw [he]; exact State.goesOn_of_opened h

theorem State.nextArea_goesOn : (s.nextArea i).exposureAt q = s.exposureAt q ∧ (s.nextArea i).goesOn i n := by
  unfold State.nextArea
  split
  next j sh _ hsh =>
    split
    · exact State.updSt_goesOn hq h rfl rfl
    split
    · exact State.updSt_goesOn (f := fun x => { x with activity := .entryRead }) hq h rfl rfl
    · rw [State.indexDecision, State.positionFrame, State.position, State.updSheet, State.updSt_updSt]
      exact State.updSt_goesOn hq h rfl (by simp [Station.mapLength, Function.comp_def])
  next => exact ⟨rfl, State.goesOn_of_opened h⟩

theorem State.boundaryDecision_goesOn :
    (s.boundaryDecision i).exposureAt q = s.exposureAt q ∧ (s.boundaryDecision i).goesOn i n := by
  unfold State.boundaryDecision
  split
  · have hopened : ((s.updSt i Station.waitsQuick).st i).opened n := by rw [State.st_updSt_same]; exact h
    obtain ⟨hview, hgoes⟩ := State.askPhotometer_goesOn hq hopened
    exact ⟨hview.trans (s.exposureAt_elsewhere _ hq), hgoes⟩
  · exact State.nextArea_goesOn hq h

theorem State.boundary_goesOn : (s.boundary i).exposureAt q = s.exposureAt q ∧ (s.boundary i).goesOn i n := by
  unfold State.boundary
  split
  · exact State.boundaryDecision_goesOn hq h
  · obtain ⟨hview, hgoes⟩ := State.updSt_goesOn (f := Station.readsBoundary) hq h rfl rfl
    let u : State := s.updSt i Station.readsBoundary
    exact ⟨(u.exposureAt_askStop i (.boundary i)).trans hview, State.goesOn_of_behind (u.askStop_scanOnly i (.boundary i)).1 hgoes⟩

end

/-! ## The ends of areas -/

/-- The frames of a sheet once its frame in flight has joined the map. -/
def Sheet.framesEnded (sh : Sheet) : Nat := (sh.map ++ sh.openEntry.toList).length

theorem Sheet.framesEnded_clamped (m : Nat) (sh : Sheet) : (sh.clamped m).framesEnded = sh.framesEnded := by
  cases he : sh.openEntry <;> simp [Sheet.framesEnded, Sheet.clamped, he]

theorem Station.frameEnded_opened {x : Station} {sh : Sheet} (hsh : x.sheet = some sh) : x.frameEnded.opened sh.framesEnded :=
  ⟨rfl, by simp [Station.mapLength, Station.frameEnded, hsh, Sheet.append, Sheet.framesEnded]⟩

section
variable {j : Job} {sh : Sheet} {k : Nat} (h : s.willPass i q b rest v) (hsh : (s.st i).sheet = some sh)
include h hsh

/-- A frame's end and the boundary behind it. -/
theorem State.endFrame_boundary_passes :
    (((s.endFrame i).boundary i).exposureAt q = v ∧ ((s.endFrame i).boundary i).goesOn i sh.framesEnded) ∧
      ((s.endFrame i).boundaryDecision i).exposureAt q = v ∧ ((s.endFrame i).boundaryDecision i).goesOn i sh.framesEnded := by
  obtain ⟨hview, hst⟩ := State.endFrame_passes h
  have hopened : ((s.endFrame i).st i).opened sh.framesEnded := by rw [hst]; exact Station.frameEnded_opened hsh
  obtain ⟨hsame, hgoes⟩ := State.boundary_goesOn h.1.ne hopened
  obtain ⟨hsame', hgoes'⟩ := State.boundaryDecision_goesOn h.1.ne hopened
  exact ⟨⟨hsame.trans hview, hgoes⟩, hsame'.trans hview, hgoes'⟩

theorem State.titleEnd_passes {m : Nat} (hline : j.layout.t / 5 ≤ k + 1) (hlast : 9 ≤ m) :
    (s.endLine i j (.title m) k).exposureAt q = v ∧ (s.endLine i j (.title m) k).goesOn i sh.map.length := by
  let u : State := s.updSheet i (fun sh => { sh with titleDone := true })
  have hswath : ¬m + 1 < Config.swaths := by rw [Config.swaths]; omega
  have hust : (u.st i).sheet = some { sh with titleDone := true } :=
    (congrArg Station.sheet (State.st_updSt_same s i _)).trans (by rw [hsh]; rfl)
  obtain ⟨hview, hst⟩ := State.endExposure_passes (s := u) .sheetOpen (State.willPass_updSt _ h)
  have hopened : ((u.endExposure i .sheetOpen).st i).opened sh.map.length := by
    rw [hst]
    exact ⟨rfl, congrArg (Option.map (fun sh : Sheet => sh.map.length)) hust⟩
  obtain ⟨hsame, hgoes⟩ := State.boundary_goesOn h.1.ne hopened
  rw [State.endLine, State.titleLineEnd, if_neg (Nat.not_lt.2 hline), if_neg hswath]
  exact ⟨hsame.trans hview, hgoes⟩

theorem State.voidEnd_passes (hline : j.lines ≤ k + 1) :
    (s.endLine i j .voidPass k).exposureAt q = v ∧ (s.endLine i j .voidPass k).goesOn i sh.framesEnded := by
  rw [State.endLine, State.voidLineEnd, if_pos hline]
  exact (State.endFrame_boundary_passes h hsh).1

theorem State.pageEnd_passes (hline : j.lines ≤ k + 1) :
    (s.endLine i j .page k).exposureAt q = v ∧ (s.endLine i j .page k).goesOn i sh.framesEnded := by
  let u : State := s.updSt i Station.clampsCounted
  have hu : u.willPass i q b rest v := State.willPass_updSt _ h
  have hust : (u.st i).sheet = some (sh.clamped (s.st i).driveSaturated) :=
    (congrArg Station.sheet (State.st_updSt_same s i _)).trans (by rw [Station.clampsCounted, hsh]; rfl)
  have hseen : ∀ stop : Bool, (if stop then u.seeStop i else u).willPass i q b rest v ∧
      ((if stop then u.seeStop i else u).st i).sheet = some (sh.clamped (s.st i).driveSaturated) := by
    intro stop
    cases stop
    · exact ⟨hu, hust⟩
    · exact ⟨State.willPass_seeStop i hu, (congrArg Station.sheet (u.seeStop_st i i)).trans hust⟩
  rw [State.endLine, State.pageLineEnd, if_pos hline, State.countSaturated_eq, State.pageFrameEnd,
    ← sh.framesEnded_clamped (s.st i).driveSaturated]
  split
  next stop _ => exact (State.endFrame_boundary_passes (hseen stop).1 (hseen stop).2).2
  next => exact (State.endFrame_boundary_passes hu hust).1

theorem State.indexEnd_passes (hline : j.lines ≤ k + 1) :
    (s.endLine i j .index k).exposureAt q = v ∧ ((s.endLine i j .index k).st i).state = .closing ∧
      ((s.endLine i j .index k).st i).transport = .carry ∧
      ((s.endLine i j .index k).st i).mapLength = some sh.framesEnded := by
  let u : State := (s.updSt i Station.clampsCounted).updSheet i Sheet.append
  have hu : u.willPass i q b rest v := State.willPass_updSt _ (State.willPass_updSt _ h)
  have hust : u.st i = { (s.st i).clampsCounted with sheet := (s.st i).clampsCounted.sheet.map Sheet.append } :=
    (State.st_updSt_same _ i _).trans (by rw [State.st_updSt_same])
  obtain ⟨hview, hst⟩ := State.endExposure_passes .closing hu
  let w : State := (u.endExposure i .closing).frameEndEvent i
  have hwst : (w.updSt i (fun x => { x with transport := .carry })).st i = (s.st i).clampsCounted.indexEnded :=
    (State.st_updSt_same w i _).trans
      (congrArg (fun x : Station => { x with transport := .carry }) (hst.trans (congrArg (Station.exposed .closing) hust)))
  rw [State.endLine, State.indexLineEnd, if_pos hline, State.countSaturated_eq]
  refine ⟨(w.exposureAt_elsewhere _ h.1.ne).trans hview, ?_⟩
  rw [hwst]
  refine ⟨rfl, rfl, ?_⟩
  rw [← sh.framesEnded_clamped (s.st i).driveSaturated]
  simp [Station.mapLength, Station.indexEnded, Station.exposed, Station.clampsCounted, hsh, Sheet.append, Sheet.framesEnded]

end

/-- The permit awaited passes at the last line of an area. -/
theorem exec_lineEnd_passes {j : Job} {sh : Sheet} {a : Area} {k : Nat} (hsh : (s.st i).sheet = some sh)
    (h : s.permitAwaited i q b rest) : exec (.lineEnd i) s = (s.endLine i j a k).done →
    (match a with | .title n => j.layout.t / 5 ≤ k + 1 ∧ 9 ≤ n | _ => j.lines ≤ k + 1) →
    ∃ t, exec (.lineEnd i) s = .next t ∧ s.permitPasses t i q b rest ∧
      (if a = .index then (t.st i).state = .closing ∧ (t.st i).transport = .carry
       else (t.st i).state = .sheetOpen ∨ ((t.st i).state = .calibrating ∧ t.photometer = some i)) ∧
      (t.st i).sheet.map (·.map.length) = some (match a with
        | .title _ => sh.map.length
        | _ => (sh.map ++ sh.openEntry.toList).length) := by
  intro hexec hline
  let u : State := s.endLine i j a k
  have hwill : s.willPass i q b rest (s.passedOn i q b rest) := ⟨h, rfl⟩
  have hview : ∀ w : State, w.exposureAt q = s.passedOn i q b rest → s.permitPasses w.join i q b rest := fun w hw =>
    State.permitPasses_of_view ((State.exposureAt_of_behind w.join_scanOnly.1).trans hw)
  refine ⟨u.join, hexec, ?_⟩
  cases a with
  | title m =>
    obtain ⟨hpass, hstate, hmap⟩ := State.titleEnd_passes hwill hsh hline.1 hline.2
    exact ⟨hview _ hpass, hstate, hmap⟩
  | page =>
    obtain ⟨hpass, hstate, hmap⟩ := State.pageEnd_passes hwill hsh hline
    exact ⟨hview _ hpass, hstate, hmap⟩
  | voidPass =>
    obtain ⟨hpass, hstate, hmap⟩ := State.voidEnd_passes hwill hsh hline
    exact ⟨hview _ hpass, hstate, hmap⟩
  | index =>
    obtain ⟨hpass, hstate, htransport, hmap⟩ := State.indexEnd_passes hwill hsh hline
    exact ⟨hview _ hpass, ⟨hstate, htransport⟩, hmap⟩

end

end Sys2Proof.Machine
end


section
/-! PROOFS. LINE_END (R99, R106, R121): the swaths of the strip, and every area's last line, put together. -/

namespace Sys2Proof.Machine

section
variable {s : State} {i : StationId} {j : Job} {sh sh' : Sheet} {k : Nat}

/-- The end of a swath that is not the strip's last (R121). -/
theorem exec_lineEnd_swath {n : Nat} (hs : s.settled) (hexec : exec (.lineEnd i) s = (s.endLine i j (.title n) k).done)
    (hline : j.layout.t / 5 ≤ k + 1) (hnext : n < 9) : exec (.lineEnd i) s = .next (s.updSt i (fun x => { x with
      activity := .swathMove (n + 1), moveOut := true, head := .at (2000 + 10240 * ((n + 1 : Nat) : Int)), filmY := 2000,
      drive := [], driveSaturated := 0 })) := by
  have hswath : n + 1 < Config.swaths := by rw [Config.swaths]; omega
  rw [hexec, State.endLine, State.titleLineEnd, if_neg (Nat.not_lt.2 hline), if_pos hswath]
  exact State.done_of_settled hs

/-- A station whose exposure is over, its sheet open as `sh`. -/
def Station.opensSheet (x : Station) (sh : Sheet) : Station :=
  { x with state := .sheetOpen, activity := .idle, drive := [], driveSaturated := 0, sheet := some sh }

/-- The station at a boundary, its bands free. -/
def Station.opensFrames (x : Station) (sh : Sheet) : Station :=
  { x.opensSheet sh with mapping := none, bufA := .empty, bufB := .empty }

theorem Station.titleEnded_eq {x : Station} (hsh : x.sheet = some sh) :
    x.titleEnded = x.opensSheet { sh with titleDone := true } := by
  simp [Station.titleEnded, Station.opensSheet, Station.exposed, hsh]

theorem Station.frameEnded_eq {x : Station} (hsh : x.sheet = some sh) : x.frameEnded = x.opensFrames sh.append := by
  simp [Station.frameEnded, Station.opensFrames, Station.opensSheet, Station.exposed, hsh]

/-- A frame's end at a station whose line's clamps have just been counted. -/
theorem Station.clampsCounted_frameEnded {x : Station} (hsh : x.sheet = some sh) :
    x.clampsCounted.frameEnded = x.opensFrames (sh.clamped x.driveSaturated).append := by
  simp [Station.frameEnded, Station.opensFrames, Station.opensSheet, Station.exposed, Station.clampsCounted, hsh]

theorem Station.clampsCounted_indexEnded {x : Station} (hsh : x.sheet = some sh) : x.clampsCounted.indexEnded =
    { x.opensSheet (sh.clamped x.driveSaturated).append with state := .closing, transport := .carry } := by
  simp [Station.indexEnded, Station.opensSheet, Station.exposed, Station.clampsCounted, hsh]

/-! ## An area's last line, no station waiting for the permit -/

/-- What is answered at the boundary behind an area's last line (R116, R117). -/
theorem exec_lineEnd_boundary {cal : CalUnit} {opened : Station} {made : Option Bool} (hj : s.attached i = some j) (hs : s.settled)
    (hexec : exec (.lineEnd i) s = (s.boundaryBehind i made cal opened).done) (hsheet : opened.sheet = some sh')
    (hpos : sh'.nextPos = sh.nextPos) :
    let seen := j.stopSeen = true ∨ made = some true
    let goes := ¬seen ∧ sh.nextPos < j.frames ∧ j.nextPage < j.pageCount
    (made = none → j.stopSeen = false →
      (s.stopOutstanding i = false → exec (.lineEnd i) s = .next { s.areaEnded i cal opened.readsBoundary with
        port := s.portWith [readRequest (.boundary i) (addrPlus j.slotAddr 0x0C) 4] }) ∧
      (∀ l r l', s.port.list = l ++ r :: l' → r.purpose = .band i → (∀ q ∈ l ++ l', isStopReading i q = false) →
        exec (.lineEnd i) s = .next { s.areaEnded i cal opened.readsBoundary with
          port := { s.port with list := l ++ { r with purpose := .boundary i } :: l' } })) ∧
    ((made ≠ none ∨ j.stopSeen = true) →
      (cal.quickDue = false → sh'.titleDone = true →
        (goes → exec (.lineEnd i) s = .next { s.areaEnded i cal { opened with activity := .entryRead } with
          jobs := s.jobsNoted j made,
          port := s.portWith [readRequest (.pageEntry i) (addrPlus j.ticket (0xD0 + 48 * j.nextPage)) 32] }) ∧
        (¬goes → exec (.lineEnd i) s =
          .next { s.areaEnded i cal (opened.indexPositioned j sh') with jobs := s.jobsNoted j made })) ∧
      (cal.quickDue = true → cal.valid = true → s.photometer ≠ some i → i ∉ s.photometerQueue →
        (s.photometer ≠ none → exec (.lineEnd i) s = .next { s.areaEnded i cal { opened with activity := .quickWait } with
          jobs := s.jobsNoted j made, photometerQueue := s.photometerQueue ++ [i] }) ∧
        (s.photometer = none → ∃ t, exec (.lineEnd i) s = .next t ∧ t.jobs = s.jobsNoted j made ∧ t.photometer = some i ∧
          (t.st i).state = .calibrating ∧ (t.st i).head = .photometer ∧ (t.st i).sheet = some sh' ∧
          (t.cal i).flight.map (·.kind) = some .quick ∧ t.permitHolders = s.permitHolders.filter (· != i) ∧
          ∀ q, q ≠ i → t.st q = s.st q ∧ t.cal q = s.cal q))) :=
  ⟨fun hmade hseen => ⟨exec_lineEnd_requests hj hs hexec hmade hseen,
      fun _ _ _ hlist hband hothers => exec_lineEnd_serves hj hs hexec hmade hseen hlist hband hothers⟩,
    fun hreads => ⟨exec_lineEnd_decides hj hs hexec hreads hsheet hpos,
      exec_lineEnd_calibrates hj hs hexec hreads hsheet⟩⟩

section
variable (hs : s.settled) (hpermits : s.permitQueue = []) (hrows : ∀ r ∈ s.port.list, r.purpose ≠ .row i)
variable (hsh : (s.st i).sheet = some sh)
include hpermits hsh

theorem exec_lineEnd_title {n : Nat} (hexec : exec (.lineEnd i) s = (s.endLine i j (.title n) k).done)
    (hline : j.layout.t / 5 ≤ k + 1 ∧ 9 ≤ n) : exec (.lineEnd i) s =
      (s.boundaryBehind i none (s.cal i) ((s.st i).opensSheet { sh with titleDone := true })).done := by
  rw [hexec, State.endLine_title hpermits hline.1 hline.2, Station.titleEnded_eq hsh, State.boundaryBehind, if_pos rfl]

include hs hrows

theorem exec_lineEnd_voidPass (hexec : exec (.lineEnd i) s = (s.endLine i j .voidPass k).done) (hline : j.lines ≤ k + 1) :
    exec (.lineEnd i) s = (s.boundaryBehind i none (CalUnit.frameEnd s.timing (s.cal i))
      ((s.st i).opensFrames sh.append)).done := by
  rw [hexec, State.endLine_voidPass hpermits hline hs.1 hrows, Station.frameEnded_eq hsh, State.boundaryBehind, if_pos rfl]

theorem exec_lineEnd_page (hj : s.attached i = some j) (hexec : exec (.lineEnd i) s = (s.endLine i j .page k).done)
    (hline : j.lines ≤ k + 1) :
    exec (.lineEnd i) s = (s.boundaryBehind i (s.st i).bandReading (CalUnit.frameEnd s.timing (s.cal i))
      ((s.st i).opensFrames (sh.clamped (s.st i).driveSaturated).append)).done := by
  rw [hexec, ← Station.clampsCounted_frameEnded hsh, State.boundaryBehind]
  cases hread : (s.st i).bandReading with
  | none => rw [State.endLine_page_unread hpermits hline hs.1 hrows hread, if_pos rfl]
  | some stop => rw [State.endLine_page_read hpermits hj hline hs.1 hrows hread, if_neg (by simp)]

end

/-- After the index frame the sheet is carried off (R127). -/
theorem exec_lineEnd_index (hs : s.settled) (hpermits : s.permitQueue = []) (hsh : (s.st i).sheet = some sh)
    (hexec : exec (.lineEnd i) s = (s.endLine i j .index k).done) (hline : j.lines ≤ k + 1) :
    exec (.lineEnd i) s = .next (s.areaEnded i (CalUnit.frameEnd s.timing (s.cal i))
      { (s.st i).opensSheet (sh.clamped (s.st i).driveSaturated).append with state := .closing, transport := .carry }) := by
  rw [hexec, State.endLine_index hpermits hline, Station.clampsCounted_indexEnded hsh]
  exact State.done_of_settled hs

end

/-- Settles O47: the next line by the dwells of a line begun; the dwells emitter by emitter; an area's last line by the state it
leaves with its permit returned, from which the boundary goes on; and a permit that is awaited by what the stations do not see
of each other. -/
theorem frameProgress : Obligations.FrameProgress := by
  refine ⟨?_, ?_, ?_, ?_⟩
  · intro s i j a k hs hstate hj hact hlines hband
    let f : Station → Station := if a = .page ∨ a = .index then Station.clampsCounted else fun x => x
    have hdwells : (s.updSt i f).lineDwells i a (k + 1) = s.lineDwells i a (k + 1) := by
      simp only [f]
      split
      · exact State.lineDwells_clampsCounted (k + 1)
      · rw [State.updSt_id]
    obtain ⟨t, hexec, hsame, hothers, hst⟩ := exec_lineEnd_nextLine hs (exec_lineEnd hstate hact hj)
      (State.endLine_nextLine hlines hband) (Decidable.not_or_of_imp hband) hdwells
    refine ⟨t, hexec, hsame, hothers, hst.trans ?_⟩
    dsimp only
    split <;> rfl
  · intro s i j sh hj hsh ht hs hwindow ticks raw drives saturates dwell inWindow k
    have hdwell : ∀ asks : Nat → Option Nat, dwell asks = fun e =>
        (asks e).elim 0 (fun x => drivenDwell (s.rawAt i j e x) (ticks - 40)) := by
      intro asks
      funext e
      simp only [dwell]
      cases asks e <;> rfl
    refine ⟨fun b dots hb hband hbuf hdots hlen => ?_, ⟨State.voidPass_drives hj hsh ht hs hwindow, ?_⟩, ?_, fun n => ?_⟩
    · intro asks
      have hasks := State.lineAsks_page (j := j) (sh := sh) hb hband hbuf hdots
      have hlength : (s.lineAsks i j sh .page k).length = 2048 := by
        rw [hasks]; exact windowAsks_length (by simpa [hlen] using hwindow)
      have hask : ∀ e, e < 2048 → (askAt (s.lineAsks i j sh .page k) e).asksFor (asks e) := fun e _ => by
        rw [hasks]; exact askAt_page _ hlen e
      rw [hdwell]
      exact ⟨State.lineDwells_drives hj hsh ht hs hlength hask, State.lineDwells_saturates hj hsh ht hs hlength hask rfl⟩
    · exact State.lineDwells_uncounted hj hsh rfl
    · intro asks
      have hlength : (s.lineAsks i j sh .index k).length = 2048 := windowAsks_length (by simpa using hwindow)
      have hask : ∀ e, e < 2048 → (askAt (s.lineAsks i j sh .index k) e).asksFor (asks e) := fun e _ =>
        askAt_index (fun c => indexDot sh.map j.lines c k) e
      rw [hdwell]
      exact ⟨State.lineDwells_drives hj hsh ht hs hlength hask, State.lineDwells_saturates hj hsh ht hs hlength hask rfl⟩
    · intro asks
      have hlength : (s.lineAsks i j sh (.title n) k).length = 2048 := by
        refine windowAsks_length ?_
        rw [textAsks_length, swathWidth]
        split <;> decide
      have hask : ∀ e, e < 2048 → (askAt (s.lineAsks i j sh (.title n) k) e).asksFor (asks e) := fun e he =>
        askAt_title (fun e => titleDot j.layout sh (2048 * n + e) k) he
      rw [hdwell]
      exact ⟨State.lineDwells_drives hj hsh ht hs hlength hask, State.lineDwells_uncounted hj hsh rfl⟩
  · intro s i j sh a k hs hstate hj hsh hact
    have hexec := exec_lineEnd hstate hact hj
    refine ⟨fun n ha hline hnext => ?_, fun hline hpermits hrows => ?_⟩
    · subst ha
      exact exec_lineEnd_swath hs hexec hline hnext
    · cases a with
      | title n =>
        obtain ⟨hasks, hdecides⟩ := exec_lineEnd_boundary (sh := sh) hj hs (exec_lineEnd_title hpermits hsh hexec hline) rfl rfl
        exact ⟨nofun, fun _ => hasks, fun _ => hdecides⟩
      | page =>
        obtain ⟨hasks, hdecides⟩ := exec_lineEnd_boundary (sh := sh) hj hs
          (exec_lineEnd_page hs hpermits hrows hsh hj hexec hline) rfl rfl
        exact ⟨nofun, fun _ => hasks, fun _ => hdecides⟩
      | voidPass =>
        obtain ⟨hasks, hdecides⟩ := exec_lineEnd_boundary (sh := sh) hj hs
          (exec_lineEnd_voidPass hs hpermits hrows hsh hexec hline) rfl rfl
        exact ⟨nofun, fun _ => hasks, fun _ => hdecides⟩
      | index => exact ⟨fun _ => exec_lineEnd_index hs hpermits hsh hexec hline, fun h => absurd rfl h, fun h => absurd rfl h⟩
  · intro s i q j sh a b k rest hs hstate hj hsh hact hline hawaited
    exact exec_lineEnd_passes hsh hawaited (exec_lineEnd hstate hact hj) hline

end Sys2Proof.Machine
end

section
/-! PROOFS. The stations' timers, the feeds of a sheet, and the parking and waking of a station (R69 to R78, R158, R159). -/

namespace Sys2Proof.Machine

/-- The end of an event that has left the port as a settled state has it: nothing is requested. -/
theorem State.settled.done {s u : State} (hs : s.settled) (hport : u.port = s.port) (hctrl : u.ctrl = s.ctrl) :
    u.done = .next u :=
  State.done_of_settled (State.settled_congr hs hport hctrl)

section
variable {s : State} {i : StationId}

/-! ## Doze and hold (R72, R73) -/

/-- Settles O36, timer by timer: an expiry acts where its timer runs in its state, and a settled port takes up nothing behind it. -/
theorem dozeAndHoldTimers : Obligations.DozeAndHoldTimers := by
  intro s i hs
  refine ⟨fun hruns hready => ?_, fun hruns hdozing => ?_, fun hstopped => ?_, fun hstopped => ?_⟩
  · have hacts : ((s.st i).dozeTimer.isSome && (s.st i).state == .ready) = true := by
      simp [hready, Option.isSome_iff_ne_none, hruns]
    exact (if_pos hacts).trans (hs.done rfl rfl)
  · have hacts : ((s.st i).holdTimer.isSome && (s.st i).state == .dozing) = true := by
      simp [hdozing, Option.isSome_iff_ne_none, hruns]
    exact (if_pos hacts).trans (hs.done rfl rfl)
  · exact if_neg (by simp [hstopped])
  · exact if_neg (by simp [hstopped])

/-! ## The feeds of a sheet (R69, R77, R78) -/

/-- A station whose first feed has failed, with supply left: the sheet ejected and a second one fed (R78). -/
theorem State.failAttempt_second {sh : Sheet} (hsheet : (s.st i).sheet = some sh) (hfirst : sh.attempt = 1)
    (hsupply : 1 ≤ (s.st i).supply) : s.failAttempt i = s.updSt i (fun x => { x with
      supply := x.supply - 1, loadTimer := some 4000, ejects := x.ejects + 1, feeds := x.feeds + 1,
      transport := .feed (x.feeds + 1), sheet := some { sh with attempt := 2 } }) := by
  have hagain : ((s.st i).sheet.any (fun sh => sh.attempt == 1) && decide (1 ≤ (s.st i).supply)) = true := by
    simp [hsheet, hfirst, hsupply]
  refine (if_pos hagain).trans ((State.updSt_updSt _ _ _ _).trans (State.updSt_congr ?_))
  simp [hsheet, Config.loadMs]

/-- A failed registration, by the load timer or by the driver's report for the latest feed, ends the attempt. -/
theorem exec_attemptFails {c : Instr} (hloading : (s.st i).state = .loading) (htimer : (s.st i).loadTimer ≠ none)
    (hc : c = .loadTimerExpiry i ∨ c = .registrationFailed i (s.st i).feeds) : exec c s = (s.failAttempt i).done := by
  rcases hc with rfl | rfl
  · exact if_pos (by simp [hloading, Option.isSome_iff_ne_none, htimer])
  · exact if_pos (by simp [hloading])

/-- A report for an earlier feed is ignored (R69). -/
theorem exec_registration_late {f : Nat} (hf : f ≠ (s.st i).feeds) :
    exec (.registrationFailed i f) s = .next s ∧ exec (.registrationFound i f) s = .next s := by
  have hlate : ¬((s.st i).state == .loading && f == (s.st i).feeds) = true := by simp [hf]
  exact ⟨if_neg hlate, if_neg hlate⟩

/-- Settles O38: the attempt fails, and its failure at attempt 1 feeds a second sheet. -/
theorem secondFeed : Obligations.SecondFeed := by
  intro s i sh c hs hloading htimer hsheet hfirst hsupply hc
  refine ⟨?_, fun f hf => exec_registration_late hf⟩
  rw [exec_attemptFails hloading htimer hc, State.failAttempt_second hsheet hfirst hsupply]
  exact hs.done rfl rfl

/-- Settles O39: the open sheet is at a boundary, whose reading of the stop word is the one request of the event. -/
theorem registrationOpensTheSheet : Obligations.RegistrationOpensTheSheet := by
  intro s i j hs hloading hj hseen hout
  let u : State := s.updSt i (fun x => { x with state := .sheetOpen, loadTimer := none })
  have hopens : exec (.registrationFound i (s.st i).feeds) s = (u.boundary i).done := if_pos (by simp [hloading])
  have hreads : u.boundary i = (s.updSt i (fun x => { x with
      state := .sheetOpen, loadTimer := none, activity := .boundaryReading, bandReading := none })).request
        (boundaryRequest i j) := by
    rw [State.boundary_unseen (s := u) hj hseen, State.updSt_updSt]
    exact State.askStop_requests hj hout
  rw [hopens, hreads]
  exact State.done_request_one hs.1 rfl rfl

/-! ## Parking and waking (R70, R74, R158, R159) -/

/-- A station in this state can be free (R54). -/
def StationState.canBeFree (x : StationState) : Bool := x == .ready || x == .dozing || x == .calibrating

theorem State.free_of_state (h : (s.st i).state.canBeFree = false) : s.free i = false := by
  rw [State.free, show ((s.st i).state == .ready || (s.st i).state == .dozing || (s.st i).state == .calibrating) = false from h]
  rfl

/-- A calm state stays calm when one station leaves the states in which it can be free and the others are as they were. -/
theorem State.calm.unfree {u : State} (h : s.calm) (hw : u.waiters = s.waiters) (he : u.endQueue = s.endQueue)
    (hj : u.jobs = s.jobs) (hstate : (u.st i).state.canBeFree = false)
    (hothers : ∀ k, k ≠ i → u.st k = s.st k ∧ u.cal k = s.cal k) : u.calm := by
  refine State.atRest_of_matches (u := { u with pass := none }) h hw he hj rfl (fun k hk => ?_)
  have hki : k ≠ i := by
    rintro rfl
    exact absurd (hk.symm.trans (State.free_of_state (s := { u with pass := none }) hstate)) nofun
  obtain ⟨hst, hcal⟩ := hothers k hki
  refine ⟨(State.free_congr (u := { u with pass := none }) (v := { s with pass := none }) hj hst).symm.trans hk,
    funext (fun q => ?_)⟩
  show u.fitsJob k q = s.fitsJob k q
  rw [State.fitsJob, State.fitsJob, hst, hcal]

/-- A station powered down (R74, R158). -/
def Station.parked (x : Station) : Station :=
  { x.timersStopped with powered := false, state := if x.state = .faulted then .faulted else .parked }

theorem Station.parked_state (x : Station) : x.parked.state.canBeFree = false := by
  by_cases h : x.state = .faulted <;> simp [Station.parked, h, StationState.canBeFree]

theorem State.parkStation_calm (h : s.calm) : (s.parkStation i).calm := by
  have hst : (s.parkStation i).st i = (s.st i).parked := State.st_updSt_same s i Station.parked
  refine h.unfree (i := i) rfl rfl rfl (by rw [hst]; exact Station.parked_state _) (fun k hk => ⟨?_, ?_⟩)
  · exact State.st_updSt_other s Station.parked hk
  · exact State.cal_updCal_other (s.updSt i Station.parked) (fun c => { c with valid := false }) hk

/-- STATION_PARK is taken in DOZING, and in READY and FAULTED with no job (R153). -/
theorem State.parkLegal_of (h : (s.st i).state = .dozing ∨
    (((s.st i).state = .ready ∨ (s.st i).state = .faulted) ∧ s.attached i = none)) : s.parkLegal i = true := by
  rcases h with h | ⟨h | h, hj⟩ <;> simp [State.parkLegal, *]

/-- A wake, by the state it begins in (R70). -/
theorem State.beginWake_eq (s : State) (i : StationId) : s.beginWake i = s.updSt i (fun x => { x with
    state := .waking, dozeTimer := none, holdTimer := none, wakeFromParked := decide ((s.st i).state = .parked),
    wakeTimer := some (if (s.st i).state = .parked then 500 else 50) }) := by
  by_cases h : (s.st i).state = .parked
  · simp [State.beginWake, h, Config.wakeFromParkedMs]
  · have hother : ((s.st i).state == .parked) = false := by simpa using h
    simp [State.beginWake, h, hother, Config.wakeFromDozingMs]

theorem State.beginWake_calm (h : s.calm) : (s.beginWake i).calm := by
  have hst : ((s.beginWake i).st i).state = .waking := by rw [State.beginWake_eq, State.st_updSt_same]
  exact h.unfree (i := i) rfl rfl rfl (by rw [hst]; rfl) (fun k hk => ⟨State.st_updSt_other s _ hk, rfl⟩)

end

/-- Settles O23: a station parked or waking is not free, so the ticket ends where the dispatcher has nothing to do. -/
theorem stationParkAndWake : Obligations.StationParkAndWake := by
  intro s p c v hs hcalm hservice
  obtain ⟨hp, -, hcur⟩ := id hservice
  refine ⟨fun hk hlegal => ?_, fun hk hstate => ?_, fun hk hstate => ?_⟩
  · have hexec : exec .stationPark s = ((s.parkStation v.station).endService false).done := by
      refine (State.runService_of_atService hservice hk _).trans ?_
      rw [if_pos (State.parkLegal_of hlegal)]
    rw [hexec]
    exact State.service_ends .doneOk .none 0 (State.parkStation_calm hcalm) hp hcur
  · have hexec : exec .stationWake s = ((s.beginWake v.station).endService false).done := by
      refine (State.runService_of_atService hservice hk _).trans ?_
      rcases hstate with hstate | hstate <;> rw [hstate]
    rw [hexec, ← State.beginWake_eq]
    exact State.service_ends .doneOk .none 0 (State.beginWake_calm hcalm) hp hcur
  · have hexec : exec .stationWake s = (s.endService false).done := by
      refine (State.runService_of_atService hservice hk _).trans ?_
      rcases hstate with hstate | hstate <;> rw [hstate]
    rw [hexec]
    exact State.service_ends .doneOk .none 0 hcalm hp hcur

end Sys2Proof.Machine
end

section
/-! PROOFS. A wake that ends (R70, R72, R75, R143), the decision at a boundary (R116, R117), and the ends of moves (R119, R121,
R125, R144). -/

namespace Sys2Proof.Machine

section
variable {s : State} {i : StationId}

/-! ## What a READY station does without a load to offer (R72, R75, R143) -/

/-- Two changes of a calibration unit that make the same of it as it stands. -/
theorem State.updCal_congr {f g : CalUnit → CalUnit} (h : f (s.cal i) = g (s.cal i)) : s.updCal i f = s.updCal i g := by
  have hset : s.cals.upd i f = s.cals.upd i g := congrArg (s.cals.set i) h
  simp only [State.updCal, hset]

/-- A stopped doze timer, loaded unless it is off. -/
theorem Station.dozes_of_none {x : Station} (h : x.dozeTimer = none) (delay : Nat) :
    x.dozes delay = { x with dozeTimer := if delay = 0 then none else some delay } := by
  by_cases hoff : delay = 0 <;> simp [Station.dozes, h, hoff]

section
variable (hready : (s.st i).state = .ready) (hstacked : (s.st i).stacked = none)
include hready hstacked

/-- With no job and no mark a READY station loads its doze timer. -/
theorem State.readyActions_dozes (hmarked : (s.cal i).marked = false) (hatt : s.attached i = none)
    (hqueue : i ∉ s.photometerQueue) : s.readyActions i = s.updSt i (Station.dozes s.timing.dozeDelay) := by
  have hoffer : s.offer i = s := by simp [State.offer, hatt]
  rw [State.readyActions, if_pos ⟨hready, by simp [hstacked]⟩, if_neg (by simp [hmarked]), hoffer]
  exact State.dozeIfIdle_of_ready hready hatt hmarked hqueue

/-- With a mark a READY station whose doze timer is stopped asks for the photometer. -/
theorem State.readyActions_asks (hmarked : (s.cal i).marked = true) (hdoze : (s.st i).dozeTimer = none) :
    s.readyActions i = s.askPhotometer i := by
  have hstops : s.updSt i (fun x => { x with dozeTimer := none }) = s := by
    rw [State.updSt_congr (g := fun x => x) (by simp [← hdoze]), State.updSt_id]
  rw [State.readyActions, if_pos ⟨hready, by simp [hstacked]⟩, if_pos hmarked, hstops]

end

/-- A grant of the photometer to a station that has just changed: what becomes of the station and of its unit (R143). -/
theorem State.grantPhotometer_eq {f g : Station → Station} {u : CalUnit → CalUnit}
    (hst : (f (s.st i)).calibrates = g (s.st i)) (hcal : (s.cal i).begun (f (s.st i)).sheet.isSome = u (s.cal i)) :
    (s.updSt i f).grantPhotometer i = (({ s with photometer := some i } : State).updSt i g).updCal i u := by
  have hgrant : (s.updSt i f).grantPhotometer i = ((({ s with photometer := some i } : State).updSt i f).updSt i
      Station.calibrates).updCal i (·.begun ((s.updSt i f).st i).sheet.isSome) := rfl
  rw [hgrant, State.st_updSt_same, State.updSt_updSt]
  exact (State.updCal_congr hcal).trans (congrArg (State.updCal · i u) (State.updSt_congr hst))

/-- The calibration a grant begins at a station without a sheet (R143). -/
theorem CalUnit.granted_without_sheet (c : CalUnit) : c.granted false = {
    kind := if !c.valid || c.fullDue then .full else .quick, phase := .moving,
    answersQuickRequired := c.quickRequired, answersQuickDue := c.quickDue,
    answersFullDue := (!c.valid || c.fullDue) && c.fullDue } := by
  simp [CalUnit.granted]

/-- The calibration a grant begins at a station with a sheet (R143): FULL is taken only for an invalid table. -/
theorem CalUnit.granted_with_sheet (c : CalUnit) : c.granted true = {
    kind := if !c.valid then .full else .quick, phase := .moving, answersQuickRequired := c.quickRequired,
    answersQuickDue := c.quickDue, answersFullDue := !c.valid && c.fullDue } := by
  simp [CalUnit.granted]

/-! ## A wake ends (R70) -/

/-- A station awake (R70). -/
def Station.awake (x : Station) : Station :=
  { x with state := .ready, wakeTimer := none, wakeFromParked := false, powered := x.powered || x.wakeFromParked }

/-- The wake of a station with no job ends: it is READY, and does what that state has it do. -/
theorem exec_wakeTimerExpiry_free (htimer : (s.st i).wakeTimer ≠ none) (hwaking : (s.st i).state = .waking)
    (hatt : s.attached i = none) :
    exec (.wakeTimerExpiry i) s = (((s.updSt i Station.awake).readyActions i).settle).done := by
  have hkeep : (s.updSt i Station.awake).keepJob i = s.updSt i Station.awake := by simp [State.keepJob, hatt]
  have hexec : exec (.wakeTimerExpiry i) s = ((((s.updSt i Station.awake).keepJob i).readyActions i).settle).done :=
    if_pos (by simp [hwaking, Option.isSome_iff_ne_none, htimer])
  rw [hexec, hkeep]

/-- An event's last act, when it leaves the port as it was and the dispatcher at rest, is the answer. -/
theorem State.settled.settle_done {u n : State} (hs : s.settled) (hu : u = n) (hport : n.port = s.port) (hctrl : n.ctrl = s.ctrl)
    (hrest : n.atRest) : u.settle.done = .next n := by
  rw [hu, State.settle_of_rest hrest]
  exact hs.done hport hctrl

end

/-- Settles O37: the awake station's acts, with no mark by the doze timer, with one by the photometer's queue or grant. -/
theorem wakeEndsInReady : Obligations.WakeEndsInReady := by
  intro s i hs htimer hwaking hatt hsheet hstacked hdoze hqueue hother x c ends
  let u : State := s.updSt i Station.awake
  have hu : u.st i = (s.st i).awake := State.st_updSt_same s i Station.awake
  have hready : (u.st i).state = .ready := by rw [hu]; rfl
  have hnostack : (u.st i).stacked = none := by rw [hu]; exact hstacked
  have hnodoze : (u.st i).dozeTimer = none := by rw [hu]; exact hdoze
  have hanswer : ∀ n : State, n.port = s.port → n.ctrl = s.ctrl → u.readyActions i = n → ends n := by
    intro n hport hctrl hacts hrest
    rw [exec_wakeTimerExpiry_free htimer hwaking hatt]
    exact hs.settle_done hacts hport hctrl hrest
  refine ⟨fun hmarked => hanswer _ rfl rfl ?_, fun hmarked hheld => hanswer _ rfl rfl ?_, fun hmarked hfree => hanswer _ rfl rfl ?_⟩
  · rw [State.readyActions_dozes (s := u) hready hnostack hmarked hatt hqueue, State.updSt_updSt]
    exact State.updSt_congr (Station.dozes_of_none (x := (s.st i).awake) hdoze _)
  · rw [State.readyActions_asks (s := u) hready hnostack hmarked hnodoze, State.askPhotometer_waits (s := u) hother hqueue hheld]
    rfl
  · rw [State.readyActions_asks (s := u) hready hnostack hmarked hnodoze, State.askPhotometer_takes (s := u) hqueue hfree,
      State.grantPhotometer_eq (s := s) (f := Station.awake) (g := fun _ => _) ?_ ?_]
    · simp [Station.calibrates, Station.awake, x, hdoze]
    · rw [Station.awake, hsheet, CalUnit.begun, Option.isSome_none, CalUnit.granted_without_sheet]
      simp only [Bool.or_eq_true, Bool.not_eq_true']
      rfl

/-! ## BOUNDARY_READING_DONE (R77, R116, R117) -/

section
variable {s : State} {i : StationId} {j : Job} {sh : Sheet} {stop : Bool}

/-- The reading that a station waits for at a boundary: a stop is taken note of, and the decision follows. -/
theorem State.boundaryRead_eq (hact : (s.st i).activity = .boundaryReading) :
    s.boundaryRead i stop = (s.noted i (some stop)).boundaryDecision i := by
  rw [State.boundaryRead, if_pos hact, State.noted]
  simp only [Option.some.injEq]

/-- With no QUICK due and the title strip to come: it is positioned (R121). -/
theorem State.boundaryDecision_title (hdue : (s.cal i).quickDue = false) (hj : s.attached i = some j)
    (hsh : (s.st i).sheet = some sh) (htitle : sh.titleDone = false) : s.boundaryDecision i = s.updSt i (fun x => { x with
      activity := .positioning (.title 0), moveOut := true, head := .at 2000, filmY := 2000 }) := by
  rw [State.boundaryDecision, if_neg (by simp [hdue])]
  simp only [State.nextArea, hj, hsh, htitle, Bool.not_false, if_true]
  rfl

/-- The state in which the boundary's decision is taken, its reading ended and a stop noted. -/
def State.boundaryNoted (s : State) (j : Job) (stop : Word) : State :=
  { s.endRequest with
    jobs := if stop = 0 then s.jobs else s.jobsWith j.slotAddr (fun k => { k with stopSeen := true }) }

theorem exec_boundaryReadingDone_decides {n : Nat} {stop : Word} (hserves : s.serves (.boundary i) n)
    (hact : (s.st i).activity = .boundaryReading) (hj : s.attached i = some j) :
    exec (.boundaryReadingDone stop) s = ((s.boundaryNoted j stop).boundaryDecision i).done ∧
      (s.boundaryNoted j stop).attached i = some (j.noted (some (stop != 0))) := by
  have hnoted : s.endRequest.noted i (some (stop != 0)) = s.boundaryNoted j stop := by
    rw [State.noted_eq (s := s.endRequest) hj]
    by_cases hstop : stop = 0
    · simp [State.boundaryNoted, hstop]
    · simp [State.boundaryNoted]; rfl
  rw [exec_boundaryReadingDone_of_serves stop hserves, State.boundaryRead_eq (s := s.endRequest) hact, hnoted]
  exact ⟨rfl, hnoted ▸ State.noted_attached (s := s.endRequest) hj _⟩

end

/-- Settles O42: the decision with the stop noted, by what R116 asks first: the strip, the page, the index frame; and the QUICK
that comes before them, granted or waited for. -/
theorem boundaryDecides : Obligations.BoundaryDecides := by
  refine ⟨?_, ?_⟩
  · intro s i n stop j sh hserves hact hj hsh hdue jobs goes
    let w : State := s.boundaryNoted j stop
    obtain ⟨hexec, hwj⟩ := exec_boundaryReadingDone_decides (stop := stop) hserves hact hj
    obtain ⟨hlayout, hframes, hticket, hnext, hcount⟩ := j.noted_spec (some (stop != 0))
    have hstops : ((j.noted (some (stop != 0))).stopSeen = false ∧ sh.nextPos < (j.noted (some (stop != 0))).frames ∧
        (j.noted (some (stop != 0))).nextPage < (j.noted (some (stop != 0))).pageCount) ↔ goes := by
      rw [Job.noted_stopSeen, hframes, hnext, hcount]
      simp [goes, and_assoc]
    rw [hexec]
    refine ⟨fun htitle => ?_, fun htitle hgoes => ?_, fun htitle hno => ?_⟩
    · rw [State.boundaryDecision_title (s := w) (i := i) hdue hwj hsh htitle]
      exact State.done_endRequest_none hserves.1 rfl rfl
    · obtain ⟨hseen, hfits, hpage⟩ := hstops.2 hgoes
      rw [State.boundaryDecision_goes (s := w) (i := i) hdue hwj hsh htitle hseen hfits hpage, hticket, hnext]
      exact State.done_requestRead _ _ _ hserves.1 rfl rfl
    · have hindex : ∀ x : Station, x.indexPositioned (j.noted (some (stop != 0))) sh = x.indexPositioned j sh := by
        intro x; simp only [Station.indexPositioned, hlayout, hframes]
      rw [State.boundaryDecision_index (s := w) (i := i) hdue hwj hsh htitle (fun h => hno (hstops.1 h))]
      simp only [hindex]
      exact State.done_endRequest_none hserves.1 rfl rfl
  · intro s i n hserves hact hsh hdue hvalid hqueue hother
    let w : State := s.endRequest
    have hexec : exec (.boundaryReadingDone 0) s = ((w.updSt i Station.waitsQuick).askPhotometer i).done := by
      rw [exec_boundaryReadingDone_of_serves 0 hserves, State.boundaryRead_eq (s := s.endRequest) hact,
        ← State.boundaryDecision_quick (s := w) hdue]
      rfl
    rw [hexec]
    refine ⟨fun hfree => ?_, fun hheld => ?_⟩
    · have hgrant : (w.updSt i Station.waitsQuick).grantPhotometer i = _ :=
        State.grantPhotometer_eq (g := Station.calibrates) (u := fun c => { c with flight := some {
          kind := .quick, phase := .moving, answersQuickRequired := c.quickRequired, answersQuickDue := true,
          answersFullDue := false } }) rfl ?_
      · rw [State.askPhotometer_takes (s := w.updSt i Station.waitsQuick) hqueue hfree, hgrant]
        exact State.done_endRequest_none hserves.1 rfl rfl
      · rw [show (w.st i).waitsQuick.sheet.isSome = true from Option.isSome_iff_ne_none.2 hsh, CalUnit.begun,
          CalUnit.granted_with_sheet, show w.cal i = s.cal i from rfl]
        simp [hvalid, hdue]
    · rw [State.askPhotometer_waits (s := w.updSt i Station.waitsQuick) hother hqueue hheld]
      exact State.done_endRequest_none hserves.1 rfl rfl

/-! ## MOVE_COMPLETE (R69, R118, R119, R121, R125, R144) -/

section
variable {s : State} {i : StationId} {a : Area} {k : Nat}

/-- The first line of a band at a station with no job: no stop word is read. -/
theorem State.startLine_unread (hjob : s.attached i = none) (h : k % 64 = 0) : s.startLine i .page k =
    (s.updSt i (fun x => { x.agedWhen (decide (k = 0) && (s.cal i).due) with bandReading := none })).driveLine i .page k := by
  let u : State := s.updSt i (fun x => { x.agedWhen (decide (k = 0) && (s.cal i).due) with bandReading := none })
  have hatt : u.attached i = none := hjob
  have hreads : (if u.stopSeen i || u.stopOutstanding i then u else u.askStop i (.band i)) = u := by
    split
    · rfl
    next hnone =>
      have hout : u.stopOutstanding i = false := by simp at hnone; exact hnone.2
      simp [State.askStop, hout, hatt]
  unfold State.startLine
  simp only [State.ageEntry_eq, State.updSt_updSt, true_and, if_pos (show k % Config.bandLines = 0 from h)]
  rw [show (if u.stopSeen i || u.stopOutstanding i then u else u.askStop i (.band i)) = _ from hreads]
  rfl

/-- A line begun: its station drives it, and one request at most is made, at a page's band alone. -/
theorem State.startLine_eq (s : State) (i : StationId) (a : Area) (k : Nat) : ∃ (f : Station → Station) (l : List Request),
    l.length ≤ 1 ∧ (a ≠ .page → l = []) ∧ s.startLine i a k = ((s.updSt i f).driveLine i a k).withRequests l ∧
      ∀ x, (f x).state = x.state ∧ (f x).moveOut = x.moveOut := by
  by_cases hread : a ≠ .page ∨ k % 64 ≠ 0
  · refine ⟨fun x => x.agedWhen (decide (k = 0) && (s.cal i).due), [], Nat.zero_le 1, fun _ => rfl, ?_, fun _ => ⟨rfl, rfl⟩⟩
    rw [State.withRequests_nil, State.startLine_drives hread]
  · obtain ⟨hpage, hfirst⟩ : a = .page ∧ k % 64 = 0 := by simpa using hread
    subst hpage
    cases hj : s.attached i with
    | none =>
      refine ⟨fun x => { x.agedWhen (decide (k = 0) && (s.cal i).due) with bandReading := none }, [], Nat.zero_le 1,
        fun _ => rfl, ?_, fun _ => ⟨rfl, rfl⟩⟩
      rw [State.withRequests_nil, State.startLine_unread hj hfirst]
    | some j =>
      refine ⟨_, s.bandStop i j, ?_, fun h => absurd rfl h, State.startLine_reads hj hfirst, fun _ => ⟨rfl, rfl⟩⟩
      unfold State.bandStop
      split <;> simp

/-- The end of an event in which a line begins: the port and the station alone differ. -/
theorem State.startLine_done (hs : s.settled) : ∃ t, (s.startLine i a k).done = .next t ∧
    t = { s with port := t.port, stations := t.stations } ∧ (a ≠ .page → t.port = s.port) ∧
    (t.st i).activity = .line a k ∧ (t.st i).state = (s.st i).state ∧ (t.st i).moveOut = (s.st i).moveOut ∧
    ∀ q, q ≠ i → t.st q = s.st q := by
  obtain ⟨f, l, hlength, hnone, heq, hf⟩ := s.startLine_eq i a k
  let u : State := (s.updSt i f).driveLine i a k
  obtain ⟨hstate, hmove⟩ := hf (s.st i)
  have harr : (u.withRequests l).port.arriving = l := by
    show s.port.arriving ++ l = l
    rw [hs.1, List.nil_append]
  obtain ⟨port, hdone, -⟩ := State.done_of_few (u := u.withRequests l) (by rw [harr]; exact hlength)
  have hst : u.st i = { f (s.st i) with
      activity := .line a k, drive := ((s.updSt i f).lineDwells i a k).1,
      driveSaturated := ((s.updSt i f).lineDwells i a k).2 } := by
    rw [show u = (s.updSt i f).driveLine i a k from rfl, State.driveLine, State.st_updSt_same, State.st_updSt_same]
  refine ⟨_, by rw [heq, hdone], rfl, fun ha => ?_, ?_, ?_, ?_, fun q hq => ?_⟩
  · have hport : (u.withRequests l).done = .next u := by
      rw [hnone ha, State.withRequests_nil]
      exact hs.done rfl rfl
    rw [hport] at hdone
    exact (congrArg State.port (Host.Outcome.next.inj hdone)).symm
  · show (u.st i).activity = _
    rw [hst]
  · show (u.st i).state = _
    rw [hst, hstate]
  · show (u.st i).moveOut = _
    rw [hst, hmove]
  · show u.st q = s.st q
    rw [show u = (s.updSt i f).driveLine i a k from rfl, State.driveLine, State.st_updSt_other _ _ hq,
      State.st_updSt_other _ _ hq]

/-- Station `i` with no move outstanding any more. -/
def State.moved (s : State) (i : StationId) : State := s.updSt i (fun x => { x with moveOut := false })

@[simp] theorem State.moved_st (s : State) (i : StationId) : (s.moved i).st i = { s.st i with moveOut := false } :=
  State.st_updSt_same _ _ _
theorem State.moved_other {q : StationId} (hq : q ≠ i) : (s.moved i).st q = s.st q := State.st_updSt_other _ _ hq

/-- A move that ends with a line at which no stop word is read: only the station differs. -/
theorem State.moved_startLine_done (hs : s.settled) (ha : a ≠ .page) : ∃ t, ((s.moved i).startLine i a k).done = .next t ∧
    t = { s with stations := t.stations } ∧ (t.st i).activity = .line a k ∧ (t.st i).state = (s.st i).state ∧
    ∀ q, q ≠ i → t.st q = s.st q := by
  obtain ⟨t, hdone, hsame, hport, hline, hkeeps, -, hothers⟩ :=
    State.startLine_done (s := s.moved i) (i := i) (a := a) (k := k) (State.settled_congr hs rfl rfl)
  refine ⟨t, hdone, ?_, hline, ?_, fun q hq => (hothers q hq).trans (State.moved_other hq)⟩
  · rw [hport ha] at hsame
    exact hsame
  · rw [hkeeps, s.moved_st i]

theorem exec_moveComplete_moves (hmove : (s.st i).moveOut = true) :
    exec (.moveComplete i) s = ((s.moved i).moveEnds i).done := if_pos hmove

/-- The end of a move of a station that does not calibrate, by its activity (R119, R121, R125). -/
theorem State.moveEnds_eq (hstate : (s.st i).state ≠ .calibrating) : s.moveEnds i = match (s.st i).activity with
    | .positioning a => s.positioned i a
    | .swathMove k => s.startLine i (.title k) 0
    | .returnMove => s.startLine i .voidPass 0
    | _ => s := by
  cases hactivity : (s.st i).activity <;> simp [State.moveEnds, State.calibrating, hstate, hactivity]

end

/-- Settles O46: the move's end by the activity it ends, a positioning's by band 0 and the permits. -/
theorem moveCompleteActs : Obligations.MoveCompleteActs := by
  intro s i hs moved
  refine ⟨fun hnone => if_neg (by simp [hnone]), fun hmove hstate => ?_, fun hmove hstate f hf hphase => ?_⟩
  · let u : State := s.moved i
    have hu : u.st i = { s.st i with moveOut := false } := s.moved_st i
    have hends : u.moveEnds i = _ := State.moveEnds_eq (by rw [hu]; exact hstate)
    simp only [hu] at hends
    rw [exec_moveComplete_moves hmove, show s.moved i = u from rfl, hends]
    refine ⟨fun hact hband => ?_, fun a hact hready hholds hwaits => ?_, fun k hact => ?_, fun hact => ?_⟩
    · have hpos : u.positioned i .page = u.updSt i (fun x => { x with activity := .bandWait }) :=
        if_pos ⟨rfl, by rw [hu, show Station.bandIn { s.st i with moveOut := false } .full 0 = false from hband]; rfl⟩
      rw [hact]
      simp only [hpos]
      exact hs.done rfl rfl
    · have hpos : u.positioned i a = u.askPermit i a := by
        refine if_neg (fun hwait => ?_)
        obtain ⟨hpage, hunfull⟩ := hwait
        rw [hu, show Station.bandIn { s.st i with moveOut := false } .full 0 = true from
          hready.resolve_left (fun h => h hpage)] at hunfull
        cases hunfull
      rw [hact]
      simp only [hpos]
      refine ⟨fun hfull => ?_, fun hfree => ?_⟩
      · rw [State.askPermit_waits (s := u) a hholds hwaits hfull]
        exact hs.done rfl rfl
      · let w : State := ({ u with permitHolders := s.permitHolders ++ [i] } : State).updSt i
          (fun x => { x with state := .exposing, activity := .permitWait a })
        have hw : w.st i = { u.st i with state := .exposing, activity := .permitWait a } := State.st_updSt_same _ _ _
        obtain ⟨t, hdone, hsame, -, hline, hexposing, hout, hothers⟩ :=
          State.startLine_done (s := w) (i := i) (a := a) (k := 0) (State.settled_congr hs rfl rfl)
        rw [State.askPermit_granted (s := u) a hholds hwaits hfree]
        refine ⟨t, hdone, hsame, ?_, hline, ?_, fun q hq => ?_⟩
        · rw [hexposing, hw]
        · rw [hout, hw, hu]
        · exact ((hothers q hq).trans (State.st_updSt_other _ _ hq)).trans (State.moved_other hq)
    · rw [hact]
      exact State.moved_startLine_done hs nofun
    · rw [hact]
      exact State.moved_startLine_done hs nofun
  · let u : State := s.moved i
    have hcalibrates : u.calibrating i .moving = some f := by
      have hst : (u.st i).state = .calibrating := by rw [s.moved_st i]; exact hstate
      have hflight : (u.cal i).flight = some f := hf
      simp [State.calibrating, hst, hflight, hphase]
    have hsettles : u.moveEnds i = u.beginSettle i f := by rw [State.moveEnds, hcalibrates]
    rw [exec_moveComplete_moves hmove, show s.moved i = u from rfl, hsettles]
    exact hs.done rfl rfl

end Sys2Proof.Machine
end

section
/-! PROOFS. The reports of a FULL and of a QUICK (R145 to R148): what they write to the calibration unit, and what the station
does next with the photometer released to nobody. -/

namespace Sys2Proof.Machine

/-! ## What a report writes (R145, R147) -/

theorem readingStatus_clampReading (r : Nat) :
    readingStatus (clampReading r) = if r < 400 then .dead else if r < 500 then .weak else .ok := by
  simp [readingStatus, clampReading]

theorem readingTrim_clampReading (r : Nat) : readingTrim (clampReading r) = if r < 400 then 0 else if r < 500 then 2047 else
    max 512 (min 2047 ((1024000 + min 9999 r / 2) / min 9999 r)) := by
  simp [readingTrim, clampReading, clamp]

/-- Every emitter's trim as a FULL measures it (R145). -/
def fullTrims (readings : List Nat) : List Nat := readings.map (fun r => if r < 400 then 0 else if r < 500 then 2047 else
  max 512 (min 2047 ((1024000 + min 9999 r / 2) / min 9999 r)))

/-- Every emitter's status as a FULL measures it (R145). -/
def fullStatuses (readings : List Nat) : List EmitterStatus :=
  readings.map (fun r => if r < 400 then .dead else if r < 500 then .weak else .ok)

theorem count_fullStatuses (readings : List Nat) (e : EmitterStatus) : (fullStatuses readings).count e =
    (readings.filter (fun r => (if r < 400 then EmitterStatus.dead else if r < 500 then .weak else .ok) == e)).length := by
  rw [List.count, fullStatuses, List.countP_map, List.countP_eq_length_filter]
  rfl

/-- What a FULL leaves of its unit (R145, R146). -/
theorem CalUnit.fullDone_eq (c : CalUnit) (f : Calibration) (readings : List Nat) :
    c.fullDone f (readings.map clampReading) = {
      trims := fullTrims readings, statuses := fullStatuses readings, valid := true,
      dead := (readings.filter (· < 400)).length,
      weak := (readings.filter (fun r => decide (400 ≤ r) && decide (r < 500))).length,
      liveSum := ((readings.filter (400 ≤ ·)).map (min 9999)).sum, h := 1024, sinceFull := 0, sinceQuick := 0,
      quickRequired := c.quickRequired && !f.answersQuickRequired, quickDue := c.quickDue && !f.answersQuickDue,
      fullDue := c.fullDue && !f.answersFullDue, flight := none } := by
  have htrims : (readings.map clampReading).map readingTrim = fullTrims readings := by
    rw [List.map_map]
    exact List.map_congr_left (fun r _ => readingTrim_clampReading r)
  have hstatuses : (readings.map clampReading).map readingStatus = fullStatuses readings := by
    rw [List.map_map]
    exact List.map_congr_left (fun r _ => readingStatus_clampReading r)
  have hdead : (fullStatuses readings).count .dead = (readings.filter (· < 400)).length := by
    rw [count_fullStatuses]
    refine congrArg List.length (List.filter_congr (fun r _ => ?_))
    by_cases h : r < 400 <;> by_cases h' : r < 500 <;> simp [h, h']
  have hweak : (fullStatuses readings).count .weak =
      (readings.filter (fun r => decide (400 ≤ r) && decide (r < 500))).length := by
    rw [count_fullStatuses]
    refine congrArg List.length (List.filter_congr (fun r _ => ?_))
    by_cases h : r < 400 <;> by_cases h' : r < 500 <;> simp [h, h', Nat.not_le.2, Nat.le_of_not_lt]
  have hlive : (readings.map clampReading).filter (fun r => decide (400 ≤ r)) =
      (readings.filter (400 ≤ ·)).map (min 9999) := by
    rw [List.filter_map]
    refine congrArg (List.map clampReading) (List.filter_congr (fun r _ => ?_))
    simp [clampReading]
  rw [CalUnit.fullDone, htrims, hstatuses, hdead, hweak, hlive]

/-- What QUICK `f` leaves of its unit, from the reading `r` (R147, R148). -/
theorem CalUnit.quickDone_eq (c : CalUnit) (f : Calibration) (r : Nat) :
    let q := max 1 (min 9999 ((r * 1000 + c.liveSum / 2) / c.liveSum))
    let h := (1024000 + q / 2) / q
    c.quickDone f r = { c with
      h := if c.liveSum = 0 then c.h else max 768 (min 1280 h),
      sinceQuick := 0,
      quickRequired := c.quickRequired && !f.answersQuickRequired, quickDue := c.quickDue && !f.answersQuickDue,
      fullDue := c.fullDue || (c.liveSum != 0 && (decide (h < 768) || decide (1280 < h))), flight := none } := rfl

/-! ## The station released (R146, R148) -/

section
variable {s : State} {i : StationId} {f : Calibration} {c : CalUnit} {back : StationState}

/-- Two changes of one calibration unit. -/
theorem State.updCal_updCal (s : State) (i : StationId) (g k : CalUnit → CalUnit) :
    (s.updCal i g).updCal i k = s.updCal i (fun c => k (g c)) := by cases i <;> rfl

/-- Station `i` as the completion of its calibration leaves it in state `back`: its unit is `c`, and the photometer is nobody's. -/
def State.calibrated (s : State) (i : StationId) (c : CalUnit) (back : StationState) : State :=
  (({ s with photometer := none } : State).updCal i (fun _ => c)).updSt i (fun x => { x with state := back })

@[simp] theorem State.calibrated_st : (s.calibrated i c back).st i = { s.st i with state := back } := State.st_updSt_same _ _ _
@[simp] theorem State.calibrated_cal : (s.calibrated i c back).cal i = c :=
  State.cal_updCal_same ({ s with photometer := none } : State) i (fun _ => c)
theorem State.calibrated_other {k : StationId} (hk : k ≠ i) :
    (s.calibrated i c back).st k = s.st k ∧ (s.calibrated i c back).cal k = s.cal k :=
  ⟨State.st_updSt_other _ _ hk, State.cal_updCal_other ({ s with photometer := none } : State) (fun _ => c) hk⟩
theorem State.calibrated_updSt (g : Station → Station) : (s.calibrated i c back).updSt i g =
    (({ s with photometer := none } : State).updCal i (fun _ => c)).updSt i (fun x => g { x with state := back }) :=
  State.updSt_updSt _ _ _ _

theorem State.calibrated_dozeless (hdoze : (s.st i).dozeTimer = none) : s.calibrated i c back =
    (({ s with photometer := none } : State).updCal i (fun _ => c)).updSt i
      (fun x => { x with state := back, dozeTimer := none }) := by
  have hstopped : ({ s.st i with state := back } : Station) = { s.st i with state := back, dozeTimer := none } := by
    rw [← hdoze]
  exact State.updSt_congr hstopped

/-- A released station whose doze timer, stopped until then, is loaded. -/
theorem State.calibrated_dozes (hdoze : (s.st i).dozeTimer = none) (delay : Nat) :
    (s.calibrated i c back).updSt i (Station.dozes delay) = (({ s with photometer := none } : State).updCal i (fun _ => c)).updSt i
      (fun x => { x with state := back, dozeTimer := if delay = 0 then none else some delay }) := by
  rw [State.calibrated_updSt]
  exact State.updSt_congr (Station.dozes_of_none (x := { s.st i with state := back }) hdoze delay)

section
variable (hphoto : s.photometer = some i)
include hphoto

theorem State.releasePhotometer_calibrated {u : CalUnit → CalUnit} (hqueue : s.photometerQueue = []) (hu : u (s.cal i) = c) :
    ((s.updCal i u).updSt i (fun x => { x with state := back })).releasePhotometer i = s.calibrated i c back := by
  have hcal : s.updCal i u = s.updCal i (fun _ => c) := State.updCal_congr hu
  rw [hcal]
  exact State.releasePhotometer_frees (s := (s.updCal i (fun _ => c)).updSt i (fun x => { x with state := back })) hphoto hqueue

/-- A released station that is granted the photometer again at once (R139, R143). -/
theorem State.calibrated_grants {k g : Station → Station} {fl : Calibration} (hst : (k (s.st i)).calibrates = g (s.st i))
    (hfl : c.granted (k (s.st i)).sheet.isSome = fl) :
    ((({ s with photometer := none } : State).updCal i (fun _ => c)).updSt i k).grantPhotometer i =
      (s.updCal i (fun _ => { c with flight := some fl })).updSt i g := by
  let w : State := ({ s with photometer := none } : State).updCal i (fun _ => c)
  have hwcal : w.cal i = c := State.cal_updCal_same ({ s with photometer := none } : State) i (fun _ => c)
  have hheld : ({ w with photometer := some i } : State) = s.updCal i (fun _ => c) := by
    simp only [w, State.updCal, ← hphoto]
  rw [State.grantPhotometer_eq (s := w) (g := g) (u := fun _ => { c with flight := some fl }) hst
    (by rw [hwcal]; exact congrArg (fun x => { c with flight := some x }) hfl), hheld, State.updSt_updCal,
    State.updCal_updCal]

end

/-- A report that comes in the phase that waits for it (R144). -/
theorem State.calibrating_of (hstate : (s.st i).state = .calibrating) (hf : (s.cal i).flight = some f)
    (hphase : f.phase = .measuring) : s.calibrating i .measuring = some f := by
  simp [State.calibrating, hstate, hf, hphase]

/-! ## FULL_MEASUREMENT_REPORT (R145, R146) -/

theorem exec_fullMeasurementReport_measures {readings : List Nat} (hm : s.calibrating i .measuring = some f)
    (hkind : f.kind = .full) (hlength : readings.length = 2048) :
    exec (.fullMeasurementReport i readings) s = (s.completeFull i f readings).done := by
  simp [exec, execFullMeasurementReport, hm, hkind, hlength, Config.emitters]

/-- A FULL completes: a worn head faults its station, and any other station does what READY has it do (R146). -/
theorem State.completeFull_eq {readings : List Nat} (hphoto : s.photometer = some i) (hqueue : s.photometerQueue = [])
    (hc : (s.cal i).fullDone f (readings.map clampReading) = c) : s.completeFull i f readings =
      if 256 < c.dead then (s.calibrated i c .ready).enterFaulted i .headWorn
      else ((s.calibrated i c .ready).readyActions i).settle := by
  have hrelease := State.releasePhotometer_calibrated (u := (·.fullDone f (readings.map clampReading))) (back := .ready)
    hphoto hqueue hc
  simp only [State.completeFull, hrelease, State.calibrated_cal]
  rfl

/-- A station with no job faults, and its fault leaves the dispatcher nothing more to do. -/
theorem State.enterFaulted_settles {cause : FaultCause} (hatt : s.attached i = none) (hstacked : (s.st i).stacked = none)
    (hpermit : i ∉ s.permitHolders ∨ s.permitQueue = []) (hflight : (s.cal i).flight = none)
    (hrest : (s.faultedAt i cause).atRest) : s.enterFaulted i cause = s.faultedAt i cause := by
  rw [State.enterFaulted_drops hpermit hflight,
    State.dropWork_free (s := s.faultsAt i cause) hatt (by rw [State.faultsAt_st]; exact hstacked), State.faultsAt_cleared]
  exact State.settle_of_rest hrest

/-- A released station that faults is free for no job, whatever its table has become. -/
theorem State.calibrated_faultedAt_atRest {cause : FaultCause} (hrest : s.atRest) :
    ((s.calibrated i c back).faultedAt i cause).atRest := by
  refine State.atRest_of_faulted (i := i) hrest (State.faultedAt_waiters _ _ _) (State.faultedAt_endQueue _ _ _)
    (State.faultedAt_jobs _ _ _) (State.faultedAt_pass _ _ _) (fun k hk => ?_) ?_ (fun k hk => ?_)
  · exact (congrArg (PerStation.get · k) (State.faultedAt_cals _ _ _)).trans (State.calibrated_other hk).2
  · rw [State.faultedAt_st]; rfl
  · exact (State.faultedAt_st_other hk).trans (State.calibrated_other hk).1

end

/-- Settles O50: the unit as the FULL leaves it; then the READY station's doze timer, or the worn head's fault, behind which no
free station has a fitting job. -/
theorem fullCompletes : Obligations.FullCompletes := by
  intro s i f readings hs hstate hf hphase hkind hlength hphoto hqueue hatt hsheet hstacked hdoze hholds hwaits hlist
    dead c c' ready
  let w : State := s.calibrated i c' .ready
  have hexec : exec (.fullMeasurementReport i readings) s =
      (if 256 < dead then w.enterFaulted i .headWorn else (w.readyActions i).settle).done := by
    rw [exec_fullMeasurementReport_measures (State.calibrating_of hstate hf hphase) hkind hlength,
      State.completeFull_eq hphoto hqueue (CalUnit.fullDone_eq c f readings)]
    rfl
  have hnostack : (w.st i).stacked = none := by rw [State.calibrated_st]; exact hstacked
  have hnone : i ∉ w.photometerQueue := by
    show i ∉ s.photometerQueue
    rw [hqueue]; exact List.not_mem_nil
  refine ⟨fun hfew hmarked hrest => ?_, fun hworn hrest => ?_⟩
  · have hdozes : w.readyActions i = ready := by
      rw [State.readyActions_dozes (s := w) (by rw [State.calibrated_st]) hnostack (by rw [State.calibrated_cal]; exact hmarked)
        hatt hnone]
      exact State.calibrated_dozes hdoze _
    rw [hexec, if_neg (by omega)]
    exact hs.settle_done hdozes rfl rfl hrest
  · have hfaults : w.enterFaulted i .headWorn = w.faultedAt i .headWorn :=
      State.enterFaulted_settles (s := w) hatt hnostack (.inl hholds) (by rw [State.calibrated_cal])
        (State.calibrated_faultedAt_atRest hrest)
    have hoff : w.offLists i = w := State.offLists_of_none (s := w) hs.1 hlist hholds hwaits hnone
    rw [hexec, if_pos hworn, hfaults, State.faultedAt, hoff]
    refine ⟨_, hs.done rfl rfl, ?_, ?_, ?_, rfl, rfl⟩
    · exact State.calibrated_cal (back := .ready)
    · rw [State.st_updSt_same]; rfl
    · rw [State.st_updSt_same]; rfl

/-! ## QUICK_MEASUREMENT_REPORT (R147, R148) -/

section
variable {s : State} {i : StationId} {f : Calibration} {c : CalUnit} {r : Nat}

theorem exec_quickMeasurementReport_measures (hm : s.calibrating i .measuring = some f) (hkind : f.kind = .quick) :
    exec (.quickMeasurementReport i r) s = (s.completeQuick i f r).done := by
  simp [exec, execQuickMeasurementReport, hm, hkind]

variable (hphoto : s.photometer = some i) (hqueue : s.photometerQueue = []) (hc : (s.cal i).quickDone f r = c)
include hphoto hqueue hc

/-- A QUICK taken in READY completes there. -/
theorem State.completeQuick_ready (hsheet : (s.st i).sheet = none) :
    s.completeQuick i f r = ((s.calibrated i c .ready).readyActions i).settle := by
  have hrelease := State.releasePhotometer_calibrated (u := (·.quickDone f r)) (back := .ready) hphoto hqueue hc
  simp only [State.completeQuick, hsheet, Option.isSome_none, Bool.false_eq_true, if_false, hrelease]

/-- A QUICK taken at a boundary completes in SHEET_OPEN, where the decision goes on. -/
theorem State.completeQuick_open (hsheet : (s.st i).sheet ≠ none) :
    s.completeQuick i f r = (s.calibrated i c .sheetOpen).boundaryDecision i := by
  have hrelease := State.releasePhotometer_calibrated (u := (·.quickDone f r)) (back := .sheetOpen) hphoto hqueue hc
  simp only [State.completeQuick, Option.isSome_iff_ne_none.2 hsheet, if_true, hrelease]

end

/-- Settles O51: the unit as the QUICK leaves it; then what READY has the station do, or the boundary's decision. -/
theorem quickCompletes : Obligations.QuickCompletes := by
  intro s i f r hs hstate hf hphase hkind hphoto hqueue hstacked hdoze c q h c' done ready answers again
  have hexec : exec (.quickMeasurementReport i r) s = (s.completeQuick i f r).done :=
    exec_quickMeasurementReport_measures (State.calibrating_of hstate hf hphase) hkind
  have hc : (s.cal i).quickDone f r = c' := CalUnit.quickDone_eq c f r
  have hnone : i ∉ s.photometerQueue := by rw [hqueue]; exact List.not_mem_nil
  have hgrants : ∀ (k : Station → Station) (fl : Calibration), (k (s.st i)).calibrates = { s.st i with
      activity := .idle, drive := [], driveSaturated := 0, head := .photometer, moveOut := true } →
      c'.granted (k (s.st i)).sheet.isSome = fl →
      (done.updSt i k).askPhotometer i = (s.updCal i (fun _ => { c' with flight := some fl })).updSt i (fun x => { x with
        activity := .idle, drive := [], driveSaturated := 0, head := .photometer, moveOut := true }) := by
    intro k fl hst hfl
    rw [State.askPhotometer_takes (s := done.updSt i k) hnone rfl]
    exact State.calibrated_grants hphoto hst hfl
  let w : State := s.calibrated i c' .ready
  have hwready : (w.st i).state = .ready := by rw [State.calibrated_st]
  have hwstacked : (w.st i).stacked = none := by rw [State.calibrated_st]; exact hstacked
  have hwdoze : (w.st i).dozeTimer = none := by rw [State.calibrated_st]; exact hdoze
  have hwmarked : (w.cal i).marked = c'.marked := by rw [State.calibrated_cal]
  have hreads : ∀ m : State, (s.st i).sheet = none → w.readyActions i = m → m.port = s.port → m.ctrl = s.ctrl → m.atRest →
      answers m := by
    intro m hsheet hacts hport hctrl hrest
    show exec (.quickMeasurementReport i r) s = .next m
    rw [hexec, State.completeQuick_ready hphoto hqueue hc hsheet]
    exact hs.settle_done hacts hport hctrl hrest
  refine ⟨?_, fun j hsheet hmarked hj hattached he hseen hout hrest => ?_, ?_, fun hsheet hdue => ?_, ?_⟩
  · intro hsheet hmarked hatt m hrest
    refine hreads m hsheet ?_ rfl rfl hrest
    rw [State.readyActions_dozes (s := w) hwready hwstacked (hwmarked.trans hmarked) hatt hnone]
    exact State.calibrated_dozes hdoze _
  · have hw : w = ready none := State.calibrated_dozeless hdoze
    have hoffers : w.readyActions i = w.withRequests [decisionRequest i j] :=
      State.readyActions_reads (s := w) hwready hwstacked (hwmarked.trans hmarked) hnone hj hattached he hseen hout
    have hrests : (w.withRequests [decisionRequest i j]).atRest := by
      rw [hw]; exact State.atRest_of_view hrest rfl (Nat.le_refl _)
    show exec (.quickMeasurementReport i r) s = .next _
    rw [hexec, State.completeQuick_ready hphoto hqueue hc hsheet, hoffers, State.settle_of_rest hrests, hw]
    exact State.done_request_one hs.1 rfl rfl
  · intro hsheet hmarked m hrest
    refine hreads m hsheet ?_ rfl rfl hrest
    rw [State.readyActions_asks (s := w) hwready hwstacked (hwmarked.trans hmarked) hwdoze]
    refine hgrants (fun x => { x with state := .ready }) _ ?_ ?_
    · simp [Station.calibrates, hstate, hdoze]
    · rw [hsheet]
      exact CalUnit.granted_without_sheet c'
  · let v : State := s.calibrated i c' .sheetOpen
    have hvdue : (v.cal i).quickDue = true := by rw [State.calibrated_cal]; exact hdue
    show exec (.quickMeasurementReport i r) s = .next _
    rw [hexec, State.completeQuick_open hphoto hqueue hc hsheet, State.boundaryDecision_quick (s := v) hvdue,
      State.calibrated_updSt]
    refine (congrArg State.done (hgrants (fun x => Station.waitsQuick { x with state := .sheetOpen }) _ ?_ ?_)).trans
      (hs.done rfl rfl)
    · simp [Station.calibrates, Station.waitsQuick, hstate, hdoze]
    · rw [show (Station.waitsQuick { s.st i with state := .sheetOpen }).sheet.isSome = true from
        Option.isSome_iff_ne_none.2 hsheet]
      exact CalUnit.granted_with_sheet c'
  · intro j sh hj hsh hdue goes opened
    let v : State := s.calibrated i c' .sheetOpen
    have hvdue : (v.cal i).quickDue = false := by rw [State.calibrated_cal]; exact hdue
    have hvsheet : (v.st i).sheet = some sh := by rw [State.calibrated_st]; exact hsh
    have hdecides : exec (.quickMeasurementReport i r) s = (v.boundaryDecision i).done := by
      rw [hexec, State.completeQuick_open hphoto hqueue hc (by simp [hsh])]
    refine ⟨fun htitle => ?_, fun htitle hgoes => ?_, fun htitle hno => ?_⟩ <;> refine hdecides.trans ?_
    · rw [State.boundaryDecision_title (s := v) hvdue hj hvsheet htitle, State.calibrated_updSt]
      exact hs.done rfl rfl
    · obtain ⟨hseen, hfits, hpage⟩ := hgoes
      rw [State.boundaryDecision_goes (s := v) hvdue hj hvsheet htitle hseen hfits hpage, State.calibrated_updSt]
      exact State.done_request_one hs.1 rfl rfl
    · rw [State.boundaryDecision_index (s := v) hvdue hj hvsheet htitle hno, State.calibrated_updSt]
      exact hs.done rfl rfl

end Sys2Proof.Machine
end

section
/-! PROOFS. TIMING_SET and SERIAL_SET (R161, R162): the units compared with the new intervals, the marks so set in the order in
which their stations come up, and the doze timers under the new delay. -/

namespace Sys2Proof.Machine

/-! ## The parameters (R161) -/

theorem timingClamped_iff (v : Service) : timingClamped v = false ↔
    10 ≤ v.p1.toNat ∧ v.p1.toNat ≤ 2000 ∧ 500 ≤ v.p2.toNat ∧ v.p2.toNat ≤ 60000 ∧ v.p3.toNat ≤ 600 ∧
    10 ≤ v.p4.toNat ∧ v.p4.toNat ≤ 3600 := by
  have hq := clamp_ne_iff (lo := 10) (hi := 2000) (v := v.p1.toNat) (by decide)
  have hf := clamp_ne_iff (lo := 500) (hi := 60000) (v := v.p2.toNat) (by decide)
  have hh := clamp_ne_iff (lo := 10) (hi := 3600) (v := v.p4.toNat) (by decide)
  have hd : (min 600 v.p3.toNat != v.p3.toNat) = true ↔ 600 < v.p3.toNat := by
    rw [bne_iff_ne]; omega
  rw [← Bool.not_eq_true]
  simp only [timingClamped, timingOf, Bool.or_eq_true, hq, hf, hd, hh]
  omega

/-! ## The comparison (R137) -/

section
variable {t : Timing} {c : CalUnit}

/-- The comparison under `t` sets a mark that `c` has not. -/
def CalUnit.newly (t : Timing) (c : CalUnit) : Prop :=
  (c.quickDue = false ∧ t.quickInterval ≤ c.sinceQuick) ∨ (c.fullDue = false ∧ t.fullInterval ≤ c.sinceFull)

theorem State.newlyDue_iff {s : State} {i : StationId} : s.newlyDue t i = true ↔ (s.cal i).newly t := by
  simp only [State.newlyDue, CalUnit.compare, CalUnit.newly, Bool.or_eq_true, Bool.and_eq_true, Bool.not_eq_true',
    decide_eq_true_eq]
  constructor
  · rintro (⟨h | h, h'⟩ | ⟨h | h, h'⟩) <;> simp_all
  · rintro (⟨h, h'⟩ | ⟨h, h'⟩) <;> simp_all

/-- A comparison that sets no mark changes nothing. -/
theorem CalUnit.compare_of_not_newly (h : ¬c.newly t) : c.compare t = c := by
  obtain ⟨hquick, hfull⟩ := not_or.1 h
  have hq : (c.quickDue || decide (t.quickInterval ≤ c.sinceQuick)) = c.quickDue := by
    cases hc : c.quickDue <;> simp_all
  have hf : (c.fullDue || decide (t.fullInterval ≤ c.sinceFull)) = c.fullDue := by
    cases hc : c.fullDue <;> simp_all
  rw [CalUnit.compare, hq, hf]

theorem CalUnit.compare_marked_of_newly (h : c.newly t) : (c.compare t).marked = true := by
  rcases h with ⟨-, h⟩ | ⟨-, h⟩ <;> simp [CalUnit.compare, CalUnit.marked, h]

end

/-- The state with its units compared under the new parameters. -/
def State.compared (s : State) (t : Timing) : State :=
  allStations.foldl (fun u i => u.updCal i (CalUnit.compare t)) { s with timing := t }

theorem State.compared_eq (s : State) (t : Timing) :
    s.compared t = { s with timing := t, cals := (s.compared t).cals } := rfl
theorem State.compared_cal (s : State) (t : Timing) (i : StationId) :
    (s.compared t).cal i = (s.cal i).compare t := by cases i <;> rfl

/-! ## A mark made due (R70, R139, R140, R157) -/

/-- The station asks for the photometer when a mark is made due: READY, with no stacked sheet to hand over. -/
def Station.asks (x : Station) : Bool := x.state == .ready && x.stacked.isNone

/-- The station with the open entry of its frame flagged AGED (R140). -/
def Station.aged (x : Station) : Station :=
  { x with sheet := x.sheet.map (fun sh => { sh with openEntry := sh.openEntry.map (fun e => { e with aged := true }) }) }

/-- The station as a mark made due leaves it, the photometer's grant apart. -/
def Station.dueMarked (x : Station) : Station :=
  if x.state = .dozing then { x.aged with
    state := .waking, dozeTimer := none, holdTimer := none, wakeFromParked := false, wakeTimer := some 50 }
  else if x.asks = true then { x.aged with dozeTimer := none } else x.aged

theorem Station.dueMarked_sheet (x : Station) : x.dueMarked.sheet = x.aged.sheet := by
  unfold Station.dueMarked; split <;> [rfl; split <;> rfl]

/-- The dispatcher's match takes the station for free and fitting no more often than it took `x` (R54). -/
def Station.offeredAs (x y : Station) : Prop := y.sheet.isNone = x.sheet.isNone ∧ y.supply = x.supply ∧ y.stock = x.stock ∧
  (y.state.canBeFree = true → x.state.canBeFree = true)

theorem Station.dueMarked_offeredAs (x : Station) : x.offeredAs x.dueMarked := by
  have haged : x.aged.sheet.isNone = x.sheet.isNone := by simp [Station.aged]
  unfold Station.dueMarked
  split
  · exact ⟨haged, rfl, rfl, nofun⟩
  · split <;> exact ⟨haged, rfl, rfl, id⟩

theorem Station.asks_iff {x : Station} : x.asks = true ↔ x.state = .ready ∧ x.stacked = none := by
  simp [Station.asks]

theorem Station.dueMarked_of_dozing {x : Station} (h : x.state = .dozing) : x.dueMarked = { x.aged with
    state := .waking, dozeTimer := none, holdTimer := none, wakeFromParked := false, wakeTimer := some 50 } := if_pos h

theorem Station.dueMarked_of_asks {x : Station} (h : x.asks = true) : x.dueMarked = { x.aged with dozeTimer := none } := by
  rw [Station.dueMarked, if_neg (by simp [(Station.asks_iff.1 h).1]), if_pos h]

theorem Station.dueMarked_of_other {x : Station} (h : x.state ≠ .dozing) (ha : x.asks = false) : x.dueMarked = x.aged := by
  rw [Station.dueMarked, if_neg h, if_neg (by simp [ha])]

section
variable {s : State} {i : StationId}

/-- A mark made due: a station that asks goes on to the photometer. -/
theorem State.dueMarkSet_eq (hmarked : (s.cal i).marked = true) : s.dueMarkSet i =
    if (s.st i).asks = true then (s.updSt i Station.dueMarked).askPhotometer i else s.updSt i Station.dueMarked := by
  let u : State := s.updSt i Station.aged
  have hu : u.st i = (s.st i).aged := State.st_updSt_same _ _ _
  have hustate : (u.st i).state = (s.st i).state := by rw [hu]; rfl
  have hset : s.dueMarkSet i = if (s.st i).state = .dozing then u.beginWake i else u.readyActions i := rfl
  rw [hset]
  by_cases hdozing : (s.st i).state = .dozing
  · have hno : (s.st i).asks = false := by simp [Station.asks, hdozing]
    rw [if_pos hdozing, if_neg (by simp [hno]), State.beginWake_eq, State.updSt_updSt]
    refine State.updSt_congr ?_
    rw [Station.dueMarked_of_dozing hdozing, hustate, hdozing]
    rfl
  · rw [if_neg hdozing]
    by_cases hasks : (s.st i).asks = true
    · obtain ⟨hready, hstacked⟩ := Station.asks_iff.1 hasks
      have hacts : (u.st i).state = .ready ∧ (u.st i).stacked.isNone = true := by
        rw [hu]
        exact ⟨hready, by simp [Station.aged, hstacked]⟩
      have hmarks : u.updSt i (fun x => { x with dozeTimer := none }) = s.updSt i Station.dueMarked := by
        rw [State.updSt_updSt]
        exact State.updSt_congr (Station.dueMarked_of_asks hasks).symm
      have humarked : (u.cal i).marked = true := hmarked
      rw [if_pos hasks, State.readyActions, if_pos hacts, if_pos humarked, hmarks]
    · have hidle : ¬((u.st i).state = .ready ∧ (u.st i).stacked.isNone = true) := by
        rw [hu]
        exact fun h => hasks (by simpa [Station.asks, Station.aged] using h)
      rw [if_neg hasks, State.readyActions, if_neg hidle]
      exact State.updSt_congr (Station.dueMarked_of_other hdozing (by simpa using hasks)).symm

/-- What a mark made due at station `k` brings about: `v` is the state after it. -/
structure State.dueAt (u v : State) (k : StationId) : Prop where
  same : v = { u with
    stations := v.stations, cals := v.cals, photometer := v.photometer, photometerQueue := v.photometerQueue }
  marks : ∀ i, { v.cal i with flight := (u.cal i).flight } = u.cal i
  others : ∀ i, i ≠ k → v.st i = u.st i
  here : (v.st k = (u.st k).dueMarked ∧ v.photometer = u.photometer ∧ v.photometerQueue = u.photometerQueue ∧
      ((u.st k).asks = true → u.photometer = some k ∨ k ∈ u.photometerQueue)) ∨
    (v.st k = (u.st k).dueMarked.calibrates ∧ (u.st k).asks = true ∧ u.photometer = none ∧ v.photometer = some k ∧
      v.photometerQueue = u.photometerQueue) ∨
    (v.st k = (u.st k).dueMarked ∧ u.photometer ≠ none ∧ v.photometer = u.photometer ∧
      v.photometerQueue = u.photometerQueue ++ [k])

theorem State.dueMarkSet_spec (hmarked : (s.cal i).marked = true) : s.dueAt (s.dueMarkSet i) i := by
  let u : State := s.updSt i Station.dueMarked
  have hst : u.st i = (s.st i).dueMarked := State.st_updSt_same _ _ _
  have hothers : ∀ k, k ≠ i → u.st k = s.st k := fun k hk => State.st_updSt_other _ _ hk
  rw [State.dueMarkSet_eq hmarked]
  by_cases hasks : (s.st i).asks = true
  · rw [if_pos hasks]
    rcases State.askPhotometer_cases u i with ⟨hheld, he⟩ | ⟨hfree, -, he⟩ | ⟨hheld, -, -, he⟩
    · rw [he]
      exact ⟨rfl, fun _ => rfl, hothers, .inl ⟨hst, rfl, rfl, fun _ => hheld⟩⟩
    · rw [he]
      obtain ⟨-, -, hgranted, hcal⟩ := u.grantPhotometer_spec i
      refine ⟨rfl, fun k => ?_, fun k hk => (hgranted k hk).1.trans (hothers k hk),
        .inr (.inl ⟨by rw [u.grantPhotometer_st i, hst], hasks, hfree, rfl, rfl⟩)⟩
      by_cases hk : k = i
      · subst hk
        rw [u.grantPhotometer_cal k]
        rfl
      · rw [(hgranted k hk).2]; rfl
    · rw [he]
      exact ⟨rfl, fun _ => rfl, hothers, .inr (.inr ⟨hst, hheld, rfl, rfl⟩)⟩
  · rw [if_neg hasks]
    exact ⟨rfl, fun _ => rfl, hothers, .inl ⟨hst, rfl, rfl, fun h => absurd h hasks⟩⟩

/-! ## The marks made due, one after another (R141, R161) -/

/-- `u` is `w` with the marks of the stations of `l` made due in some order (log 3). -/
structure State.duesSet (w u : State) (l : List StationId) : Prop where
  same : u = { w with
    stations := u.stations, cals := u.cals, photometer := u.photometer,
    photometerQueue := u.photometerQueue, choices := u.choices }
  marks : ∀ i, { u.cal i with flight := (w.cal i).flight } = w.cal i
  rest : ∀ i, i ∉ l → u.st i = w.st i
  set : ∀ i ∈ l, u.st i = (w.st i).dueMarked ∨
    ((w.st i).asks = true ∧ u.photometer = some i ∧ u.st i = (w.st i).dueMarked.calibrates)
  kept : w.photometer ≠ none → u.photometer = w.photometer
  holder : w.photometer = none → ∀ k, u.photometer = some k →
    k ∈ l ∧ (w.st k).asks = true ∧ u.st k = (w.st k).dueMarked.calibrates
  queued : ∀ k ∈ w.photometerQueue, k ∈ u.photometerQueue
  joined : ∀ k ∈ u.photometerQueue, k ∈ w.photometerQueue ∨ k ∈ l
  asked : ∀ i ∈ l, (w.st i).asks = true → i ∉ w.photometerQueue → w.photometer ≠ some i →
    u.photometer ≠ none ∧ (i ∈ u.photometerQueue ∨ u.photometer = some i)

variable {w u v : State} {k : StationId} {l : List StationId}

theorem State.duesSet.start (w : State) (n : Nat) : w.duesSet { w with choices := n } [] :=
  ⟨rfl, fun _ => rfl, fun _ _ => rfl, nofun, fun _ => rfl, fun h _ hk => absurd (h.symm.trans hk) nofun, fun _ h => h,
    fun _ h => .inl h, nofun⟩

/-- A mark more, the station's first. -/
theorem State.duesSet.next (h : w.duesSet u l) (hk : k ∉ l) (hd : u.dueAt v k) : w.duesSet v (k :: l) := by
  have hsame : v = { w with
      stations := v.stations, cals := v.cals, photometer := v.photometer,
      photometerQueue := v.photometerQueue, choices := v.choices } := by
    rw [hd.same, h.same]
  have hmarks : ∀ i, { v.cal i with flight := (w.cal i).flight } = w.cal i := by
    intro i
    rw [← h.marks i, ← hd.marks i]
  have hrest : ∀ i, i ∉ k :: l → v.st i = w.st i := by
    intro i hi
    obtain ⟨hik, hil⟩ := not_or.1 (List.mem_cons.not.1 hi)
    exact (hd.others i hik).trans (h.rest i hil)
  have hearlier : ∀ i ∈ l, v.st i = u.st i := fun i hi => hd.others i (fun hik => hk (hik ▸ hi))
  have hset (hst : v.st k = (w.st k).dueMarked) (hph : v.photometer = u.photometer) : ∀ i ∈ k :: l,
      v.st i = (w.st i).dueMarked ∨
        ((w.st i).asks = true ∧ v.photometer = some i ∧ v.st i = (w.st i).dueMarked.calibrates) := by
    intro i hi
    rcases List.mem_cons.1 hi with rfl | hi
    · exact .inl hst
    · rw [hearlier i hi, hph]; exact h.set i hi
  have hholder (hph : v.photometer = u.photometer) : w.photometer = none → ∀ i, v.photometer = some i →
      i ∈ k :: l ∧ (w.st i).asks = true ∧ v.st i = (w.st i).dueMarked.calibrates := by
    intro hw i hi
    obtain ⟨hil, hasks, hcal⟩ := h.holder hw i (hph ▸ hi)
    exact ⟨List.mem_cons_of_mem _ hil, hasks, (hearlier i hil).trans hcal⟩
  have hfirst : u.st k = w.st k := h.rest k hk
  have hwas := hd.here
  rw [hfirst] at hwas
  rcases hwas with ⟨hst, hph, hq, hheld⟩ | ⟨hst, hasks, hfree, hph, hq⟩ | ⟨hst, hheld, hph, hq⟩
  · refine ⟨hsame, hmarks, hrest, hset hst hph, by rw [hph]; exact h.kept, hholder hph, by rw [hq]; exact h.queued, ?_, ?_⟩
    · intro i hi
      exact (h.joined i (hq ▸ hi)).imp_right (List.mem_cons_of_mem _)
    · intro i hi hasks hnoq hnoph
      rw [hph, hq]
      rcases List.mem_cons.1 hi with rfl | hi
      · exfalso
        rcases hheld hasks with hheld | hheld
        · rcases Option.eq_none_or_eq_some w.photometer with hw | ⟨q, hw⟩
          · exact hk (h.holder hw i hheld).1
          · exact hnoph ((h.kept (by simp [hw])).symm.trans hheld)
        · exact (h.joined i hheld).elim hnoq hk
      · exact h.asked i hi hasks hnoq hnoph
  · have hw : w.photometer = none := by
      by_contra hw
      exact hw ((h.kept hw).symm.trans hfree)
    refine ⟨hsame, hmarks, hrest, ?_, fun hne => absurd hw hne, ?_, by rw [hq]; exact h.queued, ?_, ?_⟩
    · intro i hi
      rcases List.mem_cons.1 hi with rfl | hi
      · exact .inr ⟨hasks, hph, hst⟩
      · rw [hearlier i hi]
        rcases h.set i hi with hset | ⟨-, hheld, -⟩
        · exact .inl hset
        · rw [hfree] at hheld; cases hheld
    · intro _ i hi
      obtain rfl : k = i := Option.some.inj (hph.symm.trans hi)
      exact ⟨List.mem_cons_self, hasks, hst⟩
    · intro i hi
      exact (h.joined i (hq ▸ hi)).imp_right (List.mem_cons_of_mem _)
    · intro i hi hasksi hnoq hnoph
      rcases List.mem_cons.1 hi with rfl | hi
      · exact ⟨by simp [hph], .inr hph⟩
      · exact absurd hfree (h.asked i hi hasksi hnoq hnoph).1
  · refine ⟨hsame, hmarks, hrest, hset hst hph, by rw [hph]; exact h.kept, hholder hph, ?_, ?_, ?_⟩
    · intro i hi
      rw [hq]
      exact List.mem_append_left _ (h.queued i hi)
    · intro i hi
      rw [hq, List.mem_append, List.mem_singleton] at hi
      rcases hi with hi | rfl
      · exact (h.joined i hi).imp_right (List.mem_cons_of_mem _)
      · exact .inr List.mem_cons_self
    · intro i hi hasks hnoq hnoph
      rw [hph, hq]
      rcases List.mem_cons.1 hi with rfl | hi
      · exact ⟨hheld, .inl (by simp)⟩
      · obtain ⟨hne, hin⟩ := h.asked i hi hasks hnoq hnoph
        exact ⟨hne, hin.imp_left (List.mem_append_left _)⟩

theorem State.duesSet.marked (h : w.duesSet u l) (i : StationId) : (u.cal i).marked = (w.cal i).marked := by
  rw [← h.marks i]; rfl

/-- The marks of distinct stations made due one after another. -/
theorem State.duesSet.fold (h : w.duesSet u l) {m : List StationId} (hm : m.Nodup) (hdisjoint : ∀ i ∈ m, i ∉ l)
    (hmarked : ∀ i ∈ m, (w.cal i).marked = true) : w.duesSet (m.foldl State.dueMarkSet u) (m.reverse ++ l) := by
  induction m generalizing u l with
  | nil => exact h
  | cons k m ih =>
    obtain ⟨hkm, hm⟩ := List.nodup_cons.1 hm
    have hdue : (u.cal k).marked = true := (h.marked k).trans (hmarked k List.mem_cons_self)
    have hnext := h.next (hdisjoint k List.mem_cons_self) (State.dueMarkSet_spec hdue)
    have hlater : ∀ i ∈ m, i ∉ k :: l := by
      intro i hi hil
      rcases List.mem_cons.1 hil with rfl | hil
      · exact hkm hi
      · exact hdisjoint i (List.mem_cons_of_mem _ hi) hil
    have := ih hnext hm hlater (fun i hi => hmarked i (List.mem_cons_of_mem _ hi))
    simpa [List.foldl_cons] using this

end

/-! ## The doze timers under the new delay (R72, R161) -/

/-- The station's doze timer under a new delay: stopped by one of 0, and loaded by any other at an idle station that runs none. -/
def Station.dozeDelayed (x : Station) (delay : Nat) (idle : Prop) [Decidable idle] : Station := { x with
  dozeTimer := if delay = 0 then none else if idle ∧ x.dozeTimer = none then some delay else x.dozeTimer }

section
variable {s : State} {i : StationId}

theorem State.dozeIfIdle_eq (s : State) (i : StationId) : s.dozeIfIdle i = s.updSt i (fun x => { x with
    dozeTimer := if s.idle i = true ∧ x.dozeTimer = none then some s.timing.dozeDelay else x.dozeTimer }) := by
  rcases s.dozeIfIdle_cases i with ⟨hidle, hstopped, he⟩ | ⟨hno, he⟩
  · rw [he]
    exact State.updSt_congr (by simp [hidle, hstopped])
  · rw [he]
    refine ((State.updSt_congr (g := fun x => x) ?_).trans (State.updSt_id s i)).symm
    rcases hno with hno | hno <;> simp [hno]

/-- Whether a station is idle is decided by its own state and by nothing of the others'. -/
theorem State.idle_congr {u v : State} (hstate : (u.st i).state = (v.st i).state) (hcal : (u.cal i).marked = (v.cal i).marked)
    (hjobs : u.jobs = v.jobs) (hqueue : u.photometerQueue = v.photometerQueue) (htiming : u.timing = v.timing) :
    u.idle i = v.idle i := by
  simp only [State.idle, State.attached, hstate, hcal, hjobs, hqueue, htiming]

theorem State.dozeIfIdle_idle (s : State) (i k : StationId) : (s.dozeIfIdle i).idle k = s.idle k := by
  rw [State.dozeIfIdle_eq]
  refine State.idle_congr ?_ rfl rfl rfl rfl
  by_cases hk : k = i
  · subst hk; rw [State.st_updSt_same]
  · rw [State.st_updSt_other _ _ hk]

/-- Steps that touch the stations alone, taken at the stations of a list. -/
theorem State.foldl_stations {f : State → StationId → State} (hf : ∀ u i, f u i = { u with stations := (f u i).stations })
    (l : List StationId) (s : State) : l.foldl f s = { s with stations := (l.foldl f s).stations } := by
  induction l generalizing s with
  | nil => rfl
  | cons k l ih =>
    have hrest := ih (f s k)
    rw [hf s k] at hrest
    rw [List.foldl_cons, hf s k]
    exact hrest

theorem State.dozeIfIdle_stations (s : State) (i : StationId) :
    s.dozeIfIdle i = { s with stations := (s.dozeIfIdle i).stations } := by
  rw [State.dozeIfIdle_eq]
  rfl

/-- The doze timers loaded at the stations of a list that are idle and run none. -/
theorem State.foldl_dozeIfIdle_st {l : List StationId} (hl : l.Nodup) (s : State) (i : StationId) :
    (l.foldl State.dozeIfIdle s).st i = if i ∈ l then (s.dozeIfIdle i).st i else s.st i := by
  induction l generalizing s with
  | nil => rfl
  | cons k l ih =>
    obtain ⟨hk, hl⟩ := List.nodup_cons.1 hl
    rw [List.foldl_cons, ih hl]
    by_cases hik : i = k
    · subst hik
      rw [if_neg hk, if_pos List.mem_cons_self]
    · have hst : (s.dozeIfIdle k).st i = s.st i := by rw [State.dozeIfIdle_eq, State.st_updSt_other _ _ hik]
      have htiming : (s.dozeIfIdle k).timing = s.timing := by rw [State.dozeIfIdle_eq]; rfl
      simp only [State.dozeIfIdle_eq _ i, State.st_updSt_same, hst, State.dozeIfIdle_idle, htiming, List.mem_cons, hik, false_or]

/-- Nothing but the stations differs. -/
theorem State.dozeDelaySet_eq (s : State) : s.dozeDelaySet = { s with stations := s.dozeDelaySet.stations } := by
  unfold State.dozeDelaySet
  split
  · exact State.foldl_stations (f := fun u i => u.updSt i (fun x => { x with dozeTimer := none })) (fun _ _ => rfl) _ s
  · exact State.foldl_stations State.dozeIfIdle_stations _ s

theorem State.dozeDelaySet_st (s : State) (i : StationId) :
    s.dozeDelaySet.st i = (s.st i).dozeDelayed s.timing.dozeDelay (s.idle i = true) := by
  unfold State.dozeDelaySet Station.dozeDelayed
  split
  · cases i <;> rfl
  · have hall : i ∈ allStations := by cases i <;> decide
    rw [State.foldl_dozeIfIdle_st (by decide), if_pos hall, State.dozeIfIdle_eq, State.st_updSt_same]

end

/-! ## The new parameters' whole effect (R161) -/

/-- The blocks under the new parameters: compared, the new marks made due, the doze timers under the new delay. -/
def State.retimed (s : State) (t : Timing) : State :=
  ((s.compared t).inSomeOrder (allStations.filter (s.newlyDue t)) State.dueMarkSet).dozeDelaySet

/-- `r` is `s` under the parameters `t`: `w` with the units compared, `u` with the marks made due at the stations of `l`. -/
structure State.retimedBy (s : State) (t : Timing) (w : State) (l : List StationId) (u r : State) : Prop where
  retimes : w = { s with timing := t, cals := w.cals }
  compares : ∀ i, w.cal i = (s.cal i).compare t
  dues : w.duesSet u l
  newly : ∀ i, i ∈ l ↔ (s.cal i).newly t
  unmarked : l = [] → u = { w with choices := u.choices }
  dozes : r = { u with stations := r.stations }
  st : ∀ i, r.st i = (u.st i).dozeDelayed t.dozeDelay (u.idle i = true)

theorem State.retimed_spec (s : State) (t : Timing) : ∃ l u, s.retimedBy t (s.compared t) l u (s.retimed t) := by
  let m : List StationId := allStations.filter (s.newlyDue t)
  have hmem : ∀ i, i ∈ shuffle (s.compared t).choices m ↔ (s.cal i).newly t := by
    intro i
    have hall : i ∈ allStations := by cases i <;> decide
    rw [(shuffle_perm _ _).mem_iff, List.mem_filter, State.newlyDue_iff]
    exact and_iff_right hall
  have hnodup : (shuffle (s.compared t).choices m).Nodup :=
    (shuffle_perm _ _).nodup_iff.2 ((by decide : allStations.Nodup).filter _)
  have hmarked : ∀ i ∈ shuffle (s.compared t).choices m, ((s.compared t).cal i).marked = true := by
    intro i hi
    rw [State.compared_cal]
    exact CalUnit.compare_marked_of_newly ((hmem i).1 hi)
  have hdues := (State.duesSet.start (s.compared t) ((s.compared t).choices + choicesFor m.length)).fold hnodup
    (fun _ _ => List.not_mem_nil) hmarked
  have htiming : ((s.compared t).inSomeOrder m State.dueMarkSet).timing = t := congrArg State.timing hdues.same
  refine ⟨_, _, s.compared_eq t, s.compared_cal t, hdues, fun i => ?_, fun hl => ?_, State.dozeDelaySet_eq _, fun i => ?_⟩
  · rw [List.append_nil, List.mem_reverse, hmem]
  · rw [List.append_nil, List.reverse_eq_nil_iff] at hl
    rw [hl]
    rfl
  · have hst := State.dozeDelaySet_st ((s.compared t).inSomeOrder m State.dueMarkSet) i
    rw [htiming] at hst
    exact hst

section
variable {s w u r : State} {t : Timing} {l : List StationId} {i : StationId}

theorem State.retimedBy.compared (h : s.retimedBy t w l u r) : (∀ i, w.st i = s.st i) ∧ w.jobs = s.jobs ∧
    w.photometer = s.photometer ∧ w.photometerQueue = s.photometerQueue ∧ w.timing = t := by
  rw [h.retimes]
  exact ⟨fun _ => rfl, rfl, rfl, rfl, rfl⟩

theorem State.retimedBy.cal (h : s.retimedBy t w l u r) (i : StationId) :
    { r.cal i with flight := (s.cal i).flight } = (s.cal i).compare t := by
  have hcal : r.cal i = u.cal i := by rw [h.dozes]; rfl
  have hmarks := h.dues.marks i
  rw [h.compares] at hmarks
  rw [hcal]
  exact hmarks

theorem State.retimedBy.cal_fields (h : s.retimedBy t w l u r) (i : StationId) :
    (r.cal i).quickDue = ((s.cal i).quickDue || decide (t.quickInterval ≤ (s.cal i).sinceQuick)) ∧
      (r.cal i).fullDue = ((s.cal i).fullDue || decide (t.fullInterval ≤ (s.cal i).sinceFull)) ∧
      (r.cal i).valid = (s.cal i).valid ∧ (r.cal i).statuses = (s.cal i).statuses := by
  have hcal := h.cal i
  rw [CalUnit.compare, CalUnit.mk.injEq] at hcal
  simp only [hcal, and_self]

/-- A station with no mark made due: its doze timer alone is acted on (R72). -/
theorem State.retimedBy.st_other (h : s.retimedBy t w l u r) (hold : ¬(s.cal i).newly t) : r.st i = { s.st i with
    dozeTimer := if t.dozeDelay = 0 then none
      else if (s.st i).state = .ready ∧ s.attached i = none ∧ (s.cal i).marked = false ∧ i ∉ s.photometerQueue ∧
        (s.st i).dozeTimer = none then some t.dozeDelay else (s.st i).dozeTimer } := by
  obtain ⟨hwst, hwjobs, -, hwqueue, hwtiming⟩ := h.compared
  have hil : i ∉ l := fun hi => hold ((h.newly i).1 hi)
  have hst : u.st i = s.st i := (h.dues.rest i hil).trans (hwst i)
  have hmarked : (u.cal i).marked = (s.cal i).marked := by
    rw [h.dues.marked i, h.compares, CalUnit.compare_of_not_newly hold]
  have hqueue : i ∈ u.photometerQueue ↔ i ∈ s.photometerQueue := by
    rw [← hwqueue]
    exact ⟨fun hi => (h.dues.joined i hi).resolve_right hil, h.dues.queued i⟩
  have hjobs : u.attached i = s.attached i := by
    rw [State.attached, State.attached, ← hwjobs, h.dues.same]
  have htiming : u.timing = t := by rw [← hwtiming, h.dues.same]
  rw [h.st i, Station.dozeDelayed, hst]
  congr 1
  by_cases hdelay : t.dozeDelay = 0
  · rw [if_pos hdelay, if_pos hdelay]
  · rw [if_neg hdelay, if_neg hdelay]
    refine if_congr ?_ rfl rfl
    simp [State.idle, hst, hmarked, hqueue, hjobs, htiming, hdelay, and_assoc]

/-- A mark made due keeps the station from idling: of its doze timer no more than a delay of 0 is acted on. -/
theorem State.retimedBy.st_newly (h : s.retimedBy t w l u r) (hnew : (s.cal i).newly t) :
    r.st i = { u.st i with dozeTimer := if t.dozeDelay = 0 then none else (u.st i).dozeTimer } := by
  have hidle : u.idle i = false := by
    have hmarked : (u.cal i).marked = true := by
      rw [h.dues.marked i, h.compares, CalUnit.compare_marked_of_newly hnew]
    simp [State.idle, hmarked]
  rw [h.st i, Station.dozeDelayed]
  simp [hidle]

/-- A station that does not ask, its mark made due. -/
theorem State.retimedBy.st_unasked (h : s.retimedBy t w l u r) (hnew : (s.cal i).newly t) (hasks : (s.st i).asks = false) :
    u.st i = (s.st i).dueMarked := by
  obtain ⟨hwst, -⟩ := h.compared
  rw [← hwst i] at hasks ⊢
  exact (h.dues.set i ((h.newly i).2 hnew)).resolve_right (fun hno => absurd (hasks.symm.trans hno.1) nofun)

theorem State.retimedBy.photometer_eq (h : s.retimedBy t w l u r) :
    r.photometer = u.photometer ∧ r.photometerQueue = u.photometerQueue := by
  rw [h.dozes]
  exact ⟨rfl, rfl⟩

theorem State.retimedBy.dispatch_eq (h : s.retimedBy t w l u r) : r.timing = t ∧ r.tasks = s.tasks ∧ r.waiters = s.waiters ∧
    r.endQueue = s.endQueue ∧ r.jobs = s.jobs ∧ r.pass = s.pass := by
  rw [h.dozes, h.dues.same, h.retimes]
  exact ⟨rfl, rfl, rfl, rfl, rfl, rfl⟩

/-- With no mark made due, nothing but the parameters and the doze timers differs. -/
theorem State.retimedBy.of_none (h : s.retimedBy t w l u r) (hnone : ∀ i, ¬(s.cal i).newly t) :
    r = { s with timing := t, stations := r.stations, choices := r.choices } := by
  have hl : l = [] := List.eq_nil_iff_forall_not_mem.2 (fun i hi => hnone i ((h.newly i).1 hi))
  have hcals : w.cals = s.cals := PerStation.ext_get (fun i => (h.compares i).trans (CalUnit.compare_of_not_newly (hnone i)))
  rw [h.dozes, h.unmarked hl, h.retimes, hcals]

theorem State.retimedBy.st_marked (h : s.retimedBy t w l u r) (hnew : (s.cal i).newly t) : u.st i = (s.st i).dueMarked ∨
    ((s.st i).asks = true ∧ u.st i = (s.st i).dueMarked.calibrates) := by
  obtain ⟨hwst, -⟩ := h.compared
  rw [← hwst i]
  exact (h.dues.set i ((h.newly i).2 hnew)).imp_right (fun hset => ⟨hset.1, hset.2.2⟩)

/-- The open entry of a station's sheet is flagged with its mark made due (R140). -/
theorem State.retimedBy.sheet_marked (h : s.retimedBy t w l u r) (hnew : (s.cal i).newly t) :
    (r.st i).sheet = (s.st i).aged.sheet := by
  rw [h.st_newly hnew, ← Station.dueMarked_sheet]
  rcases h.st_marked hnew with hst | ⟨-, hst⟩ <;> rw [hst]
  rfl

theorem State.retimedBy.offeredAs (h : s.retimedBy t w l u r) (i : StationId) : (s.st i).offeredAs (r.st i) := by
  by_cases hnew : (s.cal i).newly t
  · obtain ⟨hsheet, hsupply, hstock, hfree⟩ := (s.st i).dueMarked_offeredAs
    rw [h.st_newly hnew]
    rcases h.st_marked hnew with hst | ⟨hasks, hst⟩
    · rw [hst]
      exact ⟨hsheet, hsupply, hstock, hfree⟩
    · rw [hst]
      exact ⟨hsheet, hsupply, hstock, fun _ => by rw [(Station.asks_iff.1 hasks).1]; rfl⟩
  · rw [h.st_other hnew]
    exact ⟨rfl, rfl, rfl, id⟩

/-- The dispatcher has no more to do than it had: no station is freed, and the tables are as they were. -/
theorem State.retimedBy.calm (h : s.retimedBy t w l u r) (hcalm : s.calm) : r.calm := by
  obtain ⟨-, -, hwaiters, hqueue, hjobs, -⟩ := h.dispatch_eq
  refine State.atRest_of_matches (u := { r with pass := none }) hcalm hwaiters hqueue hjobs rfl (fun k hk => ?_)
  obtain ⟨hsheet, hsupply, hstock, hfree⟩ := h.offeredAs k
  obtain ⟨-, -, hvalid, hstatuses⟩ := h.cal_fields k
  have hattached : r.attached k = s.attached k := by rw [State.attached, hjobs]; rfl
  refine ⟨?_, funext (fun j => ?_)⟩
  · change r.free k = true at hk
    show s.free k = true
    rw [State.free, hsheet, hattached, hsupply] at hk
    simp only [Bool.and_eq_true] at hk
    obtain ⟨⟨⟨hstate, hnosheet⟩, hnojob⟩, hsup⟩ := hk
    have hcan : ((s.st k).state == .ready || (s.st k).state == .dozing || (s.st k).state == .calibrating) = true :=
      hfree hstate
    rw [State.free, hcan, hnosheet, hnojob, hsup]
    rfl
  · show r.fitsJob k j = s.fitsJob k j
    rw [State.fitsJob, State.fitsJob, hstock, hvalid, hstatuses]

/-- A mark made due at a station that asks: the photometer at once when it was free and nobody else asked (R141, R157). -/
theorem State.retimedBy.asker (h : s.retimedBy t w l u r) (hnew : (s.cal i).newly t) (hasks : (s.st i).asks = true)
    (hwaits : i ∉ s.photometerQueue) (hheld : s.photometer ≠ some i) : (r.st i).dozeTimer = none ∧
      (s.photometer ≠ none → i ∈ r.photometerQueue ∧ r.photometer = s.photometer ∧ (r.st i).state = .ready) ∧
      (s.photometer = none → (i ∈ r.photometerQueue ∧ (r.st i).state = .ready) ∨
        (r.photometer = some i ∧ (r.st i).state = .calibrating ∧ (r.st i).head = .photometer)) ∧
      (s.photometer = none → (∀ k, k ≠ i → (s.cal k).newly t → (s.st k).asks = false) →
        r.photometer = some i ∧ (r.st i).state = .calibrating) := by
  obtain ⟨hwst, -, hwph, hwq, -⟩ := h.compared
  have hil : i ∈ l := (h.newly i).2 hnew
  obtain ⟨hph, hq⟩ := h.photometer_eq
  have hmarked : (s.st i).dueMarked = { (s.st i).aged with dozeTimer := none } := Station.dueMarked_of_asks hasks
  have hready : (s.st i).dueMarked.state = .ready := by rw [hmarked]; exact (Station.asks_iff.1 hasks).1
  obtain ⟨hsome, hplace⟩ := h.dues.asked i hil
    (by rw [hwst]; exact hasks) (by rw [hwq]; exact hwaits) (by rw [hwph]; exact hheld)
  have hgranted : s.photometer = none → ∀ k, u.photometer = some k →
      k ∈ l ∧ (s.st k).asks = true ∧ u.st k = (s.st k).dueMarked.calibrates := by
    intro hfree k hk
    rw [← hwst k]
    exact h.dues.holder (hwph.trans hfree) k hk
  have hstays : u.photometer ≠ some i → i ∈ u.photometerQueue ∧ u.st i = (s.st i).dueMarked := by
    intro hno
    rw [← hwst i]
    exact ⟨hplace.resolve_right hno, (h.dues.set i hil).resolve_right (fun hset => hno hset.2.1)⟩
  have htakes : s.photometer = none → u.photometer = some i →
      r.photometer = some i ∧ (r.st i).state = .calibrating ∧ (r.st i).head = .photometer := by
    intro hfree hi
    rw [hph, h.st_newly hnew, (hgranted hfree i hi).2.2]
    exact ⟨hi, rfl, rfl⟩
  have hwaiting : u.photometer ≠ some i → i ∈ r.photometerQueue ∧ (r.st i).state = .ready := by
    intro hno
    obtain ⟨hin, hst⟩ := hstays hno
    rw [hq, h.st_newly hnew, hst]
    exact ⟨hin, hready⟩
  refine ⟨?_, fun hbusy => ?_, fun hfree => ?_, fun hfree honly => ?_⟩
  · have hstopped : (u.st i).dozeTimer = none := by
      rcases h.st_marked hnew with hst | ⟨-, hst⟩ <;> rw [hst]
      · rw [hmarked]
      · rfl
    rw [h.st_newly hnew, hstopped]
    exact ite_self _
  · have hkept : u.photometer = s.photometer := (h.dues.kept (hwph ▸ hbusy)).trans hwph
    obtain ⟨hin, hst⟩ := hwaiting (hkept ▸ hheld)
    exact ⟨hin, hph.trans hkept, hst⟩
  · by_cases hi : u.photometer = some i
    · exact .inr (htakes hfree hi)
    · exact .inl (hwaiting hi)
  · obtain ⟨k, hk⟩ := Option.ne_none_iff_exists'.1 hsome
    obtain ⟨hkl, hkasks, -⟩ := hgranted hfree k hk
    by_cases hki : k = i
    · obtain ⟨hr, hst, -⟩ := htakes hfree (hki ▸ hk)
      exact ⟨hr, hst⟩
    · exact absurd (hkasks.symm.trans (honly k hki ((h.newly k).1 hkl))) nofun

end

/-! ## The services -/

theorem State.behindScanner_fields {e r : State} (h : e.behindScanner = r.behindScanner) : e.timing = r.timing ∧
    e.stations = r.stations ∧ e.cals = r.cals ∧ e.photometer = r.photometer ∧ e.photometerQueue = r.photometerQueue :=
  ⟨congrArg (·.timing) h, congrArg (·.stations) h, congrArg (·.cals) h, congrArg (·.photometer) h,
    congrArg (·.photometerQueue) h⟩

/-- A ticket that ends behind an effect of the service's own: what stands behind the scan half is that effect's. -/
theorem State.ticketEnds.blocks {s r e : State} {c : Candidate} {o : TicketOutcome} {q : Reason} {n : Nat}
    (h : r.ticketEnds e c o q n) (htasks : r.tasks = s.tasks) (hwaiters : r.waiters = s.waiters) :
    e.behindScanner = r.behindScanner ∧ s.taskAdded e (.ticket c.addr o q n) := by
  obtain ⟨hbehind, hadded⟩ := h
  refine ⟨State.onlyScanner_iff.1 hbehind, ?_⟩
  unfold State.taskAdded at hadded ⊢
  rw [← htasks, ← hwaiters]
  exact hadded

theorem exec_timingSet {s : State} {p : Pass} {c : Candidate} {v : Service} (h : s.atService p c v) (hk : v.kind = .timingSet) :
    exec .timingSet s = ((s.retimed (timingOf v)).endService (timingClamped v)).done :=
  State.runService_of_atService h hk _

theorem exec_serialSet {s : State} {p : Pass} {c : Candidate} {v : Service} (h : s.atService p c v) (hk : v.kind = .serialSet) :
    exec .serialSet s = (({ s with serial := v.p1 } : State).endService false).done :=
  State.runService_of_atService h hk _

/-- Settles O25: the ticket ends behind the retimed blocks, and each station is as its mark and the new delay leave it. -/
theorem timingAndSerialSet : Obligations.TimingAndSerialSet := by
  intro s p c v _ hcalm hat
  obtain ⟨hp, -, hcur⟩ := id hat
  refine ⟨fun hk => ?_, fun hk => ?_⟩
  · rw [exec_serialSet hat hk]
    exact State.service_ends .doneOk .none 0 (State.calm_of_view hcalm rfl) hp hcur
  · let t : Timing := timingOf v
    obtain ⟨l, u, h⟩ := s.retimed_spec t
    generalize hr : s.retimed t = r at h
    obtain ⟨htiming, htasks, hwaiters, -, -, hpass⟩ := h.dispatch_eq
    obtain ⟨e, hends, hticket⟩ := State.service_ends (if timingClamped v = true then .doneClamped else .doneOk) .none 0
      (h.calm hcalm) (hpass.trans hp) hcur
    obtain ⟨hbehind, hadded⟩ := hticket.blocks htasks hwaiters
    obtain ⟨hebtiming, hestations, hecals, heph, hequeue⟩ := State.behindScanner_fields hbehind
    have hetiming : e.timing = t := hebtiming.trans htiming
    have hest : ∀ i, e.st i = r.st i := fun i => congrArg (PerStation.get · i) hestations
    have hecal : ∀ i, e.cal i = r.cal i := fun i => congrArg (PerStation.get · i) hecals
    refine ⟨e, by rw [exec_timingSet hat hk, hr]; exact hends, hetiming, ?_, fun i => ?_, ?_⟩
    · have hoc : (if timingClamped v = true then TicketOutcome.doneClamped else .doneOk) =
          if 10 ≤ v.p1.toNat ∧ v.p1.toNat ≤ 2000 ∧ 500 ≤ v.p2.toNat ∧ v.p2.toNat ≤ 60000 ∧ v.p3.toNat ≤ 600 ∧
            10 ≤ v.p4.toNat ∧ v.p4.toNat ≤ 3600 then .doneOk else .doneClamped := by
        rw [← ite_not]
        exact if_congr (by rw [Bool.not_eq_true]; exact timingClamped_iff v) rfl rfl
      exact hoc ▸ hadded
    · rw [hetiming, hecal i]
      obtain ⟨hquick, hfull, -⟩ := h.cal_fields i
      exact ⟨hquick, hfull⟩
    · intro newly
      have hnewly : ∀ i, newly i ↔ (s.cal i).newly t := by
        intro i
        show (_ ∧ e.timing.quickInterval ≤ _ ∨ _ ∧ e.timing.fullInterval ≤ _) ↔ _
        rw [hetiming]
        rfl
      refine ⟨fun hnone => ?_, fun i hold => ?_, fun i hnew => ?_⟩
      · rw [State.onlyScanner_iff, hbehind, hetiming, hestations, h.of_none (fun i => mt (hnewly i).2 (hnone i))]
        rfl
      · rw [hest i, hetiming]
        exact h.st_other (mt (hnewly i).2 hold)
      · rw [hest i, heph, hequeue, hetiming]
        have hmarked : (s.cal i).newly t := (hnewly i).1 hnew
        refine ⟨h.sheet_marked hmarked, fun hdozing hready => ?_, fun hdozing => ?_, fun hready hstacked hwaits hheld => ?_⟩
        · have hasks : (s.st i).asks = false := by simp [Station.asks, hready]
          rw [h.st_newly hmarked, h.st_unasked hmarked hasks, Station.dueMarked_of_other hdozing hasks]
          rfl
        · have hasks : (s.st i).asks = false := by simp [Station.asks, hdozing]
          rw [h.st_newly hmarked, h.st_unasked hmarked hasks, Station.dueMarked_of_dozing hdozing]
          simp [Station.aged]
        · obtain ⟨hdoze, hbusy, hfree, honly⟩ := h.asker hmarked (Station.asks_iff.2 ⟨hready, hstacked⟩) hwaits hheld
          refine ⟨hdoze, hbusy, hfree, fun hnobody hothers => honly hnobody (fun k hk hknew => ?_)⟩
          rw [← Bool.not_eq_true, Station.asks_iff]
          rintro ⟨hkready, hkstacked⟩
          exact hothers k hk ((hnewly k).2 hknew) hkready hkstacked

end Sys2Proof.Machine
end
